-- ==== Sys2Proof/Word.lean ====
section
/-! DEFINITION. The plainest types and arithmetic of the model: bytes, tables of a fixed length, and the
integer conventions of spec/00_scope.md ("Conventions", Arithmetic). Nothing here is about this part alone. -/

namespace Sys2Proof

/-- One byte of a host frame. -/
abbrev Byte := BitVec 8

/-- `clamp(x, a, b)` of the Conventions: `x` when `a ≤ x ≤ b`, `a` below, `b` above. -/
def clamp (x a b : Int) : Int := if x < a then a else if b < x then b else x

/-- The integer division `÷` of the Conventions: it truncates toward zero. -/
def quot (x y : Int) : Int := x.tdiv y

/-- Division of naturals rounded up (R106: "÷ 80 rounded up"). -/
def quotUp (x y : Nat) : Nat := (x + y - 1) / y

/-- A count that holds at `top`. -/
def bump (top n : Nat) : Nat := if n < top then n + 1 else top

/-- The entry `i` of a table, changed by `f`. -/
def upd {α : Type} {n : Nat} (v : Vector α n) (i : Fin n) (f : α → α) : Vector α n :=
  v.set i.val (f v[i.val]) i.isLt

/-- A table made entry by entry from another. -/
def mapAll {α β : Type} {n : Nat} (v : Vector α n) (f : Fin n → α → β) : Vector β n :=
  Vector.ofFn fun i => f i v[i.val]

/-- Do `f i` for every index `i` in rising order. -/
def forAll {σ : Type} (n : Nat) (f : Fin n → σ → σ) (s : σ) : σ :=
  (List.finRange n).foldl (fun s i => f i s) s

end Sys2Proof
end

