-- ==== Sys2Proof/Syntax.lean ====
section
/-! DEFINITION. The commands of the part, one constructor per row of spec/opcode_table.json. The part is a block
and not a processor: a row is a host request, a word or an edge from outside, or the expiry of one of the part's
own timers. A timer's expiry is a command too; notes/assumptions/1.md says how time is modelled. -/

namespace Sys2Proof

/-- A wheel position or corner, A-K to C-O, indexed 0 to 5 (Conventions, "Wheel positions and corners"). -/
abbrev Corner := Fin 6
/-- Axle A, B, C as 0, 1, 2. -/
abbrev Axle := Fin 3
/-- A passenger door: door `n` of the manual is index `n - 1`. -/
abbrev Door := Fin 4
/-- A slot of the Restraint Table: slot `n` of the manual (1 to 32) is index `n - 1` (R1). -/
abbrev Slot := Fin 32
/-- A sample channel in use, 0 to 20 (section 3.1). -/
abbrev Channel := Fin 21

/-- The five groups of RESET_GROUP, in the order of R180. -/
inductive Group where
  | brake | level | joint | doors | sense
deriving DecidableEq, Repr

/-- The two angle counters (section 3.4): the joint gives θ, the rear actuator δa. -/
inductive Angle where
  | joint | actuator
deriving DecidableEq, Repr

/-- The levels of a counter's two phase inputs, in the order of R56's cycle: both low, first phase high, both high,
second phase high. -/
inductive Phases where
  | bothLow | firstHigh | bothHigh | secondHigh
deriving DecidableEq, Repr

/-- The 27 valve pulse generators (R66). -/
inductive GenId where
  | apply (c : Corner) | brakeExhaust (c : Corner)
  | fill (c : Corner) | cornerExhaust (c : Corner)
  | kerbward | offward | damping
deriving DecidableEq, Repr

/-- What the line took at a word's stop bit: 1, 0, or nothing because the part's own inhibit cut the stop bit's
edge off after the parity bit had been taken (R141, R143). -/
inductive StopBit where
  | high | low | cutOff
deriving DecidableEq, Repr

/-- A request frame of the host as R170 gathers it, less the request code (the command's own name) and less the CRC
byte, which is right in these commands (a frame that fails R171 is FRAME_CHECK_FAIL): the owner byte, the payload, and
how many bytes the host clocked beyond the CRC. -/
structure HostFrame where
  owner   : Byte
  payload : List Byte
  extra   : Nat
deriving DecidableEq, Repr

/-- The commands, in the order of spec/opcode_table.json. -/
inductive Instr where
  | powerOn
  | resetInput
  | place (f : HostFrame)
  | query (f : HostFrame)
  | find (f : HostFrame)
  | list (f : HostFrame)
  | amend (f : HostFrame)
  | retire (f : HostFrame)
  | retireForce (f : HostFrame)
  | readEnvelope (f : HostFrame)
  | readBrake (f : HostFrame)
  | readCorner (f : HostFrame)
  | readJoint (f : HostFrame)
  | readDoor (f : HostFrame)
  | readSample (f : HostFrame)
  | setDoorRelease (f : HostFrame)
  | doorCommand (f : HostFrame)
  | setMode (f : HostFrame)
  | heartbeat (f : HostFrame)
  | ackAttention (f : HostFrame)
  | setAttentionMask (f : HostFrame)
  | lastStatus (f : HostFrame)
  | writeParam (f : HostFrame)
  | writeProfile (f : HostFrame)
  | writeXlate (f : HostFrame)
  | configDone (f : HostFrame)
  | resetGroup (f : HostFrame)
  | resetAll (f : HostFrame)
  /-- The bytes of one transaction as they arrived, the code first and the CRC where R170 puts it. -/
  | frameCheckFail (bytes : List Byte)
  | heartbeatTimerExpiry
  | groupResetEnd (g : Group)
  /-- The seventeen bits of a sample word: channel, fault flag, value (section 10.8, "Sample word"). -/
  | sampleWord (channel : BitVec 5) (fault : Bool) (value : BitVec 11)
  | sampleWordTimeout
  | sampleAgeExpiry (ch : Channel)
  | wheelPulse (w : Corner)
  | bucketTimerExpiry
  | stationaryTimerExpiry
  /-- The phase inputs of a counter take the levels `p`. -/
  | phaseTransition (a : Angle) (p : Phases)
  | illegalEntryExpiry (a : Angle)
  | centreMark (a : Angle)
  | armTimeout (i : Slot)
  | releaseStep (i : Slot)
  | singlePeriodEnd (g : GenId)
  | trainPeriodEnd (g : GenId)
  | dutyOpenEnd (g : GenId)
  | dutyPeriodEnd (g : GenId)
  | deadTimeEnd (g : GenId)
  | brakeCycle
  | cornerTimerExpiry (c : Corner)
  | strobeTimerExpiry (c : Corner)
  | waitTimerExpiry (c : Corner)
  | recoveryWindowExpiry (c : Corner)
  | haltTimerExpiry
  | jsCycle
  /-- A word whose parity bit has been taken: its seven code bits, its parity bit and its stop bit. -/
  | doorWord (d : Door) (code : BitVec 7) (parity : Bool) (stop : StopBit)
  | doorWordClockStop (d : Door)
  | inhibitMinEnd (d : Door)
  | lossTimerExpiry (d : Door)
  | sendStart (d : Door)
  | sendClockRelease (d : Door)
  /-- The eleventh edge of a send: `ack` when the module holds the data wire low at it. -/
  | sendAttemptEnd (d : Door) (ack : Bool)
  | sendTimeout (d : Door)
  | translateWord
  | prefixTimerExpiry (d : Door)
  | doorStartBit (d : Door)
deriving DecidableEq, Repr

end Sys2Proof
end

