-- ==== Sys2Proof/Decode.lean ====
section
/-! DEFINITION. The decoder of the opcode table's words. No row of spec/opcode_table.json gives bits (spec/98_reader.md
counts 0 rows with fixed bits and 0 with fields), so no word spells a command. -/

/-- The command that a word spells by the table's bits: none, since no row gives bits. -/
def Sys2Proof.decodeTableWord (_nbits _w : Nat) : Option Sys2Proof.Instr := none
end

