-- ==== Sys2Proof/Machine/Types.lean ====
section
/-! DEFINITION. The named values and records of the manual that State is built from: the Restraint Table's records
(01), the envelope (02), sample records and angle counters (03), valve programs and generators (04), brake records (05),
corner records (06), the joint controller's record (07), door lines (08), translation actions (09) and the host link's
statuses and parameters (10). A timer is the moment of its expiry in µs of the model's clock, or none while it is
stopped (notes/assumptions/1.md). -/

namespace Sys2Proof.Machine

/-! ### 01 The Restraint Table -/

/-- The twelve kinds, in the order of the kind profile table (section 1.3). -/
inductive Kind where
  | stopHold | doorOpen | doorEmergency | rampOut | kneel | speedCap | serviceLock | jointLimit | airCritical
  | sensorDegrade | startHold | supervisionLost
deriving DecidableEq, Repr

/-- The owners (section 1.2); `door d` is DOOR1 to DOOR4. -/
inductive Owner where
  | driver | depot | door (d : Door) | joint | plaus
deriving DecidableEq, Repr

/-- The states of a live record. -/
inductive RecState where
  | armed | active | releasing
deriving DecidableEq, Repr

/-- The release mode of a record (section 1.8). -/
inductive Mode where
  | latched | following
deriving DecidableEq, Repr

/-- Whether a record acts at once or waits for the vehicle to stand still (section 1.5). -/
inductive Trigger where
  | immediate | stationary
deriving DecidableEq, Repr

/-- The release conditions of R12; the implicit condition is in no list. -/
inductive Cond where
  | ownerRelease | allDoorsLocked | rampStowed | noKneel | configDone | doorLocked (d : Door)
deriving DecidableEq, Repr

/-- A condition of a profile row: a condition, or DOOR_LOCKED(own) that a placement resolves (R3). -/
inductive ProfileCond where
  | fixed (c : Cond) | doorLockedOwn
deriving DecidableEq, Repr

/-- The variants of KNEEL. -/
inductive Variant where
  | front | side
deriving DecidableEq, Repr

/-- A set of corners, bit `n` for corner `n` (section 10.8, "Encodings"). -/
abbrev Scope := BitVec 6

/-- The name of a record: a slot with that slot's generation (R2). Handle 0 is an absent handle. -/
structure Handle where
  slot : Slot
  gen  : BitVec 3
deriving DecidableEq, Repr

/-- A live record (section 1.2). The handle is the slot's. `armAt` and `stepAt` are its arm timer and its release step
timer; its arm time remaining is read from `armAt`. -/
structure Record where
  kind         : Kind
  owner        : Owner
  state        : RecState
  mode         : Mode
  trigger      : Trigger
  scope        : Scope
  floor        : Option Nat
  ceiling      : Option Nat
  steer        : Option Nat
  offset       : Option Int
  damping      : Option Nat
  delay        : Nat
  swing        : Option Nat
  armTimeout   : Nat
  conds        : List Cond
  parent       : Option Handle
  depth        : Nat
  ownerRelease : Bool
  releaseLeft  : Nat
  distLeft     : Nat
  risen        : Bool
  armAt        : Option Nat
  stepAt       : Option Nat
deriving DecidableEq, Repr

/-- A slot: its generation, and its record unless it is FREE. -/
structure SlotEntry where
  gen    : BitVec 3
  record : Option Record
deriving DecidableEq, Repr

/-- A row of the kind profile table. `none` is a dash: the kind lacks that effect. `scopeSide` is the second default
scope of KNEEL (R3) and is read for no other kind. -/
structure Profile where
  floor      : Option Nat
  ceiling    : Option Nat
  steer      : Option Nat
  offset     : Option Int
  damping    : Option Nat
  delay      : Nat
  swing      : Option Nat
  armTimeout : Nat
  conds      : List ProfileCond
  scope      : Scope
  scopeSide  : Scope
deriving DecidableEq, Repr

/-- The Restraint Table's state. -/
structure RestraintTable where
  slots       : Vector SlotEntry 32
  profiles    : Vector Profile 12
  changeCount : BitVec 16
deriving DecidableEq, Repr

/-! ### 02 The motion envelope -/

/-- The motion envelope (section 2.1). -/
structure Envelope where
  floors  : Vector Nat 3
  ceiling : Nat
  steer   : Nat
  offsets : Vector Int 6
  damping : Nat
  kneel   : Bool
deriving DecidableEq, Repr

/-- The Envelope Unit: the current envelope, its sequence number and the drive-inhibit line. -/
structure EnvelopeUnit where
  env     : Envelope
  seq     : BitVec 16
  inhibit : Bool
deriving DecidableEq, Repr

/-! ### 03 Sensing -/

/-- The states of a sample record (R46). -/
inductive SampleState where
  | valid | stale | fault
deriving DecidableEq, Repr

/-- A sample record with its age timer. -/
structure Sample where
  value : Nat
  state : SampleState
  ageAt : Option Nat
deriving DecidableEq, Repr

/-- What a reservoir comparator reads. -/
inductive Level where
  | above | below
deriving DecidableEq, Repr

/-- The Sense Port: the sample records, the discard count and the three reservoir comparators. -/
structure SensePort where
  samples  : Vector Sample 21
  discards : Nat
  reserve  : Level
  low      : Level
  critical : Level
deriving DecidableEq, Repr

/-- A wheel's pulse counter: the open bucket, the four closed buckets (oldest first) and the speed last figured. -/
structure Wheel where
  bucket : Nat
  closed : Vector Nat 4
  speed  : Nat
deriving DecidableEq, Repr

/-- An angle counter (section 3.4) with the levels of its phase inputs. `illegal` holds the arrival times of its recent
illegal transitions, oldest first. -/
structure AngleCounter where
  phases       : Phases
  count        : Int
  calibrated   : Bool
  valid        : Bool
  illegal      : List Nat
  illegalTotal : Nat
deriving DecidableEq, Repr

/-- The Motion Counters. `circ` and `teeth` are the values in use, which the bucket timer's expiry takes from the parameter store
(R52); `bucketAt` is the bucket timer, `stationaryAt` the stationary timer, `remainder` is in 1 ÷ teeth mm and `revs` are the
revolution counts of A-K, B-K and C-K (R55). -/
structure MotionCounters where
  circ         : Nat
  teeth        : Nat
  wheels       : Vector Wheel 6
  speed        : Nat
  moving       : Bool
  stationary   : Bool
  stationaryAt : Option Nat
  bucketAt     : Nat
  remainder    : Nat
  trip         : BitVec 32
  revs         : Vector Nat 3
  joint        : AngleCounter
  actuator     : AngleCounter
deriving DecidableEq, Repr

/-! ### 04 Valve pulse generators -/

/-- The four programs of a generator (section 4.2); times in ms, duty in percent. -/
inductive Program where
  | idle
  | single (t : Nat)
  | train (on off count : Nat)
  | duty (d : Nat)
deriving DecidableEq, Repr

/-- A generator (R66): its program, its output (`isOpen`), whether it is WAITING, the end of its present period (of its
wait while WAITING), the end of the open part of a DUTY period, a TRAIN's openings still to come, and the moment its
output last went from OPEN to CLOSED. -/
structure Generator where
  prog      : Program
  isOpen    : Bool
  waiting   : Bool
  endAt     : Option Nat
  openEndAt : Option Nat
  toCome    : Nat
  closedAt  : Option Nat
deriving DecidableEq, Repr

/-- Two generators whose valves act against each other. -/
structure Pair where
  first  : Generator
  second : Generator
deriving DecidableEq, Repr

/-- A member of a pair. -/
inductive Side where
  | first | second
deriving DecidableEq, Repr

/-- The 27 generators: APPLY with brake EXHAUST per channel, FILL with corner EXHAUST per corner, KERBWARD with
OFFWARD, and DAMPING. -/
structure Valves where
  brake   : Vector Pair 6
  level   : Vector Pair 6
  steer   : Pair
  damping : Generator
deriving DecidableEq, Repr

/-! ### 05 Service braking -/

/-- The run state of a brake channel. -/
inductive RunState where
  | running | degraded | held
deriving DecidableEq, Repr

/-- The slip states of section 5.6. -/
inductive SlipState where
  | follow | relieve | hold | reapply
deriving DecidableEq, Repr

/-- The last command of a brake channel, with the opening in ms. -/
inductive BrakeCommand where
  | none | apply (t : Nat) | exhaust (t : Nat)
deriving DecidableEq, Repr

/-- An axle's record (section 5.1). `latch` is the latched load index while the load latch is held. -/
structure BrakeAxle where
  load     : Nat
  lastFree : Option Nat
  latch    : Option Nat
  ceiling  : Nat
  driver   : Nat
  floor    : Nat
  base     : Nat
deriving DecidableEq, Repr

/-- A brake channel's record (section 5.1), with the wheel speed and the pressure sample that its latest cycle used
(R96 reads them back). -/
structure BrakeChannel where
  run         : RunState
  slip        : SlipState
  target      : Option Nat
  holdCount   : Nat
  slipValue   : Nat
  command     : BrakeCommand
  wheelUsed   : Nat
  sampleUsed  : Nat
  sampleState : SampleState
deriving DecidableEq, Repr

/-- The Brake Controller. `speedUsed` is the vehicle speed of the latest cycle and `cycleAt` the brake cycle timer. -/
structure BrakeController where
  demand       : Nat
  disagreement : Bool
  speedUsed    : Nat
  axles        : Vector BrakeAxle 3
  channels     : Vector BrakeChannel 6
  cycleAt      : Nat
deriving DecidableEq, Repr

/-! ### 06 Levelling -/

/-- A corner's control event source. -/
inductive Source where
  | timer50 | timer1000 | axleRev16 | none
deriving DecidableEq, Repr

/-- The levelling contexts. -/
inductive LevelContext where
  | stationary | slow | fast
deriving DecidableEq, Repr

/-- The kneel phases, in the order section 6.1 first lists them. -/
inductive KneelPhase where
  | level | lowering | kneeled | rising | halted
deriving DecidableEq, Repr

/-- The outcome of a judgement. -/
inductive LevelOutcome where
  | fill | exhaust | hold
deriving DecidableEq, Repr

/-- The sensor-check states of section 6.6. -/
inductive CheckState where
  | normal | strobe | wait | degraded
deriving DecidableEq, Repr

/-- An entry of the fill arbiter's waiting set: the corner's error and its fill program (R109). -/
structure WaitEntry where
  error : Int
  prog  : Program
deriving DecidableEq, Repr

/-- A corner's record (section 6.1). `sourceAt` is its source timer, `revs` its revolution count, `sum` and `count` its
accumulator, `checkAt` its strobe or wait timer, `recoveryAt` its recovery window, `strobe` its strobe output, and
`waiting` its entry in the waiting set. -/
structure CornerRecord where
  source     : Source
  sourceAt   : Option Nat
  revs       : Nat
  sum        : Nat
  count      : Nat
  last       : Option Nat
  offset     : Int
  phase      : KneelPhase
  haltHeight : Int
  outcome    : Option LevelOutcome
  check      : CheckState
  checkAt    : Option Nat
  recoveryAt : Option Nat
  strobe     : Bool
  waiting    : Option WaitEntry
deriving DecidableEq, Repr

/-- An entry of the rising list (R116). -/
structure RisingEntry where
  handle : Handle
  scope  : Scope
deriving DecidableEq, Repr

/-- The Levelling Controller. `reserve` is RESERVE as last sent by the Sense Port. -/
structure LevellingController where
  corners       : Vector CornerRecord 6
  context       : LevelContext
  reserve       : Level
  grants        : Vector (Option Corner) 2
  haltAt        : Option Nat
  resumePending : Bool
  strays        : Nat
  rising        : List RisingEntry
deriving DecidableEq, Repr

/-! ### 07 Joint and steer -/

/-- The joint states. -/
inductive JointState where
  | normal | watch | limit
deriving DecidableEq, Repr

/-- A row of the speed band table (section 7.2). -/
structure Band where
  gain    : Nat
  warn    : Nat
  limit   : Nat
  omega   : Nat
  damping : Nat
deriving DecidableEq, Repr

/-- The Joint and Steer Controller, with the stage values of its latest cycle that READ_JOINT returns (R136). `engaged`
is the centring lock: engaged means its solenoid is de-energized. -/
structure JointController where
  state       : JointState
  clear       : Nat
  previous    : Option Int
  speedUsed   : Nat
  band        : Fin 8
  rate        : Int
  damping     : Nat
  steerUsed   : Nat
  dampingUsed : Nat
  bound       : Int
  locked      : Bool
  target      : Int
  command     : Int
  error       : Int
  engaged     : Bool
  cycleAt     : Nat
deriving DecidableEq, Repr

/-! ### 08 Door lines -/

/-- The states of a door (R144), UNKNOWN last. -/
inductive DoorState where
  | locked | closed | opening | open | closing | obstructed | fault | unknown
deriving DecidableEq, Repr

/-- The ramp state of door 2. -/
inductive RampState where
  | out | stowed | unknown
deriving DecidableEq, Repr

/-- The activity of a line. -/
inductive Activity where
  | listening | receiving | held | sending
deriving DecidableEq, Repr

/-- The eight commands (section 8.4). -/
inductive Command where
  | permit | withhold | close | lock | unlock | chimeShort | chimeLong | queryState
deriving DecidableEq, Repr

/-- The classes of the commands. -/
inductive CommandClass where
  | permission | closure | chime | query
deriving DecidableEq, Repr

/-- A loss timer (R142, R150): stopped, running to a moment, or paused with its time left in µs. -/
inductive LossTimer where
  | stopped | running (at_ : Nat) | paused (left : Nat)
deriving DecidableEq, Repr

/-- What has happened to the queue during a send (R149). -/
inductive SendFate where
  | alone | replaced | emptied
deriving DecidableEq, Repr

/-- A word that was complete when the part's send took the clock low, kept to the send's end (R143, R145). -/
structure KeptWord where
  code   : BitVec 7
  parity : Bool
  stop   : StopBit
deriving DecidableEq, Repr

/-- A send under way (R147, R148): the command it carries, whether the part has released the clock, what has happened
to the queue, when the clock is to be released, when the attempt times out, and a kept word. -/
structure Send where
  command   : Command
  released  : Bool
  fate      : SendFate
  releaseAt : Nat
  timeoutAt : Nat
  kept      : Option KeptWord
deriving DecidableEq, Repr

/-- A door line (chapter 8). `clockLow` and `dataLow` say that the part holds the wire low; `minimumAt` is the end of the
100 µs minimum inhibit while it runs; `freeSince` is the moment since which the line has been LISTENING with its clock
free; `edgeAt` is the moment of the latest falling edge of a word being received; `sent` is the model's record of the levels that the
part set on the data wire in the latest send that ran to its eleventh edge. -/
structure Line where
  present       : Bool
  loss          : LossTimer
  activity      : Activity
  holding       : Option (BitVec 7)
  prefixPending : Bool
  queue         : List Command
  attempts      : Nat
  sendWait      : Bool
  errors        : Nat
  door          : DoorState
  clockLow      : Bool
  dataLow       : Bool
  minimumAt     : Option Nat
  freeSince     : Nat
  edgeAt        : Nat
  send          : Option Send
  sent          : List Bool
deriving DecidableEq, Repr

/-- The Door Line Controller. -/
structure DoorLines where
  lines : Vector Line 4
  ramp  : RampState
deriving DecidableEq, Repr

/-! ### 09 Translation -/

/-- The actions of a translation cell. A PLACE of a kind other than KNEEL disregards its variant. -/
inductive Action where
  | ignore
  | place (k : Kind) (v : Variant)
  | release (k : Kind)
  | send (c : Command)
  | haltKneel | resumeKneel | clearQueue
deriving DecidableEq, Repr

/-- The contexts of R158, in its order. -/
inductive Context where
  | service | moving | released | held
deriving DecidableEq, Repr

/-- The Door Code Translator. Cell (row, context) is entry `4 × row + context`; `releaseSet` has bit `n - 1` for door
`n`; `lastServed` is the line served last. -/
structure Translator where
  cells      : Vector (List Action) 1024
  releaseSet : BitVec 4
  ignored    : Vector Nat 4
  prefixAt   : Vector (Option Nat) 4
  lastServed : Door
deriving DecidableEq, Repr

/-! ### 10 The host link -/

/-- The statuses, in the order of their codes (section 10.8). -/
inductive Status where
  | ok | clamped | already | revived | full | stale | notOwner | depth | badField | badState | check | unknown
deriving DecidableEq, Repr

/-- The eleven attention flags, in the order of section 10.3. -/
inductive Flag where
  | record | recordTimeout | door | slip | joint | sensor | air | pedal | kneel | link | reset
deriving DecidableEq, Repr

/-- The reset cause. -/
inductive Cause where
  | powerOn | resetAll
deriving DecidableEq, Repr

/-- The parameter store (R177). `sources` has entry corner × 3 + context. -/
structure Params where
  circ     : Nat
  teeth    : Nat
  reserve  : Nat
  low      : Nat
  critical : Nat
  cmin     : Vector Nat 3
  cmax     : Vector Nat 3
  lempty   : Vector Nat 3
  lfull    : Vector Nat 3
  slipIn   : Nat
  slipOut  : Nat
  relieve  : Nat
  reapply  : Nat
  holds    : Nat
  ride     : Nat
  bandStat : Nat
  bandMove : Nat
  sources  : Vector Source 18
  bands    : Vector Band 8
deriving DecidableEq, Repr

/-- The Host Link. `response` is the pending response frame; `current` is the code and status of the request it
answers and `last` the last status (R173); `shifted` is what the part shifted out in the latest transaction;
`supervised` is the supervision state OK; `resets` holds the end of each group's reset while it lasts. -/
structure HostLink where
  response   : List Byte
  shifted    : List Byte
  current    : Byte × Status
  last       : Byte × Status
  flags      : BitVec 11
  mask       : BitVec 11
  cause      : Cause
  heartAt    : Option Nat
  supervised : Bool
  runCount   : Nat
  configured : Bool
  service    : Bool
  resets     : Vector (Option Nat) 5
  params     : Params
deriving DecidableEq, Repr

end Sys2Proof.Machine
end

