-- ==== Sys2Proof/Config.lean ====
section
/-! DEFINITION. The unit of the model's clock, and the one value that the manual does not state and the model leaves free
(notes/assumptions/2.md and 30.md). What the manual fixes by number stands in Sys2Proof/Machine/Defaults.lean. -/

namespace Sys2Proof.Machine

/-- One millisecond in the units of the model's clock, which are µs (notes/assumptions/1.md). -/
def ms : Nat := 1000

/-- DESIGN CHOICE (notes/assumptions/30.md): the time left that the report of a WAITING generator carries. R77 reports the time left
in the present period, and the periods of a held program have not begun (R73), so the value is free: it is given by the moment of
the reading and the end of the wait, and nothing else is known of it. -/
opaque waitingLeft (now : Nat) (wait : Option Nat) : BitVec 16

end Sys2Proof.Machine
end

