-- ==== Sys2Proof/Machine/Defaults.lean ====
section
/-! DEFINITION. What the manual fixes for the part by number: the periods of its timers (in µs), the modes, triggers and permitted
owners of the kinds and the default contents of the kind profile table (section 1.3), the translation table (R167), the parameter
store (R177) and the speed band table (section 7.2). -/

namespace Sys2Proof.Machine

/-! ### Periods, in µs -/

/-- The age timer of a sample channel (R44). -/
def agePeriod : Nat := 30 * ms
/-- The bucket timer (section 3.3), the brake cycle (R78) and the JS cycle (R124). -/
def cyclePeriod : Nat := 10 * ms
/-- The stationary timer (R54). -/
def stationaryPeriod : Nat := 200 * ms
/-- How long an illegal transition stays listed (R57). -/
def illegalPeriod : Nat := 1000 * ms
/-- A release step (R13). -/
def stepPeriod : Nat := 50 * ms
/-- The dead time of a pair (R73). -/
def deadTime : Nat := 2 * ms
/-- A DUTY period, and the open part of it per percent of duty (R70). -/
def dutyPeriod : Nat := 5 * ms
def dutyUnit : Nat := 50
/-- The strobe (R117), the recovery wait (R117), the recovery window (R118) and the halt timer (R114). -/
def strobePeriod : Nat := 20 * ms
def waitPeriod : Nat := 100 * ms
def recoveryPeriod : Nat := 60000 * ms
def haltPeriod : Nat := 1000 * ms
/-- A door line's loss timer (R141), least inhibit (R142), listening time before a send (R147), time from a send's start
to the clock's release (R148), time for the eleventh edge (R148) and time between the edges of a word (R140). -/
def lossPeriod : Nat := 250 * ms
def inhibitPeriod : Nat := 100
def listenPeriod : Nat := 1 * ms
def sendHoldPeriod : Nat := 100
def sendPeriod : Nat := 2 * ms
def edgePeriod : Nat := 200
/-- The prefix timer (R157) and the heartbeat timer (R179). -/
def prefixPeriod : Nat := 100 * ms
def heartPeriod : Nat := 100 * ms

/-! ### Kinds -/

/-- The place of a kind in the kind profile table, which is its code (section 10.8). -/
def Kind.index : Kind → Fin 12
  | .stopHold => 0 | .doorOpen => 1 | .doorEmergency => 2 | .rampOut => 3 | .kneel => 4 | .speedCap => 5
  | .serviceLock => 6 | .jointLimit => 7 | .airCritical => 8 | .sensorDegrade => 9 | .startHold => 10
  | .supervisionLost => 11

/-- The twelve kinds in the order of their codes. -/
def allKinds : List Kind :=
  [.stopHold, .doorOpen, .doorEmergency, .rampOut, .kneel, .speedCap, .serviceLock, .jointLimit, .airCritical,
   .sensorDegrade, .startHold, .supervisionLost]

/-- The mode of a kind (section 1.3), which no request changes (R3). -/
def Kind.mode : Kind → Mode
  | .doorEmergency | .kneel | .serviceLock | .startHold => .latched
  | .stopHold | .doorOpen | .rampOut | .speedCap | .jointLimit | .airCritical | .sensorDegrade
  | .supervisionLost => .following

/-- The trigger of a kind (section 1.3). -/
def Kind.trigger : Kind → Trigger
  | .stopHold | .kneel | .serviceLock => .stationary
  | .doorOpen | .doorEmergency | .rampOut | .speedCap | .jointLimit | .airCritical | .sensorDegrade | .startHold
  | .supervisionLost => .immediate

/-- Section 1.3, "Permitted owners". -/
def Kind.permits : Kind → Owner → Bool
  | .stopHold, .driver | .stopHold, .depot | .speedCap, .driver | .speedCap, .depot => true
  | .serviceLock, .depot => true
  | .doorOpen, .door _ | .doorEmergency, .door _ => true
  | .rampOut, .door d => d == 1
  | .kneel, .driver | .kneel, .door _ => true
  | .jointLimit, .joint => true
  | .airCritical, .plaus | .sensorDegrade, .plaus | .startHold, .plaus | .supervisionLost, .plaus => true
  | _, _ => false

/-- All six corners. -/
def allCorners : Scope := 0b111111#6
/-- The corners A-K, B-K and C-K. -/
def kerbCorners : Scope := 0b010101#6

/-- The default row of a kind (section 1.3, "Default profiles"). -/
def defaultProfile : Kind → Profile
  | .stopHold => {
      floor := some 250, ceiling := some 0, steer := none, offset := none, damping := none, delay := 800, swing := none,
      armTimeout := 0, scope := allCorners, scopeSide := 0,
      conds := [.fixed .ownerRelease, .fixed .allDoorsLocked, .fixed .rampStowed, .fixed .noKneel] }
  | .doorOpen => {
      floor := some 250, ceiling := some 0, steer := some 0, offset := none, damping := none, delay := 500,
      swing := some 120, armTimeout := 0, scope := allCorners, scopeSide := 0,
      conds := [.fixed .ownerRelease, .doorLockedOwn] }
  | .doorEmergency => {
      floor := some 150, ceiling := some 50, steer := none, offset := none, damping := none, delay := 2000,
      swing := none, armTimeout := 0, scope := allCorners, scopeSide := 0,
      conds := [.fixed .ownerRelease, .doorLockedOwn] }
  | .rampOut => {
      floor := some 300, ceiling := some 0, steer := some 0, offset := none, damping := none, delay := 500,
      swing := some 120, armTimeout := 0, scope := allCorners, scopeSide := 0,
      conds := [.fixed .ownerRelease, .fixed .rampStowed] }
  | .kneel => {
      floor := none, ceiling := some 0, steer := some 0, offset := some (-70), damping := none, delay := 0,
      swing := none, armTimeout := 10000, scope := 0b000001#6, scopeSide := kerbCorners,
      conds := [.fixed .ownerRelease] }
  | .speedCap => {
      floor := none, ceiling := some 300, steer := none, offset := none, damping := none, delay := 0, swing := none,
      armTimeout := 0, scope := 0, scopeSide := 0, conds := [.fixed .ownerRelease] }
  | .serviceLock => {
      floor := some 300, ceiling := some 0, steer := none, offset := none, damping := none, delay := 1000,
      swing := none, armTimeout := 0, scope := allCorners, scopeSide := 0, conds := [.fixed .ownerRelease] }
  | .jointLimit => {
      floor := none, ceiling := some 150, steer := none, offset := none, damping := some 7, delay := 1000,
      swing := none, armTimeout := 0, scope := 0, scopeSide := 0, conds := [.fixed .ownerRelease] }
  | .airCritical => {
      floor := none, ceiling := some 200, steer := none, offset := none, damping := none, delay := 0, swing := none,
      armTimeout := 0, scope := 0, scopeSide := 0, conds := [.fixed .ownerRelease] }
  | .sensorDegrade => {
      floor := none, ceiling := some 300, steer := none, offset := none, damping := none, delay := 0, swing := none,
      armTimeout := 0, scope := 0, scopeSide := 0, conds := [.fixed .ownerRelease] }
  | .startHold => {
      floor := some 300, ceiling := some 0, steer := some 0, offset := none, damping := none, delay := 500,
      swing := some 0, armTimeout := 0, scope := allCorners, scopeSide := 0,
      conds := [.fixed .configDone, .fixed .allDoorsLocked] }
  | .supervisionLost => {
      floor := none, ceiling := some 150, steer := none, offset := none, damping := none, delay := 0, swing := none,
      armTimeout := 0, scope := 0, scopeSide := 0, conds := [.fixed .ownerRelease] }

/-- The kind profile table after power-on and RESET_ALL (R3). -/
def defaultProfiles : Vector Profile 12 :=
  #v[defaultProfile .stopHold, defaultProfile .doorOpen, defaultProfile .doorEmergency, defaultProfile .rampOut,
     defaultProfile .kneel, defaultProfile .speedCap, defaultProfile .serviceLock, defaultProfile .jointLimit,
     defaultProfile .airCritical, defaultProfile .sensorDegrade, defaultProfile .startHold,
     defaultProfile .supervisionLost]

/-! ### The translation table -/

/-- The place of a context among the four columns (R168 lists them). -/
def Context.index : Context → Fin 4
  | .service => 0 | .moving => 1 | .released => 2 | .held => 3

/-- The four contexts in that order. -/
def allContexts : List Context := [.service, .moving, .released, .held]

/-- A cell of the default table (R167); every row not listed holds IGNORE. -/
def defaultCell (row : Nat) (x : Context) : List Action :=
  match row, x with
  | 0x01, _ => [.release .doorOpen]
  | 0x03, .moving | 0x04, .moving => [.place .doorEmergency .front, .send .chimeLong]
  | 0x03, _ | 0x04, _ => [.place .doorOpen .front]
  | 0x06, _ => [.send .chimeShort]
  | 0x10, .released | 0x11, .released => [.send .permit]
  | 0x10, .held | 0x11, .held => [.send .chimeShort]
  | 0x12, .released => [.place .kneel .side]
  | 0x12, .held => [.send .chimeShort]
  | 0x13, _ => [.place .doorEmergency .front, .clearQueue]
  | 0x14, _ => [.release .doorEmergency]
  | 0x15, .moving => [.ignore]
  | 0x15, _ => [.place .rampOut .front, .place .kneel .side]
  | 0x16, _ => [.release .rampOut, .release .kneel]
  | 0x17, _ => [.haltKneel]
  | 0x18, _ => [.resumeKneel]
  | n, _ => if 0x20 ≤ n && n ≤ 0x2F then [.send .queryState] else [.ignore]

/-- The context of a column number. -/
def contextOf : Nat → Context
  | 0 => .service | 1 => .moving | 2 => .released | _ => .held

/-- The translation table after power-on and RESET_ALL (R167). -/
def defaultCells : Vector (List Action) 1024 :=
  Vector.ofFn fun i => defaultCell (i.val / 4) (contextOf (i.val % 4))

/-! ### The parameter store -/

/-- The speed band table (section 7.2). -/
def defaultBands : Vector Band 8 :=
  #v[⟨900, 500, 550, 40, 1⟩, ⟨700, 480, 540, 30, 1⟩, ⟨512, 400, 500, 20, 2⟩, ⟨300, 300, 400, 15, 3⟩,
     ⟨150, 200, 300, 10, 4⟩, ⟨60, 150, 220, 8, 5⟩, ⟨0, 100, 160, 6, 6⟩, ⟨0, 80, 120, 5, 6⟩]

/-- The source table: for every corner TIMER_50, TIMER_1000, AXLE_REV16 (R101). -/
def defaultSources : Vector Source 18 :=
  #v[.timer50, .timer1000, .axleRev16, .timer50, .timer1000, .axleRev16, .timer50, .timer1000, .axleRev16,
     .timer50, .timer1000, .axleRev16, .timer50, .timer1000, .axleRev16, .timer50, .timer1000, .axleRev16]

/-- The parameter store after power-on and RESET_ALL (R177). -/
def defaultParams : Params where
  circ     := 3140
  teeth    := 80
  reserve  := 620
  low      := 550
  critical := 450
  cmin     := #v[350, 400, 450]
  cmax     := #v[700, 800, 900]
  lempty   := #v[200, 250, 300]
  lfull    := #v[500, 550, 650]
  slipIn   := 140
  slipOut  := 80
  relieve  := 60
  reapply  := 20
  holds    := 3
  ride     := 260
  bandStat := 6
  bandMove := 12
  sources  := defaultSources
  bands    := defaultBands

end Sys2Proof.Machine
end

