-- ==== Sys2Proof/Machine/ResetValues.lean ====
section
/-! DEFINITION. What each block holds after power-on and after RESET_ALL (R29, R42, R64, R76, R97, R121, R137, R153, R169, R181). -/

namespace Sys2Proof.Machine

/-- START_HOLD as R29 places it: the values of its profile row (R3), ACTIVE, its trigger being IMMEDIATE. -/
def startHoldRecord : Record where
  kind         := .startHold
  owner        := .plaus
  state        := .active
  mode         := .latched
  trigger      := .immediate
  scope        := allCorners
  floor        := some 300
  ceiling      := some 0
  steer        := some 0
  offset       := none
  damping      := none
  delay        := 500
  swing        := some 0
  armTimeout   := 0
  conds        := [.configDone, .allDoorsLocked]
  parent       := none
  depth        := 1
  ownerRelease := false
  releaseLeft  := 0
  distLeft     := 0
  risen        := false
  armAt        := none
  stepAt       := none

/-- R29: every slot FREE at generation 0 but slot 25, which holds START_HOLD. -/
def resetTable : RestraintTable where
  slots := (Vector.replicate 32 ⟨0, none⟩).set 24 ⟨0, some startHoldRecord⟩
  profiles := defaultProfiles
  changeCount := 0

/-- The envelope of an empty table: every item at its neutral value (section 2.1, R42). -/
def neutralEnvelope : Envelope where
  floors := #v[0, 0, 0]
  ceiling := 800
  steer := 140
  offsets := Vector.replicate 6 0
  damping := 0
  kneel := false

/-- R42: the envelope START_HOLD's placement forms, sequence number 1, drive-inhibit line asserted. -/
def resetEnvelopeUnit : EnvelopeUnit where
  env := { floors := #v[300, 300, 300], ceiling := 0, steer := 0, offsets := Vector.replicate 6 0, damping := 0,
           kneel := false }
  seq := 1
  inhibit := true

/-- R64: every sample record STALE with value 0, discard count 0, every comparator BELOW. -/
def resetSensePort : SensePort where
  samples := Vector.replicate 21 ⟨0, .stale, none⟩
  discards := 0
  reserve := .below
  low := .below
  critical := .below

/-- R64: an angle counter after reset. Its phase inputs are pins, and no reset moves them. -/
def resetAngle (p : Phases) : AngleCounter where
  phases := p
  count := 0
  calibrated := false
  valid := true
  illegal := []
  illegalTotal := 0

/-- R64: the wheel counters, the flags and the distance state, with the bucket and stationary timers started. -/
def resetMotion (now : Nat) (joint actuator : Phases) : MotionCounters where
  circ := defaultParams.circ
  teeth := defaultParams.teeth
  wheels := Vector.replicate 6 ⟨0, Vector.replicate 4 0, 0⟩
  speed := 0
  moving := false
  stationary := false
  stationaryAt := some (now + stationaryPeriod)
  bucketAt := now + cyclePeriod
  remainder := 0
  trip := 0
  revs := Vector.replicate 3 0
  joint := resetAngle joint
  actuator := resetAngle actuator

/-- A generator that is IDLE and CLOSED and counts as never having closed (R76). -/
def freshGenerator : Generator where
  prog := .idle
  isOpen := false
  waiting := false
  endAt := none
  openEndAt := none
  toCome := 0
  closedAt := none

/-- R76: every generator after power-on. -/
def freshValves : Valves where
  brake := Vector.replicate 6 ⟨freshGenerator, freshGenerator⟩
  level := Vector.replicate 6 ⟨freshGenerator, freshGenerator⟩
  steer := ⟨freshGenerator, freshGenerator⟩
  damping := freshGenerator

/-- A generator made IDLE and CLOSED without a completion event, keeping its moment of last closing (R75, R76). -/
def Generator.quiet (now : Nat) (g : Generator) : Generator :=
  { freshGenerator with closedAt := if g.isOpen then some now else g.closedAt }

/-- Both members of a pair made IDLE and CLOSED without events. -/
def Pair.quiet (now : Nat) (p : Pair) : Pair := ⟨p.first.quiet now, p.second.quiet now⟩

/-- Every generator made IDLE and CLOSED without events (R76). -/
def Valves.quiet (now : Nat) (v : Valves) : Valves where
  brake := mapAll v.brake fun _ p => p.quiet now
  level := mapAll v.level fun _ p => p.quiet now
  steer := v.steer.quiet now
  damping := v.damping.quiet now

/-- R97: a brake channel after reset, HELD with no target. The values its latest cycle used stand at 0 and STALE, as no
cycle has run (notes/assumptions/4.md). -/
def resetChannel : BrakeChannel where
  run := .held
  slip := .follow
  target := none
  holdCount := 0
  slipValue := 0
  command := .none
  wheelUsed := 0
  sampleUsed := 0
  sampleState := .stale

/-- R97: the Brake Controller, its cycle timer started. -/
def resetBrake (now : Nat) : BrakeController where
  demand := 0
  disagreement := false
  speedUsed := 0
  axles := Vector.replicate 3 ⟨0, none, none, 0, 0, 0, 0⟩
  channels := Vector.replicate 6 resetChannel
  cycleAt := now + cyclePeriod

/-- R121: a corner after reset. The context is SLOW, so it has taken up TIMER_1000. -/
def resetCorner (now : Nat) : CornerRecord where
  source := .timer1000
  sourceAt := some (now + 1000 * ms)
  revs := 0
  sum := 0
  count := 0
  last := none
  offset := 0
  phase := .level
  haltHeight := 0
  outcome := none
  check := .normal
  checkAt := none
  recoveryAt := none
  strobe := false
  waiting := none

/-- R121: the Levelling Controller. -/
def resetLevelling (now : Nat) : LevellingController where
  corners := Vector.replicate 6 (resetCorner now)
  context := .slow
  reserve := .below
  grants := #v[none, none]
  haltAt := none
  resumePending := false
  strays := 0
  rising := []

/-- R137: the Joint and Steer Controller, its cycle timer started. The stage values R137 does not list stand at 0
(notes/assumptions/4.md). -/
def resetJoint (now : Nat) : JointController where
  state := .normal
  clear := 0
  previous := none
  speedUsed := 0
  band := 0
  rate := 0
  damping := 7
  steerUsed := 0
  dampingUsed := 0
  bound := 0
  locked := true
  target := 0
  command := 0
  error := 0
  engaged := true
  cycleAt := now + cyclePeriod

/-- R153: a door line after reset. A clock that the reset finds low stays low to the end of its 100 µs (R142). -/
def resetLine (now : Nat) (held : Option Nat) : Line where
  present := false
  loss := .stopped
  activity := .listening
  holding := none
  prefixPending := false
  queue := []
  attempts := 0
  sendWait := true
  errors := 0
  door := .unknown
  clockLow := held.isSome
  dataLow := false
  minimumAt := held
  freeSince := now
  edgeAt := now
  send := none
  sent := []

/-- R169: the Door Code Translator. Line 4 counts as the line served last. -/
def resetTranslator : Translator where
  cells := defaultCells
  releaseSet := 0
  ignored := Vector.replicate 4 0
  prefixAt := Vector.replicate 4 none
  lastServed := 3

/-- The reset response of R181: code 0x00, status OK, one payload byte, the reset cause, and its CRC
(`Laws.resetResponse_crc` checks it against section 10.8). -/
def resetResponse : Cause → List Byte
  | .powerOn => [0x00, 0x00, 0x01, 0x00, 0x04]
  | .resetAll => [0x00, 0x00, 0x01, 0x01, 0x2B]

/-- R181 and R173: the Host Link. The attention flag RESET is bit 10. -/
def resetLink (cause : Cause) (shifted : List Byte) : HostLink where
  response := resetResponse cause
  shifted := shifted
  current := match cause with | .powerOn => (0x00, .ok) | .resetAll => (0x41, .ok)
  last := match cause with | .powerOn => (0x00, .ok) | .resetAll => (0x41, .ok)
  flags := 0x400
  mask := 0x7FF
  cause := cause
  heartAt := none
  supervised := true
  runCount := 0
  configured := false
  service := false
  resets := Vector.replicate 5 none
  params := defaultParams

/-- The 100 µs minimum inhibit of a line that has still to run at `now` (R142). -/
def Line.minimumLeft (now : Nat) (l : Line) : Option Nat :=
  match l.clockLow, l.minimumAt with
  | true, some t => if now < t then some t else none
  | _, _ => none

/-- The four lines after a reset that found them as given (R142, R153). -/
def resetLines (now : Nat) (lines : Vector Line 4) : DoorLines :=
  ⟨mapAll lines fun _ l => resetLine now (l.minimumLeft now), .unknown⟩

end Sys2Proof.Machine
end

