-- ==== Sys2Proof/Machine/State.lean ====
section
/-! DEFINITION. The state of the part: one record per block of spec/00_scope.md's block diagram, the queue of commands
that wait, the model's clock, and whether the reset input is held; and the values the manual gives after power-on and
after RESET_ALL. -/

namespace Sys2Proof.Machine

/-- The state of the part. `pending` (the commands that wait, first in first out) and `now` (the model's clock, in µs) are
the model's own fields (notes/assumptions/1.md and 3.md); `degraded` is the degraded-sensor set as PLAUS last acted on it
(R62): bit `n` for channel `n`, bit 21 for θ, bit 22 for δa. -/
structure State where
  pending   : List Instr
  now       : Nat
  resetHeld : Bool
  rt        : RestraintTable
  eu        : EnvelopeUnit
  sp        : SensePort
  mc        : MotionCounters
  valves    : Valves
  bc        : BrakeController
  lc        : LevellingController
  js        : JointController
  dl        : DoorLines
  dt        : Translator
  hl        : HostLink
  degraded  : BitVec 23
deriving DecidableEq, Repr

/-- The faults of the machine: none. No rule of spec/ stops the part, and the part has no address space an access could
miss. Nothing raises a fault. -/
inductive Fault where
deriving DecidableEq, Repr

/-- The refusals of the model. -/
inductive Refusal where
  /-- Raised by an arm of exec whose command has no meaning yet. Safe: the model stops where the part goes on. No arm
  of this model raises it. -/
  | notModelled (mnemonic : String)
deriving DecidableEq, Repr

/-! ### Reset -/

/-- The end of power-on, at the moment `now`, with the queue and the phase inputs given: every block's power-on value,
then START_HOLD placed (R29, R42). -/
def State.powered (now : Nat) (pending : List Instr) (joint actuator : Phases) : State where
  pending := pending
  now := now
  resetHeld := false
  rt := resetTable
  eu := resetEnvelopeUnit
  sp := resetSensePort
  mc := resetMotion now joint actuator
  valves := freshValves
  bc := resetBrake now
  lc := resetLevelling now
  js := resetJoint now
  dl := ⟨Vector.replicate 4 (resetLine now none), .unknown⟩
  dt := resetTranslator
  hl := resetLink .powerOn []
  degraded := 0

/-- The machine right after power-on: nothing waits, the clock stands at 0, and both counters' phase inputs are taken as
low (notes/assumptions/5.md). -/
def State.reset : State := State.powered 0 [] .bothLow .bothLow

end Sys2Proof.Machine
end

