-- ==== Sys2Proof/Machine/Flags.lean ====
section
/-! DEFINITION. Every flag computation of the manual: the attention flags and the attention line (section 10.3), the
moving and stationary flags (R54), the reservoir comparators (R48, R49) and the drive-inhibit condition (R40). -/

namespace Sys2Proof.Machine

/-- The bit of a flag in a flag set (section 10.8: bit 0 for RECORD through to bit 10 for RESET). -/
def Flag.bit : Flag → Nat
  | .record => 0 | .recordTimeout => 1 | .door => 2 | .slip => 3 | .joint => 4 | .sensor => 5 | .air => 6
  | .pedal => 7 | .kneel => 8 | .link => 9 | .reset => 10

/-- The flag set that holds one flag. -/
def Flag.mask (f : Flag) : BitVec 11 := 1#11 <<< f.bit

/-- Set an attention flag (R174): a flag already set stays set. -/
def setFlag (f : Flag) (s : State) : State := { s with hl := { s.hl with flags := s.hl.flags ||| f.mask } }

/-- Set an attention flag when `b` holds. -/
def setFlagIf (b : Bool) (f : Flag) (s : State) : State := if b then setFlag f s else s

/-- Is an attention flag set? -/
def State.flag (s : State) (f : Flag) : Bool := s.hl.flags.getLsbD f.bit

/-- The attention line is active, driven low, while a flag is both set and enabled and the reset input is not held
(R174). -/
def State.attentionActive (s : State) : Bool := !s.resetHeld && (s.hl.flags &&& s.hl.mask) != 0

/-- R40: what the drive-inhibit line is to be with the door states, the envelope ceiling and the vehicle speed given. -/
def inhibitCalled (lines : Vector Line 4) (ceiling speed : Nat) : Bool :=
  lines.toList.any (fun l => l.door != .locked) || ceiling == 0 || decide (ceiling < speed + 20)

/-- R41: the drive-inhibit line evaluated afresh. -/
def evalInhibit (s : State) : State :=
  { s with eu := { s.eu with inhibit := inhibitCalled s.dl.lines s.eu.env.ceiling s.mc.speed } }

/-- R54: the moving flag at a speed: set at 30 or more, clear below 20, else as it was. -/
def movingAt (speed : Nat) (was : Bool) : Bool := if 30 ≤ speed then true else if speed < 20 then false else was

/-- R54: the stationary flag is cleared at a speed of 10 or more; only its timer sets it. -/
def stationaryAt (speed : Nat) (was : Bool) : Bool := if 10 ≤ speed then false else was

/-- R54: the stationary timer when a speed is figured at `now`, the flag being as given after it. -/
def stationaryTimer (now speed : Nat) (flag : Bool) (timer : Option Nat) : Option Nat :=
  if flag then none
  else if speed < 5 then (match timer with | some t => some t | none => some (now + stationaryPeriod))
  else none

/-- R48: a comparator that reads ABOVE goes BELOW under its threshold; one that reads BELOW goes ABOVE at the threshold
plus 20. R48 says of a threshold above 1180 also that its comparator 'then reads BELOW at every word'; one that reads ABOVE and meets a
word at or above such a threshold stays ABOVE here, by the rule's first sentence (DESIGN CHOICE, notes/assumptions/37.md). -/
def compare (threshold value : Nat) : Level → Level
  | .above => if value < threshold then .below else .above
  | .below => if threshold + 20 ≤ value then .above else .below

end Sys2Proof.Machine
end

