-- ==== Sys2Proof/Machine/Ops.lean ====
section
/-! DEFINITION. The operations every family of commands shares: the model's clock and the timers read against it, the
group resets in progress, and the handles and records of the Restraint Table. A block has no exception entry. -/

namespace Sys2Proof.Machine

/-! ### The clock -/

/-- The clock is at `t` at least: a timer's expiry is taken no sooner than the timer runs out (notes/assumptions/1.md). -/
def atLeast (t : Nat) (s : State) : State := { s with now := max s.now t }

/-- The time a timer has left, in ms, rounded down; none when it is stopped. -/
def leftMs (now : Nat) (timer : Option Nat) : Option Nat := timer.map fun t => (t - now) / ms

/-- The effect of a command on a part that is not held in reset. While the reset input is held the part takes nothing
(R42: the host link takes a request only after the reset ends; notes/assumptions/6.md). -/
def running (f : State → State) (s : State) : Host.Outcome State Fault Refusal :=
  .next (if s.resetHeld then s else f s)

/-! ### Group resets and RESET_ALL -/

/-- The state RESET_ALL leaves (R181): the power-on values, but for the moments of last closing (R76), the minimum
inhibits that run (R142), the phase inputs, which are pins, and the reset cause and last status. -/
def State.allReset (s : State) : State :=
  { State.powered s.now s.pending s.mc.joint.phases s.mc.actuator.phases with
    valves := s.valves.quiet s.now
    dl := resetLines s.now s.dl.lines
    hl := resetLink .resetAll s.hl.shifted }

/-- The place of a group among the five reset counts; it is the group's code in a frame (section 10.8). -/
def Group.index : Group → Fin 5
  | .brake => 0 | .level => 1 | .joint => 2 | .doors => 3 | .sense => 4

/-- Is a reset of the group in progress (R180)? -/
def State.inReset (s : State) (g : Group) : Bool := s.hl.resets[(Group.index g).val].isSome

/-! ### Records and handles -/

/-- The record in a slot. -/
def State.recordAt (s : State) (i : Slot) : Option Record := s.rt.slots[i.val].record

/-- The handle of a slot: its number with its current generation (R2). -/
def State.handleAt (s : State) (i : Slot) : Handle := ⟨i, s.rt.slots[i.val].gen⟩

/-- Is a handle stale (R2)? -/
def State.names (s : State) (h : Handle) : Bool :=
  s.rt.slots[h.slot.val].gen == h.gen && s.rt.slots[h.slot.val].record.isSome

/-- Replace the record of a slot that holds one. -/
def changeRecord (i : Slot) (f : Record → Record) (s : State) : State :=
  { s with rt := { s.rt with slots := upd s.rt.slots i fun e => { e with record := e.record.map f } } }

/-- Put a record into a slot, at the slot's current generation (R7). -/
def putRecord (i : Slot) (r : Record) (s : State) : State :=
  { s with rt := { s.rt with slots := upd s.rt.slots i fun e => { e with record := some r } } }

/-- All slots, in slot order. -/
def allSlots : List Slot := List.finRange 32

/-- The live records, in slot order. -/
def liveRecords (slots : Vector SlotEntry 32) : List Record := slots.toList.filterMap (·.record)

/-- The slot of the live record of a kind and owner (R6: there is at most one). -/
def State.find (s : State) (k : Kind) (o : Owner) : Option Slot :=
  allSlots.find? fun i => match s.recordAt i with | some r => r.kind == k && r.owner == o | none => false

/-- Does a live record name this slot's record as its parent (section 1.2)? -/
def State.hasChild (s : State) (i : Slot) : Bool :=
  (liveRecords s.rt.slots).any fun r => r.parent == some (s.handleAt i)

/-- Does the scope touch the corner? -/
def Scope.has (x : Scope) (c : Corner) : Bool := x.getLsbD c.val

/-- The axle of a corner: corners 0 and 1 are axle A, 2 and 3 axle B, 4 and 5 axle C. -/
def axleOf (c : Corner) : Axle := ⟨c.val / 2, by have := c.isLt; omega⟩

end Sys2Proof.Machine
end

