-- ==== Sys2Proof/Machine/Valves.lean ====
section
/-! DEFINITION. Chapter 04: what a valve pulse generator does with a program, the pair interlock and its dead time, and
the reports of the generators. The commands that end a generator's periods are in Machine/ValveEvents.lean, since a FILL
that runs out returns its grant (R110). -/

namespace Sys2Proof.Machine

/-- R67: a program put in range before it is taken. -/
def Program.inRange : Program → Program
  | .idle => .idle
  | .single t => if t = 0 then .idle else .single (min t 1000)
  | .train on off n =>
    if on = 0 || n = 0 then .idle else .train (min on 1000) (max 1 (min off 1000)) (min n 255)
  | .duty d => if d = 0 then .idle else .duty (min d 100)

/-- Does an end of this program send a completion event (R71)? -/
def Program.completes : Program → Bool
  | .single _ | .train _ _ _ => true
  | .idle | .duty _ => false

/-- The openings still to come when the program is taken (R69). -/
def Program.toCome : Program → Nat
  | .train _ _ n => n - 1
  | .idle | .single _ | .duty _ => 0

/-- R71, R72: a generator made IDLE; its output closes and a wait is cancelled. -/
def Generator.toIdle (now : Nat) (g : Generator) : Generator := g.quiet now

/-- R68 to R70: the program starts at `now`, its output opening. -/
def Generator.start (now : Nat) (p : Program) (g : Generator) : Generator :=
  match p with
  | .idle => g.quiet now
  | .single t => { g with prog := p, isOpen := true, waiting := false, endAt := some (now + t * ms), openEndAt := none,
                          toCome := p.toCome }
  | .train on _ _ => { g with prog := p, isOpen := true, waiting := false, endAt := some (now + on * ms),
                              openEndAt := none, toCome := p.toCome }
  | .duty d => { g with prog := p, isOpen := true, waiting := false, endAt := some (now + dutyPeriod),
                        openEndAt := if d < 100 then some (now + d * dutyUnit) else none, toCome := p.toCome }

/-- R73: the generator holds the program with its output CLOSED until `t`; a TRAIN's openings still to come are set as it is taken
(R69). -/
def Generator.wait (now t : Nat) (p : Program) (g : Generator) : Generator :=
  { g with prog := p, isOpen := false, waiting := true, endAt := some t, openEndAt := none, toCome := p.toCome,
           closedAt := if g.isOpen then some now else g.closedAt }

/-- R73: a program to open, taken when the partner's output last closed at `partner`. -/
def Generator.begin (now : Nat) (partner : Option Nat) (p : Program) (g : Generator) : Generator :=
  match partner with
  | some t => if now < t + deadTime then g.wait now (t + deadTime) p else g.start now p
  | none => g.start now p

/-- The member of a pair. -/
def Pair.at (p : Pair) : Side → Generator
  | .first => p.first
  | .second => p.second

/-- The other side. -/
def Side.other : Side → Side
  | .first => .second
  | .second => .first

/-- A pair given its members, the one on `side` first. -/
def Pair.make (side : Side) (mine partner : Generator) : Pair :=
  match side with
  | .first => ⟨mine, partner⟩
  | .second => ⟨partner, mine⟩

/-- R67, R71 to R74: the owner hands one member of a pair a program. IDLE ends what the member runs and leaves the
partner as it is; any other program forces the partner IDLE and then starts or waits. -/
def Pair.hand (now : Nat) (side : Side) (p : Program) (pr : Pair) : Pair :=
  match p.inRange with
  | .idle => Pair.make side ((pr.at side).toIdle now) (pr.at side.other)
  | q =>
    let partner := (pr.at side.other).toIdle now
    Pair.make side ((pr.at side).begin now partner.closedAt q) partner

/-- R71: does handing the program `p` to `side` end, by a CUT, a program of the member on side `of`? IDLE cuts the
member's own SINGLE or TRAIN; any other program cuts the partner's. -/
def Pair.cuts (side of_ : Side) (p : Program) (pr : Pair) : Bool :=
  match p.inRange with
  | .idle => decide (of_ = side) && (pr.at side).prog.completes
  | _ => decide (of_ = side.other) && (pr.at side.other).prog.completes

/-- R67, R68 to R71: the unpaired DAMPING generator is handed a program; the interlock does not reach it. -/
def Generator.handAlone (now : Nat) (p : Program) (g : Generator) : Generator := g.start now p.inRange

/-- Does a generator hold a program, open, closing or WAITING? -/
def Generator.holds (g : Generator) : Bool := g.prog != .idle

/-- The Brake Controller hands a member of a channel's pair a program. The generators of a group in reset are held IDLE
(R75). The completion events reach the controller without effect (R92). -/
def handBrake (c : Corner) (side : Side) (p : Program) (s : State) : State :=
  if s.inReset .brake then s
  else { s with valves := { s.valves with brake := upd s.valves.brake c (Pair.hand s.now side p) } }

/-- A member of a corner's pair takes a program, less what its completion event does (R75). -/
def takeLevel (c : Corner) (side : Side) (p : Program) (s : State) : State :=
  if s.inReset .level then s
  else { s with valves := { s.valves with level := upd s.valves.level c (Pair.hand s.now side p) } }

/-- The Joint and Steer Controller hands KERBWARD (first) or OFFWARD (second) a program (R75, R133). -/
def handSteer (side : Side) (p : Program) (s : State) : State :=
  if s.inReset .joint then s
  else { s with valves := { s.valves with steer := s.valves.steer.hand s.now side p } }

/-- The Joint and Steer Controller hands DAMPING a program (R75, R129). -/
def handDamping (p : Program) (s : State) : State :=
  if s.inReset .joint then s
  else { s with valves := { s.valves with damping := s.valves.damping.handAlone s.now p } }

/-- The generators of a group (R75). -/
def quietGroup (g : Group) (s : State) : State :=
  match g with
  | .brake => { s with valves := { s.valves with brake := mapAll s.valves.brake fun _ p => p.quiet s.now } }
  | .level => { s with valves := { s.valves with level := mapAll s.valves.level fun _ p => p.quiet s.now } }
  | .joint => { s with valves := { s.valves with steer := s.valves.steer.quiet s.now,
                                                 damping := s.valves.damping.quiet s.now } }
  | .doors | .sense => s

/-- The generator of a name. -/
def Valves.gen (v : Valves) : GenId → Generator
  | .apply c => v.brake[c.val].first
  | .brakeExhaust c => v.brake[c.val].second
  | .fill c => v.level[c.val].first
  | .cornerExhaust c => v.level[c.val].second
  | .kerbward => v.steer.first
  | .offward => v.steer.second
  | .damping => v.damping

/-- Change the generator of a name. -/
def Valves.setGen (v : Valves) (f : Generator → Generator) : GenId → Valves
  | .apply c => { v with brake := upd v.brake c fun p => { p with first := f p.first } }
  | .brakeExhaust c => { v with brake := upd v.brake c fun p => { p with second := f p.second } }
  | .fill c => { v with level := upd v.level c fun p => { p with first := f p.first } }
  | .cornerExhaust c => { v with level := upd v.level c fun p => { p with second := f p.second } }
  | .kerbward => { v with steer := { v.steer with first := f v.steer.first } }
  | .offward => { v with steer := { v.steer with second := f v.steer.second } }
  | .damping => { v with damping := f v.damping }

end Sys2Proof.Machine
end

