-- ==== Sys2Proof/Machine/Levelling.lean ====
section
/-! DEFINITION. Chapter 06, the part of the Levelling Controller below the records: contexts and sources, targets and
judgements, the fill arbiter, valve commands, offset events, halts and resumes, and the freezing of a corner. What reaches
the Restraint Table (risen reports, control events) is in Machine/Kneel.lean. -/

namespace Sys2Proof.Machine

/-- A corner's record. -/
def State.corner (s : State) (c : Corner) : CornerRecord := s.lc.corners[c.val]

/-- Change a corner's record. -/
def changeCorner (c : Corner) (f : CornerRecord → CornerRecord) (s : State) : State :=
  { s with lc := { s.lc with corners := upd s.lc.corners c f } }

/-! ### Contexts and sources (R100, R101) -/

/-- The context formed from the flags and the vehicle speed (R100). -/
def contextNow (s : State) : LevelContext :=
  if s.mc.stationary then .stationary else if s.mc.moving && 300 ≤ s.mc.speed then .fast else .slow

/-- The place of a context in a corner's source table (R177, parameter 11). -/
def LevelContext.index : LevelContext → Fin 3
  | .stationary => 0 | .slow => 1 | .fast => 2

/-- The entry of the source table for a corner and a context. -/
def sourceFor (s : State) (c : Corner) (x : LevelContext) : Source :=
  s.hl.params.sources[c.val * 3 + x.index.val]'(by have := c.isLt; have := x.index.isLt; omega)

/-- The period of a timer source. -/
def Source.period : Source → Option Nat
  | .timer50 => some (50 * ms)
  | .timer1000 => some (1000 * ms)
  | .axleRev16 | .none => Option.none

/-- A corner takes up a source (R101): the old source stops, a timer source starts from now, AXLE_REV16 counts from 0, and
the accumulator is kept. -/
def takeSource (c : Corner) (x : Source) (s : State) : State :=
  changeCorner c (fun r => { r with source := x, sourceAt := x.period.map (s.now + ·), revs := 0 }) s

/-- A corner whose entry differs from its source in use takes up the new source (R100). -/
def refreshSource (c : Corner) (s : State) : State :=
  if sourceFor s c s.lc.context = (s.corner c).source then s else takeSource c (sourceFor s c s.lc.context) s

/-- The context formed afresh (R100); while a LEVEL reset lasts nothing is formed (R122). -/
def formContext (s : State) : State :=
  if s.inReset .level || contextNow s == s.lc.context then s
  else forAll 6 refreshSource { s with lc := { s.lc with context := contextNow s } }

/-! ### Judging (R104 to R106) -/

/-- A corner's target (R104). -/
def targetOf (s : State) (c : Corner) : Int :=
  if 50 ≤ s.mc.speed then (s.hl.params.ride : Int)
  else match (s.corner c).phase with
    | .halted => (s.corner c).haltHeight
    | .level | .lowering | .kneeled | .rising => (s.hl.params.ride : Int) + (s.corner c).offset

/-- The band DB in force (R105). -/
def bandNow (s : State) : Int :=
  match s.lc.context with
  | .stationary => (s.hl.params.bandStat : Int)
  | .slow | .fast => (max s.hl.params.bandStat s.hl.params.bandMove : Nat)

/-- The outcome of an error against the band (R105). -/
def outcomeOf (e db : Int) : LevelOutcome := if db < e then .fill else if e < -db then .exhaust else .hold

/-- The needed time of an outcome, in ms (R106). -/
def neededTime (e : Int) : LevelOutcome → Nat
  | .fill => e.natAbs * 3
  | .exhaust => e.natAbs * 2
  | .hold => 0

/-- Tmax (R106). -/
def Source.longest : Source → Nat
  | .timer50 => 40
  | .timer1000 | .axleRev16 | .none => 800

/-- The program of an outcome (R106). -/
def programFor (r : CornerRecord) (e : Int) (o : LevelOutcome) : Program :=
  match o, r.phase with
  | .hold, _ => .idle
  | _, .lowering | _, .rising => .train 80 40 (quotUp (neededTime e o) 80)
  | _, .level | _, .kneeled | _, .halted => .single (min (neededTime e o) r.source.longest)

/-! ### The fill arbiter (R109, R110) -/

/-- Does the corner hold a grant? -/
def State.granted (s : State) (c : Corner) : Bool := s.lc.grants.toList.any (· == some c)

/-- The corner leaves the waiting set. -/
def leaveWaiting (c : Corner) (s : State) : State := changeCorner c (fun r => { r with waiting := none }) s

/-- The waiting corner with the largest error, among equal errors the lowest index (R110). -/
def bestWaiting (corners : Vector CornerRecord 6) : Option (Corner × WaitEntry) :=
  (List.finRange 6).foldl (fun best c =>
    match corners[c.val].waiting, best with
    | none, b => b
    | some w, none => some (c, w)
    | some w, some (d, v) => if v.error < w.error then some (c, w) else some (d, v)) none

/-- The grants with a free one given to the corner. -/
def takeGrant (g : Vector (Option Corner) 2) (c : Corner) : Vector (Option Corner) 2 :=
  if g[0].isNone then #v[some c, g[1]] else #v[g[0], some c]

/-- The corner leaves the waiting set, holds a grant and is handed its fill program (R110). -/
def giveGrant (c : Corner) (w : WaitEntry) (s : State) : State :=
  let s := leaveWaiting c s
  takeLevel c .first w.prog { s with lc := { s.lc with grants := takeGrant s.lc.grants c } }

/-- One look of the arbiter: a grant is free, RESERVE reads ABOVE and a corner waits (R110). -/
def arbitrateOnce (s : State) : State :=
  if s.lc.reserve == .above && s.lc.grants.toList.any Option.isNone then
    match bestWaiting s.lc.corners with
    | some (c, w) => giveGrant c w s
    | none => s
  else s

/-- The arbiter gives what grants it can: there are two. -/
def arbitrate (s : State) : State := arbitrateOnce (arbitrateOnce s)

/-- The completion event of a corner's FILL returns its grant, and the arbiter looks again (R110). R111 says that this and RESERVE going
BELOW leave the same state in either order; the model follows R110, by which a completion taken first passes the grant on to a waiting
corner, whose fill the cut then stops, so that corner waits no more, and with the cut taken first it goes on waiting (DEDUCED,
notes/assumptions/39.md). -/
def returnGrant (c : Corner) (s : State) : State :=
  arbitrate { s with lc := { s.lc with grants := mapAll s.lc.grants fun _ g => if g = some c then none else g } }

/-- The Levelling Controller hands a member of a corner's pair a program: FILL is the first member, the corner EXHAUST the
second. A CUT of the FILL returns its grant (R71, R110); the corner EXHAUST's completions are without effect. -/
def handLevel (c : Corner) (side : Side) (p : Program) (s : State) : State :=
  if !s.inReset .level && s.valves.level[c.val].cuts side .first p then returnGrant c (takeLevel c side p s)
  else takeLevel c side p s

/-- IDLE to a member that holds a program. -/
def stopLevel (c : Corner) (side : Side) (s : State) : State :=
  if (s.valves.level[c.val].at side).holds then handLevel c side .idle s else s

/-! ### Commanding the valves (R107) -/

/-- HOLD. -/
def commandHold (c : Corner) (s : State) : State := stopLevel c .second (stopLevel c .first (leaveWaiting c s))

/-- EXHAUST. `afresh` is R108's difference: a program that runs in the needed direction is replaced. -/
def commandExhaust (afresh : Bool) (c : Corner) (p : Program) (s : State) : State :=
  let s := leaveWaiting c s
  if s.valves.level[c.val].second.holds && !afresh then s else handLevel c .second p s

/-- FILL. A corner that holds a grant keeps its program, or is handed the new one under the same grant when `afresh`;
any other joins or refreshes its entry in the waiting set. -/
def commandFill (afresh : Bool) (c : Corner) (e : Int) (p : Program) (s : State) : State :=
  if s.granted c then (if afresh then handLevel c .first p s else s)
  else
    let s := stopLevel c .second s
    arbitrate (changeCorner c (fun r => { r with waiting := some ⟨e, p⟩ }) s)

/-- A corner judged against a height (steps 4 and 5 of R103; R108): its outcome is kept and its valves are commanded. -/
def judge (afresh : Bool) (c : Corner) (height : Nat) (s : State) : State :=
  let e := targetOf s c - (height : Int)
  let o := outcomeOf e (bandNow s)
  let p := programFor (s.corner c) e o
  let s := changeCorner c (fun r => { r with outcome := some o }) s
  match o with
  | .hold => commandHold c s
  | .exhaust => commandExhaust afresh c p s
  | .fill => commandFill afresh c e p s

/-! ### Offset events (R108, R112) -/

/-- A command formed at once from the last height, where R108's conditions hold. -/
def commandFromLast (c : Corner) (s : State) : State :=
  let r := s.corner c
  match r.last with
  | some h => if s.mc.speed < 50 && r.check == .normal && r.source != .none then judge true c h s else s
  | none => s

/-- R112. -/
def KneelPhase.afterOffset (p : KneelPhase) (offset : Int) : KneelPhase :=
  if offset = 0 then
    match p with
    | .level => .level
    | .lowering | .kneeled | .halted | .rising => .rising
  else
    match p with
    | .level | .lowering | .rising => .lowering
    | .kneeled => .kneeled
    | .halted => .halted

/-- Is any corner HALTED? -/
def State.anyHalted (s : State) : Bool := s.lc.corners.toList.any (·.phase == .halted)

/-- When the last HALTED corner has left HALTED, the halt timer stops and a pending resume is dropped (R112). -/
def dropHalt (was : Bool) (s : State) : State :=
  if was && !s.anyHalted then { s with lc := { s.lc with haltAt := none, resumePending := false } } else s

/-- A change of a corner's offset reaches the corner (R108); in a LEVEL reset it only sets the offset held (R122). -/
def offsetEvent (c : Corner) (offset : Int) (s : State) : State :=
  if s.inReset .level then changeCorner c (fun r => { r with offset := offset }) s
  else
    commandFromLast c (dropHalt s.anyHalted
      (changeCorner c (fun r => { r with offset := offset, phase := r.phase.afterOffset offset }) s))

/-! ### Halts and resumes (R114, R115) -/

/-- The halt height of a corner: 20 mm above its last height, the ride height at the highest (R114). -/
def haltHeightOf (ride : Nat) (r : CornerRecord) : Int :=
  match r.last with
  | some h => min (ride : Int) ((h : Int) + 20)
  | none => ride

/-- A LOWERING corner becomes HALTED and its corner EXHAUST is handed IDLE (R114). -/
def haltCorner (c : Corner) (s : State) : State :=
  if (s.corner c).phase = .lowering then
    handLevel c .second .idle
      (changeCorner c (fun r => { r with phase := .halted, haltHeight := haltHeightOf s.hl.params.ride r }) s)
  else s

/-- The stray edge count advances, holding at 255. -/
def countStray (s : State) : State := { s with lc := { s.lc with strays := bump 255 s.lc.strays } }

/-- HALT_KNEEL (R114; R122 in a LEVEL reset). -/
def haltKneel (s : State) : State :=
  if s.inReset .level || !s.lc.corners.toList.any (·.phase == .lowering) then countStray s
  else
    let s := forAll 6 haltCorner s
    { s with lc := { s.lc with haltAt := some (s.now + haltPeriod), resumePending := false } }

/-- The resume acts (R115): every HALTED corner becomes LOWERING, then each of them forms a new command, in rising corner index (DESIGN
CHOICE, notes/assumptions/36.md). -/
def resumeNow (s : State) : State :=
  let halted := (List.finRange 6).filter fun c => (s.corner c).phase == .halted
  let s := { s with lc := { s.lc with resumePending := false } }
  let s := halted.foldl (fun s c => changeCorner c (fun r => { r with phase := .lowering }) s) s
  halted.foldl (fun s c => commandFromLast c s) s

/-- RESUME_KNEEL (R115; R122 in a LEVEL reset). -/
def resumeKneel (s : State) : State :=
  if s.inReset .level || !s.anyHalted then countStray s
  else if s.lc.haltAt.isSome then { s with lc := { s.lc with resumePending := true } }
  else resumeNow s

/-! ### RESERVE (R111) -/

/-- A change of RESERVE reaches the controller: BELOW cuts every fill, ABOVE lets the arbiter give grants; in a LEVEL reset
it only sets RESERVE as held (R122). -/
def reserveEvent (x : Level) (s : State) : State :=
  let s := { s with lc := { s.lc with reserve := x } }
  if s.inReset .level then s
  else match x with
    | .above => arbitrate s
    | .below => forAll 6 (fun c s => stopLevel c .first s) s

/-! ### Height samples and the freezing of a corner (R102, R117, R118) -/

/-- A good word for a corner's height channel (R102). A paused corner, whose source is NONE, goes on adding: R102 names no source, and
R101's 'keeps … its accumulator as they were' is read as not emptied (DEDUCED, notes/assumptions/38.md). -/
def heightWord (c : Corner) (v : Nat) (s : State) : State :=
  if s.inReset .level || (s.corner c).check != .normal || 4095 ≤ (s.corner c).count then s
  else changeCorner c (fun r => { r with sum := r.sum + v, count := r.count + 1 }) s

/-- A corner freezes (R117). -/
def freeze (c : Corner) (s : State) : State :=
  let s := leaveWaiting c s
  let s := changeCorner c (fun r => { r with sum := 0, count := 0, last := none }) s
  stopLevel c .second (stopLevel c .first s)

/-- A frozen corner begins a recovery: STROBE, its strobe output active, the strobe timer started (R117). -/
def beginStrobe (c : Corner) (s : State) : State :=
  changeCorner c (fun r => { r with check := .strobe, strobe := true, checkAt := some (s.now + strobePeriod) }) (freeze c s)

/-- A NORMAL corner becomes DEGRADED at once, frozen and declared (R118). -/
def declareDegraded (c : Corner) (s : State) : State :=
  changeCorner c (fun r => { r with check := .degraded, checkAt := none }) (freeze c s)

/-- A corner returns to NORMAL: the recovery window starts and SENSOR is set (R118). -/
def recoverCorner (c : Corner) (s : State) : State :=
  setFlag .sensor
    (changeCorner c (fun r => { r with check := .normal, checkAt := none, recoveryAt := some (s.now + recoveryPeriod) }) s)

/-- A corner in NORMAL or DEGRADED meets its height record's state (R117, R118, R123). -/
def meetHeight (c : Corner) (x : SampleState) (s : State) : State :=
  match (s.corner c).check, x with
  | .normal, .fault => if (s.corner c).recoveryAt.isSome then declareDegraded c s else beginStrobe c s
  | .normal, .stale => declareDegraded c s
  | .degraded, .valid => recoverCorner c s
  | _, _ => s

/-- A change of a corner's height record reaches the corner; in a LEVEL reset it is not acted on (R122). -/
def heightState (c : Corner) (x : SampleState) (s : State) : State :=
  if s.inReset .level then s else meetHeight c x s

/-- The state of a corner's height record. -/
def State.heightRecord (s : State) (c : Corner) : SampleState :=
  (s.sp.samples[12 + c.val]'(by have := c.isLt; omega)).state

end Sys2Proof.Machine
end

