-- ==== Sys2Proof/Machine/Envelope.lean ====
section
/-! DEFINITION. Chapter 02: how the Envelope Unit forms the envelope from the live records, and what it sends when the
envelope changes. -/

namespace Sys2Proof.Machine

/-- Is the axle touched by the scope: is either of its corners in it (R31)? -/
def Scope.touches (x : Scope) (a : Axle) : Bool := x.getLsbD (2 * a.val) || x.getLsbD (2 * a.val + 1)

/-- A record's floor contribution (R14, R31). -/
def Record.floorPart (r : Record) : Nat :=
  match r.floor, r.state with
  | none, _ => 0
  | some _, .armed => 0
  | some f, .active => f
  | some f, .releasing => if r.delay = 0 then 0 else f * r.releaseLeft / r.delay

/-- The contribution to one axle (R31). -/
def Record.floorOn (a : Axle) (r : Record) : Nat := if r.scope.touches a then r.floorPart else 0

/-- The ceiling a record imposes: an ACTIVE record's own (R32). -/
def Record.ceilingPart (r : Record) : Option Nat :=
  match r.state with
  | .active => r.ceiling
  | .armed | .releasing => none

/-- The steer limit a record imposes: while ACTIVE, and while RELEASING with distance remaining (R33). -/
def Record.steerPart (r : Record) : Option Nat :=
  match r.state with
  | .active => r.steer
  | .releasing => if 0 < r.distLeft then r.steer else none
  | .armed => none

/-- The offset an ACTIVE KNEEL record imposes on a corner of its scope (R34). -/
def Record.offsetPart (c : Corner) (r : Record) : Option Int :=
  match r.kind, r.state with
  | .kneel, .active => if r.scope.has c then r.offset else none
  | _, _ => none

/-- The damping minimum of an ACTIVE or RELEASING JOINT_LIMIT record (R35). -/
def Record.dampingPart (r : Record) : Nat :=
  match r.kind, r.state with
  | .jointLimit, .active | .jointLimit, .releasing => r.damping.getD 0
  | _, _ => 0

/-- The largest of the values given. -/
def largest (xs : List Nat) : Nat := xs.foldl max 0

/-- The smallest of the values given, `top` when there is none. -/
def smallest (top : Nat) (xs : List Nat) : Nat := xs.foldl min top

/-- The floor of an axle (R31). -/
def floorOf (rs : List Record) (a : Axle) : Nat := largest (rs.map (Record.floorOn a))

/-- The offset of a corner: the most negative among the contributions (R34). -/
def offsetOf (rs : List Record) (c : Corner) : Int := (rs.filterMap (Record.offsetPart c)).foldl min 0

/-- The envelope of a table (R30 to R36). A ceiling lies within 0 to 800 and a steer limit within 0 to 140 (section 1.2), so
the neutral values of section 2.1 are the tops of those ranges. -/
def envelopeOf (slots : Vector SlotEntry 32) : Envelope :=
  let rs := liveRecords slots
  { floors := Vector.ofFn (floorOf rs)
    ceiling := smallest 800 (rs.filterMap Record.ceilingPart)
    steer := smallest 140 (rs.filterMap Record.steerPart)
    offsets := Vector.ofFn (offsetOf rs)
    damping := largest (rs.map Record.dampingPart)
    kneel := rs.any (·.kind == .kneel) }

/-- A new envelope takes the place of the old one (R30); the sequence number advances when the content differs (R38). -/
def storeEnvelope (e : Envelope) (s : State) : State :=
  { s with eu := { s.eu with env := e, seq := if e = s.eu.env then s.eu.seq else s.eu.seq + 1 } }

/-- A change of a corner's offset is sent once for that corner (R39). -/
def sendOffset (old new : Vector Int 6) (c : Corner) (s : State) : State :=
  if old[c.val] = new[c.val] then s else offsetEvent c new[c.val] s

/-- The Envelope Unit forms the envelope anew (R37): the drive-inhibit line is evaluated when the ceiling differs (R41), and
each corner whose offset changed is sent it (R39, R108). R39 gives no order among the corners; the model sends in rising corner index,
which decides who takes the free grants when several corners call for fill at once (DESIGN CHOICE, notes/assumptions/36.md). -/
def formEnvelope (s : State) : State :=
  let old := s.eu.env
  let new := envelopeOf s.rt.slots
  let s := storeEnvelope new s
  let s := if new.ceiling = old.ceiling then s else evalInhibit s
  forAll 6 (sendOffset old.offsets new.offsets) s

end Sys2Proof.Machine
end

