-- ==== Sys2Proof/Machine/Table.lean ====
section
/-! DEFINITION. Chapter 01: the lifecycle of a record in the Restraint Table. Conditions (R12), entering and leaving
RELEASING (R13, R19), retirement (R17, R18), placement (R5 to R10), release (R21), forced retirement (R22) and amendment
(R23, R24), each as one shared operation, whoever asks for it. -/

namespace Sys2Proof.Machine

/-! ### Conditions (R12) -/

/-- Is the door LOCKED? UNKNOWN and every other state count as not locked. -/
def State.doorLocked (s : State) (d : Door) : Bool := s.dl.lines[d.val].door == .locked

/-- Does a live KNEEL record stand in a slot other than `i`? -/
def State.otherKneel (s : State) (i : Slot) : Bool :=
  allSlots.any fun j => j != i && (match s.recordAt j with | some r => r.kind == .kneel | none => false)

/-- Does a listed condition hold for the record `r` of slot `i` (R12)? -/
def condHolds (s : State) (i : Slot) (r : Record) : Cond → Bool
  | .ownerRelease => r.ownerRelease
  | .doorLocked d => s.doorLocked d
  | .allDoorsLocked => s.dl.lines.toList.all (·.door == .locked)
  | .rampStowed => s.dl.ramp == .stowed
  | .noKneel => !s.otherKneel i
  | .configDone => s.hl.configured

/-- Do the listed conditions and the implicit condition hold (R12)? -/
def releasable (s : State) (i : Slot) (r : Record) : Bool := r.conds.all (condHolds s i r) && !s.hasChild i

/-- Do the listed conditions other than OWNER_RELEASE hold (R19)? -/
def staysReleasing (s : State) (i : Slot) (r : Record) : Bool :=
  r.conds.all fun c => c == .ownerRelease || condHolds s i r c

/-- The slots of the records that list a condition for which `p` holds, in slot order. -/
def listing (s : State) (p : Cond → Bool) : List Slot :=
  allSlots.filter fun i => match s.recordAt i with | some r => r.conds.any p | none => false

/-- The records that list NO_KNEEL. -/
def listingNoKneel (s : State) : List Slot := listing s (· == .noKneel)

/-! ### The rising list (R116) -/

/-- Is every corner of the scope LEVEL? -/
def allLevel (s : State) (x : Scope) : Bool :=
  (List.finRange 6).all fun c => !x.has c || (s.corner c).phase == .level

/-- A leaving notice: the handle's entry is removed. -/
def leaveRising (h : Handle) (s : State) : State :=
  { s with lc := { s.lc with rising := s.lc.rising.filter fun e => e.handle != h } }

/-- The record of the slot becomes risen (R16). -/
def markRisen (i : Slot) (s : State) : State := changeRecord i (fun r => { r with risen := true }) s

/-- An entering notice for the record of slot `i` with a scope: it takes the place of an entry with its handle, and when
every corner of the scope is LEVEL already it is reported risen and taken off again (R116). In a LEVEL reset no report is
made (R122). The retirement check that follows a report is the caller's. -/
def enterRising (i : Slot) (x : Scope) (s : State) : State :=
  let s := leaveRising (s.handleAt i) s
  if !s.inReset .level && allLevel s x then markRisen i s
  else { s with lc := { s.lc with rising := s.lc.rising ++ [⟨s.handleAt i, x⟩] } }

/-- The notice of R116 for a KNEEL record in RELEASING, and the kneel-risen flag of one whose scope is empty (R16). -/
def noticeRising (i : Slot) (r : Record) (s : State) : State :=
  if r.kind != .kneel then s
  else if r.scope = 0 then markRisen i (leaveRising (s.handleAt i) s)
  else enterRising i r.scope s

/-! ### Entering and leaving RELEASING (R13, R19) -/

/-- The running parts set at entry to RELEASING (R13). -/
def Record.release (now : Nat) (r : Record) : Record :=
  { r with state := .releasing, releaseLeft := r.delay, distLeft := r.swing.getD 0 * 100, risen := false,
           stepAt := if 0 < r.delay then some (now + stepPeriod) else none }

/-- The running parts cleared at a return to ACTIVE (R6, R9, R14, R19). -/
def Record.reactivate (r : Record) : Record :=
  { r with state := .active, releaseLeft := 0, distLeft := 0, risen := false, stepAt := none }

/-- A record enters RELEASING, less the retirement check (R13, R116). -/
def enterReleasing (i : Slot) (r : Record) (s : State) : State :=
  noticeRising i r (formEnvelope (changeRecord i (Record.release s.now) s))

/-- A RELEASING record returns to ACTIVE (R19, R116). -/
def returnActive (i : Slot) (s : State) : State :=
  leaveRising (s.handleAt i) (formEnvelope (changeRecord i Record.reactivate s))

/-! ### Retirement (R17, R18) -/

/-- R17. -/
def Record.spent (r : Record) : Bool :=
  r.state == .releasing && r.releaseLeft == 0 && (r.distLeft == 0 || r.steer.isNone) && (r.kind != .kneel || r.risen)

/-- The slot becomes FREE, and its generation and the table change count advance (R18). -/
def vacate (i : Slot) (s : State) : State :=
  { s with rt := { s.rt with slots := upd s.rt.slots i fun e => ⟨e.gen + 1, none⟩, changeCount := s.rt.changeCount + 1 } }

/-- SERVICE mode ends with the SERVICE_LOCK (R18, R178). -/
def endService (k : Kind) (s : State) : State :=
  if k = .serviceLock then { s with hl := { s.hl with service := false } } else s

/-- A record's slot is freed: RECORD is set, SERVICE mode ends with the SERVICE_LOCK, and the envelope is formed (R18, R178). -/
def freeSlot (i : Slot) (r : Record) (s : State) : State :=
  formEnvelope (endService r.kind (setFlag .record (vacate i (leaveRising (s.handleAt i) s))))

/-- Who is evaluated when the record `r` has retired: its parent if that lives, and for a KNEEL the records that list
NO_KNEEL (R18); but not its parent while a force runs that is to retire the parent too (R22). -/
def dependants (forced : List Slot) (r : Record) (s : State) : List Slot :=
  ((match r.parent with | some h => if s.names h then [h.slot] else [] | none => [])
    ++ (if r.kind = .kneel then listingNoKneel s else [])).filter
    fun j => !(forced.contains j && r.parent == some (s.handleAt j))

/-- The evaluation of the record in a slot (R12, R19), with all that follows: an ACTIVE record whose conditions hold enters
RELEASING and, when nothing is left to wait for, retires, and its dependants are evaluated. The first argument bounds the
chain of records that each send the next one on; every link of it sends an ACTIVE record to RELEASING or retires one, so
the 32 slots never use up `evalDepth` (notes/assumptions/7.md). `forced` is the set a force is retiring (R22), and empty
otherwise. -/
def evaluate (forced : List Slot) : Nat → Slot → State → State
  | 0, _, s => s
  | n + 1, i, s =>
    match s.recordAt i with
    | none => s
    | some r =>
      match r.state with
      | .armed => s
      | .active =>
        if releasable s i r then
          let s := enterReleasing i r s
          let s := if r.kind = .kneel then (listingNoKneel s).foldl (fun s j => evaluate forced n j s) s else s
          match s.recordAt i with
          | some q => if q.spent then (let s := freeSlot i q s; (dependants forced q s).foldl (fun s j => evaluate forced n j s) s) else s
          | none => s
        else s
      | .releasing => if r.mode = .following && !staysReleasing s i r then returnActive i s else s

/-- The bound of `evaluate`. -/
def evalDepth : Nat := 65

/-- A record is evaluated. -/
def evalRecord (i : Slot) (s : State) : State := evaluate [] evalDepth i s

/-- Every record that lists such a condition is evaluated, in slot order. -/
def evalListing (p : Cond → Bool) (s : State) : State := (listing s p).foldl (fun s i => evalRecord i s) s

/-- A record retires, with its consequences (R18). -/
def retire (i : Slot) (s : State) : State :=
  match s.recordAt i with
  | none => s
  | some r => let s := freeSlot i r s; (dependants [] r s).foldl (fun s j => evalRecord j s) s

/-- The retirement check (R17). -/
def checkRetire (i : Slot) (s : State) : State :=
  match s.recordAt i with
  | some r => if r.spent then retire i s else s
  | none => s

/-- A risen report for a handle (R16): disregarded unless it names a RELEASING record. -/
def riseRecord (h : Handle) (s : State) : State :=
  if s.names h && (match s.recordAt h.slot with | some r => r.state == .releasing | none => false) then
    checkRetire h.slot (markRisen h.slot s)
  else s

/-! ### Placement (R5 to R10) -/

/-- The values a host may supply with a placement, or write to a profile row: raw, before clamping. -/
structure Supplied where
  floor      : Option Int := none
  ceiling    : Option Int := none
  steer      : Option Int := none
  offset     : Option Int := none
  delay      : Option Int := none
  swing      : Option Int := none
  armTimeout : Option Int := none
  scope      : Option Scope := none
  conds      : Option (List (Option Cond)) := none
deriving DecidableEq, Repr

/-- A placement: `parent` is `none` when no parent handle is given, and `some none` when the handle given can name no
record. -/
structure Placement where
  kind     : Kind
  owner    : Owner
  variant  : Option Variant := none
  supplied : Supplied := {}
  parent   : Option (Option Handle) := none
deriving DecidableEq, Repr

/-- What a placement answers: its status, the handle of the record, and the state after it. -/
structure Placed where
  status : Status
  handle : Option Handle
  state  : State

/-- The conditions of a supplied list, duplicates merged at their first mention; none when one is outside the vocabulary or
more than four distinct ones are given (R5). -/
def mergeConds (xs : List (Option Cond)) : Option (List Cond) :=
  let ys := xs.foldl (fun (acc : Option (List Cond)) x =>
    match acc, x with
    | some l, some c => some (if l.contains c then l else l ++ [c])
    | _, _ => none) (some [])
  match ys with
  | some l => if l.length ≤ 4 then some l else none
  | none => none

/-- A value is supplied only for an effect the row has. -/
def fits {α β : Type} (value : Option α) (effect : Option β) : Bool := value.isNone || effect.isSome

/-- Check 3 of R5, and R4's check of the values: each names an effect the kind has, and the condition list is sound. -/
def suppliedOk (row : Profile) (v : Supplied) : Bool :=
  fits v.floor row.floor && fits v.ceiling row.ceiling && fits v.steer row.steer && fits v.offset row.offset
    && fits v.swing row.swing && (match v.conds with | some xs => (mergeConds xs).isSome | none => true)

/-- The ranges of section 1.2. -/
def floorTop : Int := 800
def ceilingTop : Int := 800
def steerTop : Int := 140
def offsetLow : Int := -90
def delayTop : Int := 5000
def swingTop : Int := 300
def armTop : Int := 60000

/-- A supplied value clamped to 0 to `top`, or the value in place where none is supplied. -/
def takeNat (top : Int) (value : Option Int) (old : Option Nat) : Option Nat :=
  match value with | some v => some (clamp v 0 top).toNat | none => old

/-- A supplied offset clamped to −90 to 0, or the value in place. -/
def takeOffset (value : Option Int) (old : Option Int) : Option Int :=
  match value with | some v => some (clamp v offsetLow 0) | none => old

/-- Does a value need clamping? -/
def outside (value : Option Int) (lo hi : Int) : Bool :=
  match value with | some v => decide (v < lo) || decide (hi < v) | none => false

/-- Was any supplied value clamped (R4, R7)? -/
def anyClamped (v : Supplied) : Bool :=
  outside v.floor 0 floorTop || outside v.ceiling 0 ceilingTop || outside v.steer 0 steerTop
    || outside v.offset offsetLow 0 || outside v.delay 0 delayTop || outside v.swing 0 swingTop
    || outside v.armTimeout 0 armTop

/-- A profile condition resolved for the placing owner (R3). -/
def resolveCond (o : Owner) : ProfileCond → Option Cond
  | .fixed c => some c
  | .doorLockedOwn => match o with | .door d => some (.doorLocked d) | _ => none

/-- The profile row of a kind. -/
def State.profile (s : State) (k : Kind) : Profile := s.rt.profiles[k.index.val]

/-- The scope a placement takes (R3, R7). -/
def placedScope (row : Profile) (p : Placement) : Scope :=
  match p.supplied.scope with
  | some x => x
  | none => if p.kind = .kneel && p.variant = some .side then row.scopeSide else row.scope

/-- The condition list a placement takes (R3, R7). -/
def placedConds (row : Profile) (p : Placement) : List Cond :=
  match p.supplied.conds with
  | some xs => (mergeConds xs).getD []
  | none => row.conds.filterMap (resolveCond p.owner)

/-- The record a placement creates (R7), ARMED when its trigger is STATIONARY and the stationary flag is clear (R10). -/
def newRecord (s : State) (p : Placement) (parent : Option Handle) (depth : Nat) : Record :=
  let row := s.profile p.kind
  let armed := p.kind.trigger == .stationary && !s.mc.stationary
  let timeout := (takeNat armTop p.supplied.armTimeout (some row.armTimeout)).getD 0
  { kind := p.kind
    owner := p.owner
    state := if armed then .armed else .active
    mode := p.kind.mode
    trigger := p.kind.trigger
    scope := placedScope row p
    floor := takeNat floorTop p.supplied.floor row.floor
    ceiling := takeNat ceilingTop p.supplied.ceiling row.ceiling
    steer := takeNat steerTop p.supplied.steer row.steer
    offset := takeOffset p.supplied.offset row.offset
    damping := row.damping
    delay := (takeNat delayTop p.supplied.delay (some row.delay)).getD 0
    swing := takeNat swingTop p.supplied.swing row.swing
    armTimeout := timeout
    conds := placedConds row p
    parent := parent
    depth := depth
    ownerRelease := false
    releaseLeft := 0
    distLeft := 0
    risen := false
    armAt := if armed && timeout != 0 then some (s.now + timeout * ms) else none
    stepAt := none }

/-- Is the slot of the owner's class (R1)? -/
def slotOfClass (o : Owner) (i : Slot) : Bool :=
  match o with
  | .joint | .plaus => 24 ≤ i.val
  | .driver | .depot | .door _ => i.val < 24

/-- The lowest-numbered FREE slot of the owner's class (R1). -/
def freeSlotFor (s : State) (o : Owner) : Option Slot :=
  allSlots.find? fun i => slotOfClass o i && (s.recordAt i).isNone

/-- Checks 5 to 8 of R5, on the parent's handle; the depth of the new record when they pass. -/
def checkParent (s : State) (parent : Option (Option Handle)) : Except Status (Option Handle × Nat) :=
  match parent with
  | none => .ok (none, 1)
  | some none => .error .stale
  | some (some h) =>
    match if s.names h then s.recordAt h.slot else none with
    | none => .error .stale
    | some r =>
      if r.state = .armed then .error .badState
      else match r.owner with
        | .joint | .plaus => .error .notOwner
        | .driver | .depot | .door _ => if r.depth ≤ 3 then .ok (some h, r.depth + 1) else .error .depth

/-- A record that has been given a child: a RELEASING one returns to ACTIVE whatever its mode (R9). -/
def adopt (h : Handle) (s : State) : State :=
  match s.recordAt h.slot with
  | some r => if r.state = .releasing then returnActive h.slot s else s
  | none => s

/-- The evaluations that a placement or a revival of a KNEEL record brings to the records that list NO_KNEEL (R12, R19). -/
def kneelChanged (k : Kind) (s : State) : State := if k = .kneel then evalListing (· == .noKneel) s else s

/-- A new record in slot `i` (R7, R9, R10): the envelope is formed, its parent is given its child, the records that list
NO_KNEEL are evaluated when it is a KNEEL, and it is evaluated itself (an ARMED record is not). -/
def createRecord (i : Slot) (r : Record) (s : State) : State :=
  let s := formEnvelope (putRecord i r s)
  let s := match r.parent with | some h => evalRecord h.slot (adopt h s) | none => s
  evalRecord i (kneelChanged r.kind s)

/-- A RELEASING record is revived (R6). -/
def reviveRecord (i : Slot) (k : Kind) (s : State) : State :=
  let s := changeRecord i (fun r => { r with ownerRelease := false }) s
  evalRecord i (kneelChanged k (returnActive i s))

/-- A placement met by the live record of its kind and owner (R6). -/
def placeAgain (i : Slot) (r : Record) (s : State) : Placed :=
  match r.state with
  | .armed | .active => ⟨.already, some (s.handleAt i), s⟩
  | .releasing => ⟨.revived, some (s.handleAt i), reviveRecord i r.kind s⟩

/-- A placement that meets no live record of its kind and owner: checks 5 to 9 of R5, then R7. -/
def placeNew (p : Placement) (s : State) : Placed :=
  match checkParent s p.parent with
  | .error e => ⟨e, none, s⟩
  | .ok (parent, depth) =>
    match freeSlotFor s p.owner with
    | none => ⟨.full, none, s⟩
    | some i =>
      ⟨if anyClamped p.supplied then .clamped else .ok, some (s.handleAt i),
        createRecord i (newRecord s p parent depth) s⟩

/-- A placement (R5, R6, R7). Check 1 is the caller's, who reads the kind. -/
def placeRecord (p : Placement) (s : State) : Placed :=
  if !p.kind.permits p.owner then ⟨.notOwner, none, s⟩
  else if !suppliedOk (s.profile p.kind) p.supplied then ⟨.badField, none, s⟩
  else match s.find p.kind p.owner with
    | some i => match s.recordAt i with
      | some r => placeAgain i r s
      | none => placeNew p s
    | none => placeNew p s

/-! ### Arming (R10) -/

/-- An ARMED record becomes ACTIVE and is evaluated (R10). -/
def armRecord (i : Slot) (s : State) : State :=
  match s.recordAt i with
  | some r =>
    if r.state = .armed then
      let s := formEnvelope (changeRecord i (fun r => { r with state := .active, armAt := none }) s)
      evalRecord i (kneelChanged r.kind s)
    else s
  | none => s

/-- The stationary flag has become set: every ARMED record is armed, in slot order (R10). -/
def armRecords (s : State) : State := forAll 32 armRecord s

/-! ### Release (R21) and forced retirement (R22) -/

/-- An owner's RETIRE of the record in a slot (R21), with its status. -/
def ownerRetire (i : Slot) (s : State) : Status × State :=
  match s.recordAt i with
  | none => (.stale, s)
  | some r =>
    match r.state with
    | .armed => (.ok, retire i s)
    | .active =>
      if r.ownerRelease then (.already, s)
      else (.ok, evalRecord i (changeRecord i (fun r => { r with ownerRelease := true }) s))
    | .releasing => (.already, s)

/-- The children of the record in a slot. -/
def childrenOf (s : State) (i : Slot) : List Slot :=
  allSlots.filter fun j => match s.recordAt j with | some r => r.parent == some (s.handleAt i) | none => false

/-- The descendants of a record by depth, the deepest first, equal depths in slot order (R22). A record has at most three
ancestors (R9), so three generations hold them all. -/
def descendantsOf (s : State) (i : Slot) : List Slot :=
  let a := childrenOf s i
  let b := allSlots.filter fun j => a.any fun p => (childrenOf s p).contains j
  let c := allSlots.filter fun j => b.any fun p => (childrenOf s p).contains j
  c ++ b ++ a

/-- One record of a forced set retires: no record of the set is evaluated at the retirement of its child (R22). -/
def forceOne (set : List Slot) (i : Slot) (s : State) : State :=
  match s.recordAt i with
  | none => s
  | some r =>
    let s := freeSlot i r s
    (dependants set r s).foldl (fun s j => evaluate set evalDepth j s) s

/-- A forced retirement (R22): the descendants, then the named record, each as a retirement of its own. -/
def forceRetire (i : Slot) (s : State) : State :=
  let set := descendantsOf s i ++ [i]
  set.foldl (fun s j => forceOne set j s) s

/-! ### Amendment (R23, R24) -/

/-- A change of one amendment (section 10.8, "AMEND entry"): raw values, a condition that is outside the vocabulary as
`none`, and a change that names no field of R23's list. -/
inductive Change where
  | floor (v : Int) | ceiling (v : Int) | steer (v : Int) | offset (v : Int) | delay (v : Int) | swing (v : Int)
  | scope (x : Scope) | add (c : Option Cond) | remove (c : Option Cond) | unknown
deriving DecidableEq, Repr

/-- Does a record accept the change (R23's BAD_FIELD cases)? -/
def Change.accepted (r : Record) : Change → Bool
  | .floor _ => r.floor.isSome
  | .ceiling _ => r.ceiling.isSome
  | .steer _ => r.steer.isSome
  | .offset _ => r.offset.isSome
  | .swing _ => r.swing.isSome
  | .delay _ | .scope _ => true
  | .add none => false
  | .add (some c) => r.conds.contains c || r.conds.length < 4
  | .remove none => false
  | .remove (some c) => r.conds.contains c
  | .unknown => false

/-- Is the change's value clamped (R23)? -/
def Change.clamped : Change → Bool
  | .floor v => outside (some v) 0 floorTop
  | .ceiling v => outside (some v) 0 ceilingTop
  | .steer v => outside (some v) 0 steerTop
  | .offset v => outside (some v) offsetLow 0
  | .delay v => outside (some v) 0 delayTop
  | .swing v => outside (some v) 0 swingTop
  | .scope _ | .add _ | .remove _ | .unknown => false

/-- The record with the change in it (R23, R24). In RELEASING a new delay and a new swing distance bound the running parts. -/
def Change.apply (r : Record) : Change → Record
  | .floor v => { r with floor := takeNat floorTop (some v) none }
  | .ceiling v => { r with ceiling := takeNat ceilingTop (some v) none }
  | .steer v => { r with steer := takeNat steerTop (some v) none }
  | .offset v => { r with offset := takeOffset (some v) none }
  | .delay v =>
    let n := (clamp v 0 delayTop).toNat
    { r with delay := n, releaseLeft := if r.state = .releasing then min r.releaseLeft n else r.releaseLeft }
  | .swing v =>
    let n := (clamp v 0 swingTop).toNat
    { r with swing := some n, distLeft := if r.state = .releasing then min r.distLeft (n * 100) else r.distLeft }
  | .scope x => { r with scope := x }
  | .add (some c) => { r with conds := if r.conds.contains c then r.conds else r.conds ++ [c] }
  | .remove (some c) => { r with conds := r.conds.filter (· != c) }
  | .add none | .remove none | .unknown => r

/-- Does the change add a condition that does not hold for the record (R24)? -/
def Change.addsFailing (s : State) (i : Slot) (r : Record) : Change → Bool
  | .add (some c) => !r.conds.contains c && !condHolds s i r c
  | _ => false

/-- Is the change one of scope? -/
def Change.isScope : Change → Bool
  | .scope _ => true
  | _ => false

/-- An accepted amendment (R24): the record is changed, the envelope is formed, and what follows depends on its state. -/
def amendRecord (i : Slot) (r : Record) (c : Change) (s : State) : State :=
  let fails := c.addsFailing s i r
  let s := formEnvelope (changeRecord i (fun q => c.apply q) s)
  match r.state with
  | .armed => s
  | .active => evalRecord i s
  | .releasing =>
    let s := if c.isScope then noticeRising i (c.apply r) s else s
    if fails && r.mode = .following then evalRecord i (returnActive i s) else checkRetire i s

/-- One amendment of an owner's record (R23), with its status. -/
def amendOne (o : Owner) (h : Option Handle) (c : Change) (s : State) : Status × State :=
  match h with
  | none => (.stale, s)
  | some h =>
    if !s.names h then (.stale, s)
    else match s.recordAt h.slot with
      | none => (.stale, s)
      | some r =>
        if r.owner ≠ o then (.notOwner, s)
        else if !c.accepted r then (.badField, s)
        else (if c.clamped then .clamped else .ok, amendRecord h.slot r c s)

end Sys2Proof.Machine
end

