-- ==== Sys2Proof/Machine/DoorQueue.lean ====
section
/-! DEFINITION. The command queue of a door line (R146), the door release set's commands (R163, R165, R166), and a line's
clock and loss timer (R142). -/

namespace Sys2Proof.Machine

/-- A door's line. -/
def State.line (s : State) (d : Door) : Line := s.dl.lines[d.val]

/-- Change a door's line. -/
def changeLine (d : Door) (f : Line → Line) (s : State) : State :=
  { s with dl := { s.dl with lines := upd s.dl.lines d f } }

/-! ### Commands -/

/-- A command's code on the line and in a frame (section 8.4). -/
def Command.code : Command → Nat
  | .permit => 0x41 | .withhold => 0x42 | .close => 0x43 | .lock => 0x44 | .unlock => 0x45 | .chimeShort => 0x48
  | .chimeLong => 0x49 | .queryState => 0x4F

/-- The class of a command (section 8.4). -/
def Command.class : Command → CommandClass
  | .permit | .withhold => .permission
  | .close | .lock | .unlock => .closure
  | .chimeShort | .chimeLong => .chime
  | .queryState => .query

/-- The queue with a command in it (R146): in the place of a queued command of its class, or at the end. -/
def enqueue (c : Command) : List Command → List Command
  | [] => [c]
  | x :: xs => if x.class = c.class then c :: xs else x :: enqueue c xs

/-- Is the head of the queue of the command's class? -/
def replacesHead (c : Command) : List Command → Bool
  | [] => false
  | x :: _ => x.class == c.class

/-- A command reaches a line's queue: a replaced head has its attempt count set to 0, and a send under way is told (R146,
R149). -/
def Line.queued (c : Command) (l : Line) : Line :=
  if replacesHead c l.queue then
    { l with queue := enqueue c l.queue, attempts := 0,
             send := l.send.map fun x => if x.fate = .alone then { x with fate := .replaced } else x }
  else { l with queue := enqueue c l.queue }

/-- CLEAR_QUEUE (R146, R149). -/
def Line.cleared (l : Line) : Line :=
  { l with queue := [], attempts := 0, send := l.send.map fun x => { x with fate := .emptied } }

/-- A command is queued on a door's line; while a DOORS reset lasts it is disregarded (R154, R162, R163). That this holds too for the
WITHHOLD of a release set that R165 empties is the model's choice: no rule says so (DESIGN CHOICE, notes/assumptions/41.md). -/
def queueCommand (d : Door) (c : Command) (s : State) : State :=
  if s.inReset .doors then s else changeLine d (Line.queued c) s

/-- The queue of a door's line is emptied; while a DOORS reset lasts this is disregarded (R154, R162). -/
def clearQueue (d : Door) (s : State) : State := if s.inReset .doors then s else changeLine d Line.cleared s

/-! ### The release set -/

/-- Is the door in the door release set? -/
def State.isReleased (s : State) (d : Door) : Bool := s.dt.releaseSet.getLsbD d.val

/-- The permission command of a door (R166). -/
def permissionFor (s : State) (d : Door) : Command := if s.isReleased d then .permit else .withhold

/-- The release set becomes `x`; each door that has entered it is queued PERMIT and each that has left it WITHHOLD (R163). -/
def setReleaseSet (x : BitVec 4) (s : State) : State :=
  let old := s.dt.releaseSet
  let s := { s with dt := { s.dt with releaseSet := x } }
  forAll 4 (fun d s =>
    if x.getLsbD d.val = old.getLsbD d.val then s
    else queueCommand d (if x.getLsbD d.val then .permit else .withhold) s) s

/-- The release set is emptied, and each door that was in it is queued WITHHOLD (R165). While a DOORS reset lasts the set is emptied
and the WITHHOLD is disregarded, though R165 names no exception (DESIGN CHOICE, notes/assumptions/41.md). -/
def emptyReleaseSet (s : State) : State := setReleaseSet 0 s

/-- The translator restores a module's permission and asks for its state (R166). -/
def restorePermission (d : Door) (s : State) : State := queueCommand d .queryState (queueCommand d (permissionFor s d) s)

/-! ### The clock of a line (R142) -/

/-- A loss timer that stands while the part holds the clock low. -/
def LossTimer.pause (now : Nat) : LossTimer → LossTimer
  | .running t => .paused (t - now)
  | x => x

/-- A loss timer that counts on from its time left. -/
def LossTimer.resume (now : Nat) : LossTimer → LossTimer
  | .paused left => .running (now + left)
  | x => x

/-- Does a cause other than the 100 µs minimum and the reset input hold the line's clock low (R142)? -/
def Line.causeHolds (doorsReset : Bool) (l : Line) : Bool :=
  l.activity == .held || (match l.activity, l.send with | .sending, some x => !x.released | _, _ => false) || doorsReset

/-- The part takes the clock low: the minimum inhibit starts and the loss timer stands. A clock already low stays low. -/
def Line.takeLow (now : Nat) (l : Line) : Line :=
  if l.clockLow then l
  else { l with clockLow := true, minimumAt := some (now + inhibitPeriod), loss := l.loss.pause now }

/-- The part releases the clock: LISTENING with a free clock begins, and the loss timer counts on unless a send is under
way. -/
def Line.free (now : Nat) (l : Line) : Line :=
  { l with clockLow := false, minimumAt := none, freeSince := now,
           loss := if l.activity = .sending then l.loss else l.loss.resume now }

/-- The clock is released if no cause holds it and the minimum inhibit has run (R142). -/
def Line.tryFree (now : Nat) (doorsReset : Bool) (l : Line) : Line :=
  if !l.clockLow || l.causeHolds doorsReset then l
  else match l.minimumAt with
    | some t => if now < t then l else l.free now
    | none => l.free now

/-- The 100 µs minimum of a line runs out: the clock is released if no cause holds it. -/
def Line.minimumOver (now : Nat) (doorsReset : Bool) (l : Line) : Line :=
  ({ l with minimumAt := none } : Line).tryFree now doorsReset

/-- When only the minimum inhibit holds a line's clock, an edge of the module or a send shows that it has run out: the clock
of the model moves to its end and the line's clock is released (notes/assumptions/8.md). -/
def settleClock (d : Door) (s : State) : State :=
  let l := s.line d
  if l.clockLow && !l.causeHolds (s.inReset .doors) then
    match l.minimumAt with
    | some t => let s := atLeast t s; changeLine d (fun l => l.minimumOver s.now false) s
    | none => s
  else s

end Sys2Proof.Machine
end

