-- ==== Sys2Proof/Machine/Plaus.lean ====
section
/-! DEFINITION. The internal owners JOINT and PLAUS (R27): their placements and withdrawals, the degraded-sensor set (R61,
R62, R28) and the CRITICAL comparator's record (R51, R62). -/

namespace Sys2Proof.Machine

/-- An internal placement: all values from the profile, no parent, a scope for SENSOR_DEGRADE (R27). When PLAUS's
SUPERVISION_LOST is created or revived the translator empties the release set (R165). -/
def placeInternal (k : Kind) (o : Owner) (scope : Option Scope) (s : State) : State :=
  let p := placeRecord { kind := k, owner := o, supplied := { scope := scope } } s
  match k, p.status with
  | .supervisionLost, .ok | .supervisionLost, .revived => emptyReleaseSet p.state
  | _, _ => p.state

/-- An internal withdrawal: RETIRE of the owner's record, without effect when none lives (R27). -/
def withdraw (k : Kind) (o : Owner) (s : State) : State :=
  match s.find k o with
  | some i => (ownerRetire i s).2
  | none => s

/-! ### The degraded-sensor set (R61) -/

/-- Is a counter's angle usable (section 3.4)? -/
def AngleCounter.usable (a : AngleCounter) : Bool := a.calibrated && a.valid

/-- Is the sample of a channel a member of the set (R61)? A height is one while STALE or while its corner is declared. -/
def channelDegraded (s : State) (ch : Channel) : Bool :=
  let x := s.sp.samples[ch.val].state
  if h : 12 ≤ ch.val ∧ ch.val < 18 then
    x == .stale || (s.corner ⟨ch.val - 12, by omega⟩).check == .degraded
  else x != .valid

/-- Bit `n` of a set given by a predicate. -/
def bitIf {w : Nat} (n : Nat) (b : Bool) : BitVec w := if b then BitVec.ofNat w (2 ^ n) else 0

/-- The degraded-sensor set as it stands: bit `n` for channel `n`, bit 21 for θ, bit 22 for δa. -/
def degradedNow (s : State) : BitVec 23 :=
  ((List.finRange 21).foldl (fun acc (ch : Channel) => acc ||| bitIf ch.val (channelDegraded s ch)) 0)
    ||| bitIf 21 (!s.mc.joint.usable) ||| bitIf 22 (!s.mc.actuator.usable)

/-- The corners of the members: brake pressure `n`, bellows pressure `6 + n` and height `12 + n` add corner `n` (R61). -/
def degradedScope (x : BitVec 23) : Scope := x.extractLsb' 0 6 ||| x.extractLsb' 6 6 ||| x.extractLsb' 12 6

/-- PLAUS amends the scope of its SENSOR_DEGRADE record when it differs (R28, R62). -/
def amendDegrade (x : Scope) (s : State) : State :=
  match s.find .sensorDegrade .plaus with
  | some i =>
    if (s.recordAt i).map (·.scope) = some x then s
    else (amendOne .plaus (some (s.handleAt i)) (.scope x) s).2
  | none => s

/-- The degraded-sensor set has gone from `old` to `new` (R62). When it becomes empty PLAUS withdraws its record and amends no scope:
a record that lives on in RELEASING, by a delay or a condition list written to its profile row, keeps the scope it had, where R28
keeps a living record's scope equal to the corners of the set and R62 names the withdrawal alone (DESIGN CHOICE,
notes/assumptions/40.md). -/
def degradedChanged (old new : BitVec 23) (s : State) : State :=
  if new = 0 then withdraw .sensorDegrade .plaus s
  else
    let s := if old = 0 then placeInternal .sensorDegrade .plaus (some (degradedScope new)) s else s
    amendDegrade (degradedScope new) s

/-- PLAUS looks at the degraded-sensor set; until CONFIG_DONE it does not watch it (R62). -/
def watchDegraded (s : State) : State :=
  if !s.hl.configured then s
  else
    let new := degradedNow s
    if new = s.degraded then s
    else degradedChanged s.degraded new { s with degraded := new }

/-- PLAUS acts on the CRITICAL comparator as it stands (R51, R62). -/
def watchCritical (s : State) : State :=
  if !s.hl.configured then s
  else match s.sp.critical with
    | .below => placeInternal .airCritical .plaus none s
    | .above => withdraw .airCritical .plaus s

/-- At the first taking of CONFIG_DONE PLAUS acts on the set and on CRITICAL as they then stand (R62). -/
def startWatching (s : State) : State :=
  let s := watchDegraded s
  if s.sp.critical = .below then watchCritical s else s

end Sys2Proof.Machine
end

