-- ==== Sys2Proof/Machine/Sensing.lean ====
section
/-! DEFINITION. Chapter 03, the Sense Port and the angle counters: what a sample word, an age timer, a phase transition and a
centre mark do, and the commands of that family. -/

namespace Sys2Proof.Machine

/-! ### Sample records and comparators -/

/-- The top of a channel's range (section 3.1). -/
def channelTop (ch : Channel) : Nat :=
  if ch.val < 12 then 1000 else if ch.val < 18 then 400 else if ch.val < 20 then 1000 else 1200

/-- A channel's sample record. -/
def State.sample (s : State) (ch : Channel) : Sample := s.sp.samples[ch.val]

/-- Change a channel's sample record. -/
def changeSample (ch : Channel) (f : Sample → Sample) (s : State) : State :=
  { s with sp := { s.sp with samples := upd s.sp.samples ch f } }

/-- The comparators come to read `r`, `l` and `c`: AIR is set for each change, a change of RESERVE goes to the Levelling
Controller and a change of CRITICAL to PLAUS (R51). -/
def setComparators (r l c : Level) (s : State) : State :=
  let old := s.sp
  let s := { s with sp := { s.sp with reserve := r, low := l, critical := c } }
  let s := setFlagIf (r != old.reserve || l != old.low || c != old.critical) .air s
  let s := if r = old.reserve then s else reserveEvent r s
  if c = old.critical then s else watchCritical s

/-- R48: the three comparators on a reservoir value. -/
def evalComparators (v : Nat) (s : State) : State :=
  let p := s.hl.params
  setComparators (compare p.reserve v s.sp.reserve) (compare p.low v s.sp.low) (compare p.critical v s.sp.critical) s

/-- A change of a sample record's state has happened (R47, R49): SENSOR is set, a height's corner and the reservoir's
comparators are told, and PLAUS looks at the degraded-sensor set. -/
def sampleStateChanged (ch : Channel) (x : SampleState) (s : State) : State :=
  let s := setFlag .sensor s
  let s := if h : 12 ≤ ch.val ∧ ch.val < 18 then heightState ⟨ch.val - 12, by omega⟩ x s else s
  let s := if ch.val = 20 && x != .valid then setComparators .below s.sp.low s.sp.critical s else s
  watchDegraded s

/-- A sample record's state becomes `x`; a state already held is no change (R47). -/
def setSampleState (ch : Channel) (x : SampleState) (s : State) : State :=
  if (s.sample ch).state = x then s
  else sampleStateChanged ch x (changeSample ch (fun r => { r with state := x }) s)

/-- A good word for a channel (R44, R47, R48): the value is limited and stored and the age timer started; a height goes to its
corner; a change of state follows; a reservoir value goes to the comparators. -/
def goodSample (ch : Channel) (v : Nat) (s : State) : State :=
  let v := min v (channelTop ch)
  let s := changeSample ch (fun r => { r with value := v, ageAt := some (s.now + agePeriod) }) s
  let s := if h : 12 ≤ ch.val ∧ ch.val < 18 then heightWord ⟨ch.val - 12, by omega⟩ v s else s
  let s := setSampleState ch .valid s
  if ch.val = 20 then evalComparators v s else s

/-- A fault word for a channel (R45). -/
def faultSample (ch : Channel) (s : State) : State :=
  setSampleState ch .fault (changeSample ch (fun r => { r with ageAt := some (s.now + agePeriod) }) s)

/-- A word is discarded and counted; the count holds at 65535 (R44, R183). -/
def countDiscard (s : State) : State := { s with sp := { s.sp with discards := bump 65535 s.sp.discards } }

/-- A sample word (R44, R45); while a SENSE reset lasts every word is discarded without counting (R65). -/
def takeSample (channel : BitVec 5) (fault : Bool) (value : BitVec 11) (s : State) : State :=
  if s.inReset .sense then s
  else if h : channel.toNat < 21 then
    if fault then faultSample ⟨channel.toNat, h⟩ s else goodSample ⟨channel.toNat, h⟩ value.toNat s
  else countDiscard s

/-- An age timer expires (R46). -/
def ageOut (ch : Channel) (s : State) : State :=
  match (s.sample ch).ageAt with
  | none => s
  | some t =>
    let s := atLeast t s
    let s := changeSample ch (fun r => { r with ageAt := none }) s
    if (s.sample ch).state = .valid then setSampleState ch .stale s else s

/-! ### Angle counters -/

/-- An angle counter. -/
def State.angle (s : State) : Angle → AngleCounter
  | .joint => s.mc.joint
  | .actuator => s.mc.actuator

/-- Change an angle counter. -/
def changeAngle (a : Angle) (f : AngleCounter → AngleCounter) (s : State) : State :=
  match a with
  | .joint => { s with mc := { s.mc with joint := f s.mc.joint } }
  | .actuator => { s with mc := { s.mc with actuator := f s.mc.actuator } }

/-- The next combination in R56's cycle. -/
def nextPhases : Phases → Phases
  | .bothLow => .firstHigh | .firstHigh => .bothHigh | .bothHigh => .secondHigh | .secondHigh => .bothLow

/-- R58: a count moved by one transition, held within ±600; at ±600 the counter becomes INVALID. -/
def AngleCounter.moved (step : Int) (a : AngleCounter) : AngleCounter :=
  let n := clamp (a.count + step) (-600) 600
  { a with count := n, valid := a.valid && n != 600 && n != -600 }

/-- R57: an illegal transition at `now`; the sixteenth listed makes the counter INVALID and empties the list. -/
def AngleCounter.disturbed (now : Nat) (a : AngleCounter) : AngleCounter :=
  let total := bump 65535 a.illegalTotal
  if 15 ≤ a.illegal.length then { a with illegalTotal := total, illegal := [], valid := false }
  else { a with illegalTotal := total, illegal := a.illegal ++ [now] }

/-- R56: the phase inputs take the levels `p`; levels that do not change are no transition. -/
def AngleCounter.transit (now : Nat) (p : Phases) (a : AngleCounter) : AngleCounter :=
  if p = a.phases then a
  else if p = nextPhases a.phases then { a.moved 1 with phases := p }
  else if nextPhases p = a.phases then { a.moved (-1) with phases := p }
  else { a.disturbed now with phases := p }

/-- R59. -/
def AngleCounter.marked (a : AngleCounter) : AngleCounter :=
  { a with count := 0, calibrated := true, valid := true, illegal := [] }

/-- An angle counter changes (R60): a change of its calibration or validity sets SENSOR, and PLAUS looks at the
degraded-sensor set. -/
def stepAngle (a : Angle) (f : AngleCounter → AngleCounter) (s : State) : State :=
  let old := s.angle a
  let s := changeAngle a f s
  if (s.angle a).calibrated = old.calibrated ∧ (s.angle a).valid = old.valid then s
  else watchDegraded (setFlag .sensor s)

/-- The oldest entry of an illegal list leaves it (R57). -/
def dropIllegal (a : Angle) (s : State) : State :=
  match (s.angle a).illegal with
  | [] => s
  | t :: _ => changeAngle a (fun x => { x with illegal := x.illegal.tail }) (atLeast (t + illegalPeriod) s)

/-- A counter's reset values, its phase inputs kept (R64, R65). -/
def AngleCounter.cleared (a : AngleCounter) : AngleCounter := resetAngle a.phases

/-! ### The start of a SENSE reset (R65) -/

/-- A sample record is reset: value 0, age timer stopped, STALE, a change of state being a change like any other. -/
def resetSample (ch : Channel) (s : State) : State :=
  setSampleState ch .stale (changeSample ch (fun r => { r with value := 0, ageAt := none }) s)

/-- The start of a SENSE reset (R65). The 21 sample records are reset in rising channel, and each sends its events, a corner's freeze
and the grant it returns among them, before the next is reset (DESIGN CHOICE, notes/assumptions/14.md). -/
def startSenseReset (s : State) : State :=
  let s := forAll 21 resetSample s
  let s := { s with sp := { s.sp with discards := 0 } }
  let s := setComparators .below .below .below s
  stepAngle .actuator AngleCounter.cleared (stepAngle .joint AngleCounter.cleared s)

/-! ### The commands -/

/-- SAMPLE_WORD (R44, R45). -/
def execSampleWord (channel : BitVec 5) (fault : Bool) (value : BitVec 11) (s : State) : Host.Outcome State Fault Refusal :=
  running (takeSample channel fault value) s

/-- SAMPLE_WORD_TIMEOUT (R183): the partial word is discarded and counted; a SENSE reset discards without counting (R65). -/
def execSampleWordTimeout (s : State) : Host.Outcome State Fault Refusal :=
  running (fun s => if s.inReset .sense then s else countDiscard s) s

/-- SAMPLE_AGE_EXPIRY (R46). -/
def execSampleAgeExpiry (ch : Channel) (s : State) : Host.Outcome State Fault Refusal := running (ageOut ch) s

/-- PHASE_TRANSITION (R56 to R58). While a SENSE reset lasts, or the reset input is held, the inputs move and nothing is
counted (R65). -/
def execPhaseTransition (a : Angle) (p : Phases) (s : State) : Host.Outcome State Fault Refusal :=
  .next (if s.resetHeld || s.inReset .sense then changeAngle a (fun x => { x with phases := p }) s
         else stepAngle a (AngleCounter.transit s.now p) s)

/-- ILLEGAL_ENTRY_EXPIRY (R57). -/
def execIllegalEntryExpiry (a : Angle) (s : State) : Host.Outcome State Fault Refusal := running (dropIllegal a) s

/-- CENTRE_MARK (R59); disregarded while a SENSE reset lasts (R65). -/
def execCentreMark (a : Angle) (s : State) : Host.Outcome State Fault Refusal :=
  running (fun s => if s.inReset .sense then s else stepAngle a AngleCounter.marked s) s

end Sys2Proof.Machine
end

