-- ==== Sys2Proof/Machine/Kneel.lean ====
section
/-! DEFINITION. Chapter 06, the part of the Levelling Controller above the records: control events, risen reports, the corner
timers, and the LEVEL group reset; with the commands of that family. -/

namespace Sys2Proof.Machine

/-! ### Risen reports (R116) -/

/-- An entry of the rising list is reported risen when every corner of its scope is LEVEL, and taken off the list. -/
def reportRisen (e : RisingEntry) (s : State) : State :=
  if s.lc.rising.contains e && allLevel s e.scope then riseRecord e.handle (leaveRising e.handle s) else s

/-- The controller looks for risen records (R116); while a LEVEL reset lasts no report is made (R122). Where several entries are complete,
the reports are made in the order in which the entries stand in the list, an entry in place of another standing last (DESIGN CHOICE,
notes/assumptions/36.md). -/
def lookRisen (s : State) : State :=
  if s.inReset .level then s else s.lc.rising.foldl (fun s e => reportRisen e s) s

/-! ### Control events (R103, R113) -/

/-- Does a height lie within the band about a level? -/
def withinBand (db level : Int) (h : Nat) : Bool := decide (-db ≤ level - (h : Int)) && decide (level - (h : Int) ≤ db)

/-- Is every corner whose offset held is not 0 KNEELED? -/
def allKneeled (s : State) : Bool := s.lc.corners.toList.all fun r => r.offset == 0 || r.phase == .kneeled

/-- The transitions the band decides (R113): LOWERING to KNEELED about the kneel depth, RISING to LEVEL about the ride
height. -/
def bandTransition (c : Corner) (h : Nat) (s : State) : State :=
  let r := s.corner c
  let ride := (s.hl.params.ride : Int)
  match r.phase with
  | .lowering =>
    if withinBand (bandNow s) (ride + r.offset) h then
      let s := changeCorner c (fun r => { r with phase := .kneeled }) s
      setFlagIf (allKneeled s) .kneel s
    else s
  | .rising =>
    if withinBand (bandNow s) ride h then lookRisen (changeCorner c (fun r => { r with phase := .level }) s) else s
  | .level | .kneeled | .halted => s

/-- Steps 1 to 5 of R103 at a control event of a NORMAL corner. -/
def workCorner (c : Corner) (s : State) : State :=
  let r := s.corner c
  if r.count = 0 then s
  else
    let h := r.sum / r.count
    let s := changeCorner c (fun r => { r with last := some h, sum := 0, count := 0 }) s
    judge false c h (bandTransition c h s)

/-- A control event of a corner (R100, R103): the context is formed first; a corner that is not NORMAL does nothing. -/
def controlEvent (c : Corner) (s : State) : State :=
  let s := formContext s
  if (s.corner c).check = .normal then workCorner c s else s

/-- A revolution event for an axle reaches a corner of it (R101); while a LEVEL reset lasts no revolution is counted
(R122). -/
def revolveCorner (c : Corner) (s : State) : State :=
  let r := s.corner c
  if s.inReset .level || r.source != .axleRev16 then s
  else if 15 ≤ r.revs then controlEvent c (changeCorner c (fun r => { r with revs := 0 }) s)
  else changeCorner c (fun r => { r with revs := r.revs + 1 }) s

/-- A revolution event for an axle (R55, R101). The axle's two corners take it in rising corner index, and the second takes it in the
context that a control event of the first has formed (DESIGN CHOICE, notes/assumptions/36.md). -/
def revolutionEvent (a : Axle) (s : State) : State :=
  forAll 6 (fun c s => if axleOf c = a then revolveCorner c s else s) s

/-! ### The timers of the corners -/

/-- A corner's timer source expires: it starts again, and the expiry is a control event (R101). -/
def sourceExpiry (c : Corner) (s : State) : State :=
  match (s.corner c).sourceAt with
  | none => s
  | some t =>
    let s := atLeast t s
    controlEvent c (changeCorner c (fun r => { r with sourceAt := r.source.period.map (s.now + ·) }) s)

/-- The strobe ends: the output goes inactive and the wait starts (R117). -/
def strobeExpiry (c : Corner) (s : State) : State :=
  match (s.corner c).check, (s.corner c).checkAt with
  | .strobe, some t =>
    let s := atLeast t s
    changeCorner c (fun r => { r with check := .wait, strobe := false, checkAt := some (s.now + waitPeriod) }) s
  | _, _ => s

/-- The recovery wait ends (R118): the corner takes its height record as it stands. -/
def waitExpiry (c : Corner) (s : State) : State :=
  match (s.corner c).check, (s.corner c).checkAt with
  | .wait, some t =>
    let s := atLeast t s
    watchDegraded (match s.heightRecord c with
      | .valid => recoverCorner c s
      | .stale | .fault => changeCorner c (fun r => { r with check := .degraded, checkAt := none }) s)
  | _, _ => s

/-- A recovery window expires and stops (R118). -/
def recoveryExpiry (c : Corner) (s : State) : State :=
  match (s.corner c).recoveryAt with
  | none => s
  | some t => changeCorner c (fun r => { r with recoveryAt := none }) (atLeast t s)

/-- The halt timer expires (R115). -/
def haltExpiry (s : State) : State :=
  match s.lc.haltAt with
  | none => s
  | some t =>
    let s := atLeast t s
    let s := { s with lc := { s.lc with haltAt := none } }
    if s.lc.resumePending then resumeNow s else s

/-! ### The LEVEL group reset (R122, R123) -/

/-- A corner at the start of a LEVEL reset: STROBE and WAIT become NORMAL, phases and recovery windows are kept. R118 has the recovery
window stop 'at the resets of section 6.8', R122 has it run on through this one; the model follows R122 (DEDUCED,
notes/assumptions/38.md). -/
def CornerRecord.levelReset (r : CornerRecord) : CornerRecord :=
  { r with sourceAt := none, revs := 0, sum := 0, count := 0, last := none, waiting := none, strobe := false,
           checkAt := none,
           check := match r.check with | .strobe | .wait | .normal => .normal | .degraded => .degraded }

/-- The start of a LEVEL reset (R122). The generators are quieted with the group (R75). -/
def startLevelReset (s : State) : State :=
  { s with lc := { s.lc with corners := mapAll s.lc.corners fun _ r => r.levelReset, grants := #v[none, none],
                             haltAt := none, resumePending := false } }

/-- A corner's phase and offset held recomputed from the envelope (R123). -/
def recomputePhase (offsets : Vector Int 6) (c : Corner) (r : CornerRecord) : CornerRecord :=
  { r with offset := offsets[c.val], phase := if offsets[c.val] = 0 then .level else .lowering }

/-- The end of a LEVEL reset (R123): phases, context and sources, sensor checks, then risen records. PLAUS looks at the degraded-sensor
set once, when all six corners have settled: a set that would be empty between two of them is amended, not withdrawn and placed anew
(R62 and R123 give no order; DESIGN CHOICE, notes/assumptions/42.md). -/
def endLevelReset (s : State) : State :=
  let s := { s with lc := { s.lc with corners := mapAll s.lc.corners (recomputePhase s.eu.env.offsets),
                                      context := contextNow s } }
  let s := forAll 6 (fun c s => takeSource c (sourceFor s c s.lc.context) s) s
  let s := forAll 6 (fun c s => meetHeight c (s.heightRecord c) s) s
  lookRisen (watchDegraded s)

/-! ### The commands -/

/-- CORNER_TIMER_EXPIRY (R101, R103). -/
def execCornerTimerExpiry (c : Corner) (s : State) : Host.Outcome State Fault Refusal := running (sourceExpiry c) s

/-- STROBE_TIMER_EXPIRY (R117). -/
def execStrobeTimerExpiry (c : Corner) (s : State) : Host.Outcome State Fault Refusal := running (strobeExpiry c) s

/-- WAIT_TIMER_EXPIRY (R118). -/
def execWaitTimerExpiry (c : Corner) (s : State) : Host.Outcome State Fault Refusal := running (waitExpiry c) s

/-- RECOVERY_WINDOW_EXPIRY (R118). -/
def execRecoveryWindowExpiry (c : Corner) (s : State) : Host.Outcome State Fault Refusal := running (recoveryExpiry c) s

/-- HALT_TIMER_EXPIRY (R115). -/
def execHaltTimerExpiry (s : State) : Host.Outcome State Fault Refusal := running haltExpiry s

end Sys2Proof.Machine
end

