-- ==== Sys2Proof/Machine/Motion.lean ====
section
/-! DEFINITION. Chapter 03, the wheels: pulses, buckets, speeds, the moving and stationary flags, distance and revolutions;
and the record timers that run against time and distance (R11, R14, R15); with the commands of that family. -/

namespace Sys2Proof.Machine

/-! ### Distance and revolutions (R55, R15) -/

/-- A distance increment lowers a record's distance remaining (R15). -/
def Record.travelled (inc : Nat) (r : Record) : Record :=
  if r.state = .releasing then { r with distLeft := r.distLeft - inc } else r

/-- Does the increment bring the record's distance remaining to 0 from above? -/
def Record.arrives (inc : Nat) (r : Record) : Bool := r.state == .releasing && 0 < r.distLeft && r.distLeft ≤ inc

/-- The slots whose records' distance remaining the increment brings to 0, in slot order. -/
def arriving (s : State) (inc : Nat) : List Slot :=
  allSlots.filter fun i => match s.recordAt i with | some r => r.arrives inc | none => false

/-- A distance increment reaches the Restraint Table (R15): every RELEASING record's distance falls, then each that has
reached 0 is an event to the Envelope Unit and is checked for retirement. -/
def distanceIncrement (inc : Nat) (s : State) : State :=
  let reached := arriving s inc
  let s := { s with rt := { s.rt with slots := mapAll s.rt.slots fun _ e =>
    { e with record := e.record.map (Record.travelled inc) } } }
  reached.foldl (fun s i => checkRetire i (formEnvelope s)) s

/-- A pulse of B-K in the distance state (R55): the `circ` in use is added to the remainder and the whole mm are taken out of it. -/
def rollOn (s : State) : State :=
  let r := s.mc.remainder + s.mc.circ
  let inc := r / s.mc.teeth
  let s := { s with mc := { s.mc with remainder := r - inc * s.mc.teeth } }
  if inc = 0 then s
  else distanceIncrement inc { s with mc := { s.mc with trip := s.mc.trip + BitVec.ofNat 32 inc } }

/-- A pulse of a kerb wheel in its revolution count (R55). -/
def countRevolution (a : Axle) (s : State) : State :=
  let n := s.mc.revs[a.val] + 1
  if s.mc.teeth ≤ n then
    revolutionEvent a { s with mc := { s.mc with revs := upd s.mc.revs a fun _ => 0 } }
  else { s with mc := { s.mc with revs := upd s.mc.revs a fun _ => n } }

/-- A pulse on a wheel input (R52, R55). -/
def wheelPulse (w : Corner) (s : State) : State :=
  let s := { s with mc := { s.mc with wheels := upd s.mc.wheels w fun x => { x with bucket := bump 255 x.bucket } } }
  let s := if w = 2 then rollOn s else s
  if w.val % 2 = 0 then countRevolution (axleOf w) s else s

/-! ### Buckets, speeds and flags (R52 to R54) -/

/-- A wheel's speed from its closed buckets, held at 1500 (R52). -/
def wheelSpeed (circ teeth n : Nat) : Nat := min 1500 (n * circ * 9 / (teeth * 10))

/-- A wheel at an expiry of the bucket timer: its open bucket closes, the oldest closed one drops, and its speed is
figured (R52). -/
def Wheel.close (circ teeth : Nat) (w : Wheel) : Wheel :=
  let b := w.closed
  let closed : Vector Nat 4 := #v[b[1], b[2], b[3], w.bucket]
  { bucket := 0, closed := closed, speed := wheelSpeed circ teeth (closed.toList.foldl (· + ·) 0) }

/-- A flag of the Motion Counters has become set or clear: the Restraint Table arms its records when the stationary flag is
set (R10), the translator empties the release set when the moving flag is set (R165), and the Levelling Controller forms
its context (R100). -/
def movingChanged (s : State) : State :=
  let s := if s.mc.moving then emptyReleaseSet s else s
  formContext s

/-- The stationary flag has changed (R54). -/
def stationaryChanged (s : State) : State :=
  let s := if s.mc.stationary then armRecords s else s
  formContext s

/-- The moving flag comes to read `b`. -/
def setMoving (b : Bool) (s : State) : State :=
  if b = s.mc.moving then s else movingChanged { s with mc := { s.mc with moving := b } }

/-- The stationary flag comes to read `b`. -/
def setStationary (b : Bool) (s : State) : State :=
  if b = s.mc.stationary then s else stationaryChanged { s with mc := { s.mc with stationary := b } }

/-- The vehicle speed figured is `v` (R53, R54): a change goes to the drive-inhibit line and to the flags, and the
stationary timer is started or stopped. Where both flags change, the moving flag's change is sent before the stationary flag changes, so the
controller forms a context between the two (DESIGN CHOICE, notes/assumptions/9.md). -/
def setSpeed (v : Nat) (s : State) : State :=
  let old := s.mc.speed
  let s := { s with mc := { s.mc with speed := v } }
  let s := if v = old then s
           else setStationary (stationaryAt v s.mc.stationary) (setMoving (movingAt v s.mc.moving) (evalInhibit s))
  { s with mc := { s.mc with stationaryAt := stationaryTimer s.now v s.mc.stationary s.mc.stationaryAt } }

/-- An expiry of the bucket timer (R52, R53): written values of circ and teeth are in use from here on, in this expiry's speeds too.
The remainder and the revolution counts go on as they stand (DESIGN CHOICE, notes/assumptions/33.md). -/
def bucketExpiry (s : State) : State :=
  let s := atLeast s.mc.bucketAt s
  let p := s.hl.params
  let wheels := mapAll s.mc.wheels fun _ w => w.close p.circ p.teeth
  let s := { s with mc := { s.mc with circ := p.circ, teeth := p.teeth, wheels := wheels, bucketAt := s.now + cyclePeriod } }
  setSpeed (largest (wheels.toList.map (·.speed))) s

/-- The stationary timer expires: it stops and the stationary flag is set (R54). -/
def stationaryExpiry (s : State) : State :=
  match s.mc.stationaryAt with
  | none => s
  | some t =>
    let s := atLeast t s
    setStationary true { s with mc := { s.mc with stationaryAt := none } }

/-! ### Record timers (R11, R14) -/

/-- The arm timer of the record in a slot expires (R11). -/
def armExpiry (i : Slot) (s : State) : State :=
  match s.recordAt i with
  | none => s
  | some r => match r.state, r.armAt with
    | .armed, some t => retire i (setFlag .recordTimeout (atLeast t s))
    | _, _ => s

/-- The release remaining after a release step, the timer started again above 0 (R14). -/
def Record.stepped (now : Nat) (r : Record) : Record :=
  let n := r.releaseLeft - 50
  { r with releaseLeft := n, stepAt := if 0 < n then some (now + stepPeriod) else none }

/-- The release step timer of the record in a slot expires (R14). -/
def stepExpiry (i : Slot) (s : State) : State :=
  match s.recordAt i with
  | none => s
  | some r => match r.state, r.stepAt with
    | .releasing, some t =>
      let s := atLeast t s
      checkRetire i (formEnvelope (changeRecord i (Record.stepped s.now) s))
    | _, _ => s

/-! ### The commands -/

/-- WHEEL_PULSE (R52, R55). -/
def execWheelPulse (w : Corner) (s : State) : Host.Outcome State Fault Refusal := running (wheelPulse w) s

/-- BUCKET_TIMER_EXPIRY (R52 to R54). -/
def execBucketTimerExpiry (s : State) : Host.Outcome State Fault Refusal := running bucketExpiry s

/-- STATIONARY_TIMER_EXPIRY (R54). -/
def execStationaryTimerExpiry (s : State) : Host.Outcome State Fault Refusal := running stationaryExpiry s

/-- ARM_TIMEOUT (R11). -/
def execArmTimeout (i : Slot) (s : State) : Host.Outcome State Fault Refusal := running (armExpiry i) s

/-- RELEASE_STEP (R14). -/
def execReleaseStep (i : Slot) (s : State) : Host.Outcome State Fault Refusal := running (stepExpiry i) s

end Sys2Proof.Machine
end

