-- ==== Sys2Proof/Machine/ValveEvents.lean ====
section
/-! DEFINITION. Chapter 04: the commands that end a generator's periods (R68 to R71, R73), and the start of the generators'
part in a group reset. -/

namespace Sys2Proof.Machine

/-- The generator of a name. -/
def State.gen (s : State) (g : GenId) : Generator := s.valves.gen g

/-- Change the generator of a name. -/
def changeGen (g : GenId) (f : Generator → Generator) (s : State) : State :=
  { s with valves := s.valves.setGen f g }

/-- A completion event by running out reaches the owner (R71): a FILL returns its grant (R110); the others are taken
without effect (R92, R110, R133). -/
def ranOut (g : GenId) (s : State) : State :=
  match g with
  | .fill c => returnGrant c s
  | .apply _ | .brakeExhaust _ | .cornerExhaust _ | .kerbward | .offward | .damping => s

/-- A SINGLE's period runs out (R68). -/
def singleEnd (g : GenId) (s : State) : State :=
  let x := s.gen g
  match x.prog, x.waiting, x.endAt with
  | .single _, false, some t =>
    let s := atLeast t s
    ranOut g (changeGen g (Generator.toIdle s.now) s)
  | _, _, _ => s

/-- The output closes and a closing of a TRAIN starts (R69). -/
def Generator.closeTrain (now off : Nat) (x : Generator) : Generator :=
  { x with isOpen := false, endAt := some (now + off * ms), closedAt := if x.isOpen then some now else x.closedAt }

/-- A further opening of a TRAIN starts (R69). -/
def Generator.reopenTrain (now on : Nat) (x : Generator) : Generator :=
  { x with isOpen := true, endAt := some (now + on * ms), toCome := x.toCome - 1 }

/-- An opening or a closing of a TRAIN ends (R69). -/
def trainEnd (g : GenId) (s : State) : State :=
  let x := s.gen g
  match x.prog, x.waiting, x.endAt with
  | .train on off _, false, some t =>
    let s := atLeast t s
    if !x.isOpen then changeGen g (Generator.reopenTrain s.now on) s
    else if 0 < x.toCome then changeGen g (Generator.closeTrain s.now off) s
    else ranOut g (changeGen g (Generator.toIdle s.now) s)
  | _, _, _ => s

/-- The open part of a DUTY period ends (R70). -/
def Generator.closeDuty (now : Nat) (x : Generator) : Generator :=
  { x with isOpen := false, openEndAt := none, closedAt := if x.isOpen then some now else x.closedAt }

/-- The open part of a DUTY period ends (R70). -/
def dutyOpenOver (g : GenId) (s : State) : State :=
  let x := s.gen g
  match x.prog, x.waiting, x.openEndAt with
  | .duty _, false, some t => let s := atLeast t s; changeGen g (Generator.closeDuty s.now) s
  | _, _, _ => s

/-- A DUTY period ends and the next one opens the output (R70). -/
def dutyPeriodOver (g : GenId) (s : State) : State :=
  let x := s.gen g
  match x.prog, x.waiting, x.endAt with
  | .duty d, false, some t => let s := atLeast t s; changeGen g (Generator.start s.now (.duty d)) s
  | _, _, _ => s

/-- A WAITING generator's dead time ends and its program starts (R73, R74). -/
def deadTimeOver (g : GenId) (s : State) : State :=
  let x := s.gen g
  match x.waiting, x.endAt with
  | true, some t => let s := atLeast t s; changeGen g (Generator.start s.now x.prog) s
  | _, _ => s

/-- SINGLE_PERIOD_END (R68, R71). -/
def execSinglePeriodEnd (g : GenId) (s : State) : Host.Outcome State Fault Refusal := running (singleEnd g) s

/-- TRAIN_PERIOD_END (R69, R71). -/
def execTrainPeriodEnd (g : GenId) (s : State) : Host.Outcome State Fault Refusal := running (trainEnd g) s

/-- DUTY_OPEN_END (R70). -/
def execDutyOpenEnd (g : GenId) (s : State) : Host.Outcome State Fault Refusal := running (dutyOpenOver g) s

/-- DUTY_PERIOD_END (R70). -/
def execDutyPeriodEnd (g : GenId) (s : State) : Host.Outcome State Fault Refusal := running (dutyPeriodOver g) s

/-- DEAD_TIME_END (R73). -/
def execDeadTimeEnd (g : GenId) (s : State) : Host.Outcome State Fault Refusal := running (deadTimeOver g) s

end Sys2Proof.Machine
end

