-- ==== Sys2Proof/Machine/Brake.lean ====
section
/-! DEFINITION. Chapter 05: the Brake Controller's cycle, stage by stage, and the BRAKE group reset. -/

namespace Sys2Proof.Machine

/-! ### Pedal demand (R79, R80) -/

/-- Is a sample VALID? -/
def Sample.ok (x : Sample) : Bool := x.state == .valid

/-- The pedal demand D (R79). -/
def pedalDemand (a b : Sample) : Nat :=
  match a.ok, b.ok with
  | true, true => max a.value b.value
  | true, false => a.value
  | false, true => b.value
  | false, false => 0

/-- The pedal disagreement after a cycle (R80): judged only when both samples are VALID. -/
def pedalDisagrees (a b : Sample) (was : Bool) : Bool :=
  if a.ok && b.ok then decide (120 < ((a.value : Int) - (b.value : Int)).natAbs) else was

/-- The pedal stage (R79, R80): PEDAL is set when a disagreement arises. -/
def pedalStage (s : State) : State :=
  let a := s.sample 18
  let b := s.sample 19
  let now := pedalDisagrees a b s.bc.disagreement
  setFlagIf (now && !s.bc.disagreement) .pedal
    { s with bc := { s.bc with demand := pedalDemand a b, disagreement := now, speedUsed := s.mc.speed } }

/-! ### Axle load, load ceiling, driver pressure, base target (R81 to R85) -/

/-- The kerb and offside corners of an axle. -/
def kerbOf (a : Axle) : Corner := ⟨2 * a.val, by have := a.isLt; omega⟩
def offsideOf (a : Axle) : Corner := ⟨2 * a.val + 1, by have := a.isLt; omega⟩

/-- The bellows pressure sample of a corner. -/
def State.bellows (s : State) (c : Corner) : Sample := s.sp.samples[6 + c.val]'(by have := c.isLt; omega)

/-- The brake pressure sample of a channel. -/
def State.chamber (s : State) (c : Corner) : Sample := s.sp.samples[c.val]'(by have := c.isLt; omega)

/-- The load index formed from the two bellows samples (R81). -/
def freeLoad (k o : Sample) (full : Nat) : Nat :=
  match k.ok, o.ok with
  | true, true => (k.value + o.value) / 2
  | true, false => k.value
  | false, true => o.value
  | false, false => full

/-- The load index and the load latch of an axle (R82), with `free` the index R81 forms at this cycle. -/
def loadStage (bothLevel : Bool) (free : Nat) (x : BrakeAxle) : BrakeAxle :=
  if bothLevel then { x with load := free, lastFree := some free, latch := none }
  else match x.latch with
    | some v => { x with load := v }
    | none => { x with load := x.lastFree.getD free, latch := some (x.lastFree.getD free) }

/-- The load ceiling (R83). -/
def loadCeiling (cmin cmax lempty lfull load : Nat) : Nat :=
  let low := min cmin cmax
  if lfull ≤ lempty then cmax
  else low + (cmax - low) * min (load - lempty) (lfull - lempty) / (lfull - lempty)

/-- The driver pressure (R84). -/
def driverPressure (d ceiling : Nat) : Nat := (d * ceiling + 500) / 1000

/-- The axle stages (R81 to R85). -/
def axleStage (s : State) (a : Axle) (x : BrakeAxle) : BrakeAxle :=
  let p := s.hl.params
  let free := freeLoad (s.bellows (kerbOf a)) (s.bellows (offsideOf a)) p.lfull[a.val]
  let bothLevel := (s.corner (kerbOf a)).phase == .level && (s.corner (offsideOf a)).phase == .level
  let x := loadStage bothLevel free x
  let c := loadCeiling p.cmin[a.val] p.cmax[a.val] p.lempty[a.val] p.lfull[a.val] x.load
  let d := driverPressure s.bc.demand c
  let f := s.eu.env.floors[a.val]
  { x with ceiling := c, driver := d, floor := f, base := min 1000 (max d f) }

/-! ### Slip (R86 to R88) -/

/-- The slip of a channel (R86). -/
def slipOf (vref vw : Nat) : Nat := if vref < 30 then 0 else (vref - vw) * 1000 / vref

/-- The transition of a slip state: the first row of R87's table that applies. -/
def slipNext (p : Params) (base vref slip hold prev : Nat) (x : SlipState) : SlipState :=
  let out := min p.slipOut p.slipIn
  if base = 0 ∨ vref < 30 then .follow
  else match x with
    | .follow => if p.slipIn ≤ slip then .relieve else .follow
    | .relieve => if slip < out then .hold else .relieve
    | .hold => if p.slipIn ≤ slip then .relieve else if p.holds ≤ hold then .reapply else .hold
    | .reapply => if p.slipIn ≤ slip then .relieve else if base ≤ prev then .follow else .reapply

/-- The hold count after a transition (R87). -/
def holdNext (old new : SlipState) (hold : Nat) : Nat :=
  match new with
  | .hold => if old = .hold then hold + 1 else 1
  | .follow | .relieve | .reapply => 0

/-- The target of a channel (R88). -/
def targetNext (p : Params) (base prev pressure : Nat) (old new : SlipState) : Nat :=
  match new with
  | .follow => base
  | .relieve => min base ((if old = .relieve then prev else pressure) - p.relieve)
  | .hold => min base prev
  | .reapply => min base (prev + p.reapply)

/-! ### The valve command (R91) -/

/-- The opening of an error beyond the deadband, in ms. -/
def openingOf (e : Int) : Nat := (clamp (quot e 8) 1 10).toNat

/-- The command of an error (R91). -/
def commandOf (e : Int) : BrakeCommand :=
  if 15 < e then .apply (openingOf e) else if e < -15 then .exhaust (openingOf (-e)) else .none

/-- The programs a command hands to a channel's generators (R91). -/
def handCommand (c : Corner) (x : BrakeCommand) (s : State) : State :=
  match x with
  | .apply t => handBrake c .first (.single t) s
  | .exhaust t => handBrake c .second (.single t) s
  | .none => handBrake c .second .idle (handBrake c .first .idle s)

/-! ### The channel stages (R86 to R94) -/

/-- The axle's record that a channel belongs to. -/
def State.brakeAxle (s : State) (c : Corner) : BrakeAxle := s.bc.axles[(axleOf c).val]

/-- Change a channel's record. -/
def changeChannel (c : Corner) (f : BrakeChannel → BrakeChannel) (s : State) : State :=
  { s with bc := { s.bc with channels := upd s.bc.channels c f } }

/-- A channel whose pressure sample is not VALID (R93). -/
def degradedChannel (base speed : Nat) (x : Sample) : BrakeChannel where
  run := .degraded
  slip := .follow
  target := some base
  holdCount := 0
  slipValue := 0
  command := .none
  wheelUsed := speed
  sampleUsed := x.value
  sampleState := x.state

/-- A channel whose pressure sample is VALID, after its stages (R86 to R88, R91, R94). -/
def runningChannel (p : Params) (base vref vw : Nat) (x : Sample) (ch : BrakeChannel) : BrakeChannel :=
  let slip := slipOf vref vw
  let prev := ch.target.getD 0
  let new := slipNext p base vref slip ch.holdCount prev ch.slip
  let target := targetNext p base prev x.value ch.slip new
  { run := .running, slip := new, target := some target, holdCount := holdNext ch.slip new ch.holdCount,
    slipValue := slip, command := commandOf ((target : Int) - (x.value : Int)), wheelUsed := vw,
    sampleUsed := x.value, sampleState := x.state }

/-- The channel stages of one channel (R86 to R94): SLIP is set at an entry into RELIEVE (R90). -/
def channelStage (c : Corner) (s : State) : State :=
  let x := s.chamber c
  let base := (s.brakeAxle c).base
  let vw := s.mc.wheels[c.val].speed
  let old := s.bc.channels[c.val]
  let new := if x.ok then runningChannel s.hl.params base s.mc.speed vw x old else degradedChannel base vw x
  let s := changeChannel c (fun _ => new) s
  let s := setFlagIf (new.slip == .relieve && old.slip != .relieve) .slip s
  handCommand c new.command s

/-- A brake cycle's work (R78). -/
def brakeWork (s : State) : State :=
  let s := pedalStage s
  let s := { s with bc := { s.bc with axles := mapAll s.bc.axles (axleStage s) } }
  forAll 6 channelStage s

/-- An expiry of the brake cycle (R78); within a BRAKE reset it does no work (R99). -/
def brakeExpiry (s : State) : State :=
  let s := atLeast s.bc.cycleAt s
  let s := { s with bc := { s.bc with cycleAt := s.now + cyclePeriod } }
  if s.inReset .brake then s else brakeWork s

/-- A channel at the start of a BRAKE reset (R98); the values its latest cycle used are kept for reading. -/
def BrakeChannel.hold (x : BrakeChannel) : BrakeChannel :=
  { x with run := .held, slip := .follow, target := none, holdCount := 0, slipValue := 0, command := .none }

/-- The start of a BRAKE reset (R98). The generators are quieted with the group (R75). -/
def startBrakeReset (s : State) : State :=
  { s with bc := { s.bc with
      disagreement := false
      axles := mapAll s.bc.axles fun _ x => { x with lastFree := none, latch := none }
      channels := mapAll s.bc.channels fun _ x => x.hold } }

/-- BRAKE_CYCLE (R78). -/
def execBrakeCycle (s : State) : Host.Outcome State Fault Refusal := running brakeExpiry s

end Sys2Proof.Machine
end

