-- ==== Sys2Proof/Machine/Joint.lean ====
section
/-! DEFINITION. Chapter 07: the Joint and Steer Controller's cycle, stage by stage, and the JOINT group reset. -/

namespace Sys2Proof.Machine

/-- The band that holds a vehicle speed (section 7.2). -/
def bandOf (v : Nat) : Fin 8 :=
  if v < 50 then 0 else if v < 100 then 1 else if v < 200 then 2 else if v < 300 then 3 else if v < 400 then 4
  else if v < 500 then 5 else if v < 600 then 6 else 7

/-- θ_warn for the comparisons of a cycle: never above θ_limit (R125). -/
def Band.warnUsed (b : Band) : Nat := min b.warn b.limit

/-- The limit condition (R127). -/
def limitCondition (b : Band) (v : Nat) (theta rate : Int) : Bool :=
  decide (50 ≤ v) && (decide (b.limit ≤ theta.natAbs) || decide (b.omega ≤ rate.natAbs))

/-- The joint state and the clear count after a cycle at which θ is usable: the first row of R127's table that applies. -/
def jointNext (b : Band) (v : Nat) (theta rate : Int) (x : JointState) (clear : Nat) : JointState × Nat :=
  match x with
  | .limit =>
    if theta.natAbs < b.warnUsed then (if 100 ≤ clear + 1 then (.normal, 0) else (.limit, clear + 1)) else (.limit, 0)
  | .normal =>
    if limitCondition b v theta rate then (.limit, 0)
    else if b.warnUsed ≤ theta.natAbs then (.watch, clear) else (.normal, clear)
  | .watch =>
    if limitCondition b v theta rate then (.limit, 0)
    else if theta.natAbs < b.warnUsed then (.normal, clear) else (.watch, clear)

/-- The damping level (R129). -/
def dampingLevel (b : Band) (usable : Bool) (x : JointState) (minimum : Nat) : Nat :=
  if !usable then 7
  else max minimum (match x with | .normal => b.damping | .watch => min 7 (b.damping + 2) | .limit => 7)

/-- The rear-steer target (R131). -/
def steerTarget (gain : Nat) (theta bound : Int) : Int :=
  if gain = 0 then 0 else clamp (quot (-(theta * (gain : Int))) 1024) (-140) bound

/-- The command moves toward the target by at most 4 (R132). -/
def followTarget (command target : Int) : Int :=
  if command < target then min (command + 4) target else if target < command then max (command - 4) target else command

/-- The centring lock (R134). -/
def lockEngages (locked : Bool) (gain : Nat) (target command : Int) : Bool :=
  locked || (gain == 0 && target == 0 && command == 0)

/-- Stages 1 to 3 and 4's level, 5 to 8, and 9's error: the controller's record after a cycle (R125 to R134), `θ` and `δa` being
the counts taken. A cycle with the lock engaged forms no error, and the one read back stays (notes/assumptions/20.md). -/
def jointCycle (bands : Vector Band 8) (v : Nat) (joint actuator : AngleCounter) (steer damping : Nat)
    (x : JointController) : JointController :=
  let usable := joint.usable
  let theta := joint.count
  let rate := if usable then (match x.previous with | some p => theta - p | none => 0) else 0
  let band := bandOf v
  let row := bands[band.val]
  let next := if usable then jointNext row v theta rate x.state x.clear else (x.state, 0)
  let locked := !usable || !actuator.usable
  let bound : Int := min 140 (steer : Int)
  let target := if locked then 0 else steerTarget row.gain theta bound
  let command := if locked then 0 else followTarget x.command target
  let engaged := lockEngages locked row.gain target command
  { x with
    state := next.1, clear := next.2, previous := if usable then some theta else none, speedUsed := v, band := band,
    rate := rate,
    damping := dampingLevel row usable next.1 damping, steerUsed := steer, dampingUsed := damping, bound := bound,
    locked := locked, target := target, command := command,
    error := if engaged then x.error else command - actuator.count, engaged := engaged }

/-- The record JOINT_LIMIT follows the joint state (R128): it is placed, with JOINT set, at an entry to LIMIT and withdrawn at
a leaving of it. -/
def jointRecord (old new : JointState) (s : State) : State :=
  if new = .limit ∧ old ≠ .limit then setFlag .joint (placeInternal .jointLimit .joint none s)
  else if old = .limit ∧ new ≠ .limit then withdraw .jointLimit .joint s
  else s

/-- The programs of KERBWARD and OFFWARD (R133). -/
def steerValves (engaged : Bool) (e : Int) (s : State) : State :=
  if engaged then handSteer .second .idle (handSteer .first .idle s)
  else if 2 < e then handSteer .first (.duty (min 100 (e.natAbs * 8))) s
  else if e < -2 then handSteer .second (.duty (min 100 (e.natAbs * 8))) s
  else handSteer .second .idle (handSteer .first .idle s)

/-- A JS cycle's work (R124). Every stage works on the values taken at its start. -/
def jointWork (s : State) : State :=
  let old := s.js
  let new := jointCycle s.hl.params.bands s.mc.speed s.mc.joint s.mc.actuator s.eu.env.steer s.eu.env.damping old
  let s := { s with js := new }
  let s := jointRecord old.state new.state s
  steerValves new.engaged new.error (handDamping (.duty (new.damping * 14)) s)

/-- An expiry of the JS cycle (R124); within a JOINT reset it keeps the lock engaged and does no other work (R138). -/
def jointExpiry (s : State) : State :=
  let s := atLeast s.js.cycleAt s
  let s := { s with js := { s.js with cycleAt := s.now + cyclePeriod } }
  if s.inReset .joint then { s with js := { s.js with engaged := true } } else jointWork s

/-- The start of a JOINT reset (R138). The generators are quieted with the group (R75). -/
def startJointReset (s : State) : State :=
  { s with js := { s.js with target := 0, command := 0, locked := true, engaged := true, previous := none } }

/-- JS_CYCLE (R124). -/
def execJsCycle (s : State) : Host.Outcome State Fault Refusal := running jointExpiry s

end Sys2Proof.Machine
end

