-- ==== Sys2Proof/Machine/DoorLines.lean ====
section
/-! DEFINITION. Chapter 08: what a word, a clock and a send do on a door line, the loss of a line, and the DOORS group reset;
with the commands of that family. The command queue is in Machine/DoorQueue.lean. -/

namespace Sys2Proof.Machine

/-! ### Door and ramp states (R144) -/

/-- The door state that a code reports (R144). -/
def doorReport : Nat → Option DoorState
  | 0x01 => some .locked | 0x02 => some .closed | 0x03 => some .opening | 0x04 => some .open
  | 0x05 => some .closing | 0x06 => some .obstructed | 0x07 => some .fault
  | _ => none

/-- The ramp state that a code of door 2's module reports (R144). -/
def rampReport (d : Door) (code : Nat) : Option RampState :=
  if d = 1 then (match code with | 0x15 => some .out | 0x16 => some .stowed | _ => none) else none

/-- A door's state has changed (R144): DOOR is set, the records whose conditions it touches are evaluated (R12), and so is
the drive-inhibit line (R41). -/
def doorEvent (d : Door) (s : State) : State :=
  evalInhibit (evalListing (fun c => c == .doorLocked d || c == .allDoorsLocked) (setFlag .door s))

/-- The ramp state has changed (R144); it does not enter the drive-inhibit line (R41). -/
def rampEvent (s : State) : State := evalListing (· == .rampStowed) (setFlag .door s)

/-- A door's state is set; one it already holds is no change (R144). -/
def setDoor (d : Door) (x : DoorState) (s : State) : State :=
  if (s.line d).door = x then s else doorEvent d (changeLine d (fun l => { l with door := x }) s)

/-- The ramp state is set. -/
def setRamp (x : RampState) (s : State) : State :=
  if s.dl.ramp = x then s else rampEvent { s with dl := { s.dl with ramp := x } }

/-- The state report of a code (R144). -/
def takeReport (d : Door) (code : Nat) (s : State) : State :=
  let s := match doorReport code with | some x => setDoor d x s | none => s
  match rampReport d code with | some x => setRamp x s | none => s

/-! ### A word from the module (R140, R141, R145) -/

/-- A line's prefix timer stops (R157). -/
def stopPrefixTimer (d : Door) (s : State) : State :=
  { s with dt := { s.dt with prefixAt := upd s.dt.prefixAt d fun _ => none } }

/-- Do the code bits and the parity bit together hold an odd number of ones (R141)? -/
def oddOnes (code : BitVec 7) (parity : Bool) : Bool :=
  (List.range 7).foldl (fun acc n => acc ^^ code.getLsbD n) parity

/-- Is an ended word good (R141)? A stop bit that the part's inhibit cut off is not checked. -/
def goodWord (code : BitVec 7) (parity : Bool) (stop : StopBit) : Bool := oddOnes code parity && stop != .low

/-- A word is discarded (R141): the error count advances, holding at 255, and the line is LISTENING. -/
def discardWord (d : Door) (s : State) : State :=
  changeLine d (fun l => { l with errors := bump 255 l.errors, activity := .listening, freeSince := s.now }) s

/-- R141: at a good word the loss timer starts again, the line is PRESENT, and send wait is clear. -/
def Line.heard (now : Nat) (l : Line) : Line :=
  { l with present := true, loss := .running (now + lossPeriod), sendWait := false }

/-- A code fills the receive holding word: the line is HELD and holds its clock low (R142, R145). -/
def Line.fill (now : Nat) (code : BitVec 7) (l : Line) : Line :=
  ({ l with holding := some code, activity := .held } : Line).takeLow now

/-- A good word is taken (R141, R144, R145, R157, R166). -/
def acceptWord (d : Door) (code : BitVec 7) (s : State) : State :=
  let was := s.line d
  let s := changeLine d (fun l => l.heard s.now) s
  let s := if was.present then s else restorePermission d s
  let s := if was.prefixPending then stopPrefixTimer d s else takeReport d code.toNat s
  changeLine d (fun l => l.fill s.now code) s

/-- An ended word is judged (R141). -/
def judgeWord (d : Door) (code : BitVec 7) (parity : Bool) (stop : StopBit) (s : State) : State :=
  if goodWord code parity stop then acceptWord d code s else discardWord d s

/-- A word reaches its line. One that completes as the part's send takes the clock is kept to the send's end (R143, R145); a
line that is HELD has its clock low, so that no word of its module can complete. -/
def takeWord (d : Door) (code : BitVec 7) (parity : Bool) (stop : StopBit) (s : State) : State :=
  match (s.line d).activity with
  | .listening | .receiving => judgeWord d code parity stop (settleClock d s)
  | .held => s
  | .sending =>
    changeLine d (fun l => { l with send := l.send.map fun x =>
      if x.released || x.kept.isSome then x else { x with kept := some ⟨code, parity, stop⟩ } }) s

/-- The start bit of a word (R140): a LISTENING line becomes RECEIVING. -/
def startWord (d : Door) (s : State) : State :=
  match (s.line d).activity with
  | .listening =>
    let s := settleClock d s
    changeLine d (fun l => { l with activity := .receiving, edgeAt := s.now }) s
  | .receiving | .held | .sending => s

/-- The clock of a word being received has stopped for more than 200 µs (R140). -/
def stopWord (d : Door) (s : State) : State :=
  match (s.line d).activity with
  | .receiving => discardWord d (atLeast ((s.line d).edgeAt + edgePeriod) s)
  | .listening | .held | .sending => s

/-! ### The inhibit (R142) -/

/-- A line's 100 µs minimum inhibit ends. -/
def minimumEnd (d : Door) (s : State) : State :=
  match (s.line d).minimumAt with
  | none => s
  | some t =>
    let s := atLeast t s
    changeLine d (fun l => l.minimumOver s.now (s.inReset .doors)) s

/-! ### Commands to the module (R147 to R149) -/

/-- R147's conditions but the listening time: a queue, a PRESENT line, no send wait, an empty holding word, no DOORS reset, and
LISTENING. -/
def sendReady (s : State) (d : Door) : Bool :=
  let l := s.line d
  !l.queue.isEmpty && l.present && !l.sendWait && l.holding.isNone && !s.inReset .doors && l.activity == .listening

/-- The line takes the clock and the data wire low and is SENDING (R147); the send carries `c`. -/
def Line.startSend (now : Nat) (c : Command) (l : Line) : Line :=
  ({ l with activity := .sending, dataLow := true,
            send := some { command := c, released := false, fate := .alone, releaseAt := now + sendHoldPeriod,
                           timeoutAt := now + sendHoldPeriod + sendPeriod, kept := none } } : Line).takeLow now

/-- A send begins (R147): when its other conditions hold, the line has been LISTENING with its clock free for 1 ms. -/
def beginSend (d : Door) (s : State) : State :=
  if sendReady s d then
    let s := settleClock d s
    let s := atLeast ((s.line d).freeSince + listenPeriod) s
    match (s.line d).queue with
    | c :: _ => changeLine d (Line.startSend s.now c) s
    | [] => s
  else s

/-- The part releases the clock of a send and keeps the data wire low (R148). -/
def Line.releaseSend (now : Nat) (x : Send) (l : Line) : Line :=
  ({ l with send := some { x with released := true, timeoutAt := now + sendPeriod } } : Line).tryFree now false

/-- The part releases the clock of a send (R148). -/
def releaseClock (d : Door) (s : State) : State :=
  match (s.line d).send with
  | some x =>
    if x.released then s
    else let s := atLeast x.releaseAt s; changeLine d (Line.releaseSend s.now x) s
  | none => s

/-- Is the head of the queue dropped at the end of an attempt (R149)? -/
def drops (ack : Bool) (fate : SendFate) (attempts : Nat) : Bool :=
  fate == .alone && !ack && decide (3 ≤ attempts + 1)

/-- The queue at the end of an attempt (R149); an attempt without acknowledge sets send wait. -/
def Line.attempted (ack : Bool) (fate : SendFate) (l : Line) : Line :=
  let l := { l with sendWait := l.sendWait || !ack }
  match fate with
  | .alone =>
    if ack || drops ack fate l.attempts then { l with queue := l.queue.tail, attempts := 0 }
    else { l with attempts := l.attempts + 1 }
  | .replaced | .emptied => { l with attempts := 0 }

/-- The outcome of an attempt (R149): DOOR is set at a drop. -/
def settleAttempt (d : Door) (ack : Bool) (fate : SendFate) (s : State) : State :=
  setFlagIf (drops ack fate (s.line d).attempts) .door (changeLine d (Line.attempted ack fate) s)

/-- The ten levels that a send of the command sets on the data wire, one before each of the module's first ten falling edges (R148):
the start bit, the seven bits of the code, the least significant first, the odd parity bit and the stop bit. -/
def Command.levels (c : Command) : List Bool :=
  let code := BitVec.ofNat 7 c.code
  [false] ++ (List.range 7).map code.getLsbD ++ [!oddOnes code false, true]

/-- The part sets a bit on the data wire: a 0 holds it low. -/
def Line.setBit (l : Line) (b : Bool) : Line := { l with dataLow := !b, sent := l.sent ++ [b] }

/-- A command clocked in up to its eleventh falling edge (R148): its ten levels are set, and then the data wire is released. The single
edges have no row of the opcode table, so all of them are taken with the eleventh (notes/assumptions/31.md). -/
def Line.clockedIn (c : Command) (l : Line) : Line :=
  { c.levels.foldl Line.setBit { l with sent := [] } with dataLow := false }

/-- A send is over: both wires are free, the line is LISTENING, and its loss timer counts on (R148). -/
def Line.sendOver (now : Nat) (l : Line) : Line :=
  ({ l with activity := .listening, dataLow := false, send := none } : Line).free now

/-- The end of a send attempt: a word that was kept is taken first (R145), and then the outcome is applied (R149). -/
def endSend (d : Door) (ack : Bool) (x : Send) (s : State) : State :=
  let s := changeLine d (Line.sendOver s.now) s
  let s := match x.kept with | some w => judgeWord d w.code w.parity w.stop s | none => s
  settleAttempt d ack x.fate s

/-- The eleventh edge of a send, `ack` telling whether the module holds the data wire low at it (R148). -/
def attemptEdge (d : Door) (ack : Bool) (s : State) : State :=
  match (s.line d).send with
  | some x => if x.released then endSend d ack x (changeLine d (Line.clockedIn x.command) s) else s
  | none => s

/-- The eleventh edge has not come within 2 ms of the clock's release (R148): the part releases the data wire. How many of the ten
levels the module has clocked in by then is not told, and `sent` stays as it was (notes/assumptions/31.md). -/
def attemptTimeout (d : Door) (s : State) : State :=
  match (s.line d).send with
  | some x => if x.released then endSend d false x (atLeast x.timeoutAt s) else s
  | none => s

/-! ### Loss of a line (R150) -/

/-- A PRESENT line becomes LOST (R150), less its door state. -/
def Line.lost (l : Line) : Line :=
  { l with present := false, loss := .stopped, prefixPending := false, sendWait := true }

/-- A loss timer expires (R150, R157): the door and ramp states become UNKNOWN, a change being like those of R144. -/
def lossExpiry (d : Door) (s : State) : State :=
  match (s.line d).loss with
  | .running t =>
    let s := stopPrefixTimer d (changeLine d Line.lost (atLeast t s))
    let s := setDoor d .unknown s
    if d = 1 then setRamp .unknown s else s
  | .stopped | .paused _ => s

/-! ### The DOORS group reset (R154, R155) -/

/-- A line at the start of a DOORS reset (R154): its presence is kept, its clock goes low and its loss timer stands. -/
def Line.doorsReset (now : Nat) (l : Line) : Line :=
  ({ l with activity := .listening, holding := none, prefixPending := false, queue := [], attempts := 0, sendWait := false,
            errors := 0, door := .unknown, dataLow := false, send := none } : Line).takeLow now

/-- The door and ramp states that the start of the reset has changed are sent on, in door order (R154). -/
def sendUnknown (old : DoorLines) (s : State) : State :=
  let s := forAll 4 (fun d s => if old.lines[d.val].door = .unknown then s else doorEvent d s) s
  if old.ramp = .unknown then s else rampEvent s

/-- The start of a DOORS reset (R154); the translator's prefix timers stop (R169). -/
def startDoorsReset (s : State) : State :=
  sendUnknown s.dl
    { s with dl := ⟨mapAll s.dl.lines fun _ l => l.doorsReset s.now, .unknown⟩,
             dt := { s.dt with prefixAt := Vector.replicate 4 none } }

/-- The end of a DOORS reset: the clocks are released (R155) and each module's permission is restored (R166). -/
def endDoorsReset (s : State) : State :=
  forAll 4 restorePermission
    { s with dl := { s.dl with lines := mapAll s.dl.lines fun _ l => l.tryFree s.now false } }

/-! ### The commands -/

/-- DOOR_WORD (R141, R143 to R145); every clock is low while a DOORS reset lasts (R154). -/
def execDoorWord (d : Door) (code : BitVec 7) (parity : Bool) (stop : StopBit) (s : State) :
    Host.Outcome State Fault Refusal :=
  running (fun s => if s.inReset .doors then s else takeWord d code parity stop s) s

/-- DOOR_START_BIT (R140). -/
def execDoorStartBit (d : Door) (s : State) : Host.Outcome State Fault Refusal :=
  running (fun s => if s.inReset .doors then s else startWord d s) s

/-- DOOR_WORD_CLOCK_STOP (R140). -/
def execDoorWordClockStop (d : Door) (s : State) : Host.Outcome State Fault Refusal := running (stopWord d) s

/-- INHIBIT_MIN_END (R142). -/
def execInhibitMinEnd (d : Door) (s : State) : Host.Outcome State Fault Refusal := running (minimumEnd d) s

/-- LOSS_TIMER_EXPIRY (R150). -/
def execLossTimerExpiry (d : Door) (s : State) : Host.Outcome State Fault Refusal := running (lossExpiry d) s

/-- SEND_START (R147). -/
def execSendStart (d : Door) (s : State) : Host.Outcome State Fault Refusal := running (beginSend d) s

/-- SEND_CLOCK_RELEASE (R148). -/
def execSendClockRelease (d : Door) (s : State) : Host.Outcome State Fault Refusal := running (releaseClock d) s

/-- SEND_ATTEMPT_END (R148, R149). -/
def execSendAttemptEnd (d : Door) (ack : Bool) (s : State) : Host.Outcome State Fault Refusal :=
  running (attemptEdge d ack) s

/-- SEND_TIMEOUT (R148, R149). -/
def execSendTimeout (d : Door) (s : State) : Host.Outcome State Fault Refusal := running (attemptTimeout d) s

end Sys2Proof.Machine
end

