-- ==== Sys2Proof/Machine/Translator.lean ====
section
/-! DEFINITION. Chapter 09: how the Door Code Translator takes a word, chooses its cell and runs the cell's actions; with the
commands of that family. -/

namespace Sys2Proof.Machine

/-! ### Taking a word (R156, R157) -/

/-- The line the translator takes a word from (R156): the first that holds one, after the line served last. -/
def nextLine (s : State) : Option Door :=
  [s.dt.lastServed + 1, s.dt.lastServed + 2, s.dt.lastServed + 3, s.dt.lastServed].find? fun d =>
    (s.line d).holding.isSome

/-- A line whose code the translator takes: the holding word is empty, and the line leaves HELD (R145). -/
def Line.taken (now : Nat) (doorsReset : Bool) (l : Line) : Line :=
  ({ l with holding := none, activity := if l.activity = .held then .listening else l.activity } : Line).tryFree now
    doorsReset

/-- The context of a door's word (R158). -/
def contextAt (s : State) (d : Door) : Context :=
  if s.hl.service then .service else if s.mc.moving then .moving else if s.isReleased d then .released else .held

/-- The actions of a cell. -/
def cellAt (s : State) (row : Fin 256) (x : Context) : List Action :=
  s.dt.cells[row.val * 4 + x.index.val]'(by have := row.isLt; have := x.index.isLt; omega)

/-! ### The actions (R159 to R162) -/

/-- A door's ignored count advances, holding at 255 (R159). -/
def countIgnored (d : Door) (s : State) : State :=
  { s with dt := { s.dt with ignored := upd s.dt.ignored d (bump 255) } }

/-- The parent of the translator's placements (R8). -/
def stopHoldParent (s : State) : Option Handle :=
  match s.find .stopHold .driver with
  | none => none
  | some i => match s.recordAt i with
    | some r => if r.state ≠ .armed ∧ r.depth ≤ 3 then some (s.handleAt i) else none
    | none => none

/-- The placement a PLACE action asks for (R160). -/
def doorPlacement (s : State) (d : Door) (k : Kind) (v : Variant) : Placement where
  kind := k
  owner := .door d
  variant := some v
  parent := (stopHoldParent s).map some

/-- The statuses of a PLACE that advance the ignored count (R159). -/
def Status.ignoredByDoor : Status → Bool
  | .notOwner | .stale | .badField => true
  | .ok | .clamped | .already | .revived | .full | .depth | .badState | .check | .unknown => false

/-- A PLACE action (R160). -/
def actPlace (d : Door) (k : Kind) (v : Variant) (s : State) : State :=
  let p := placeRecord (doorPlacement s d k v) s
  if p.status.ignoredByDoor then countIgnored d p.state else p.state

/-- A RELEASE action (R161). -/
def actRelease (d : Door) (k : Kind) (s : State) : State :=
  match s.find k (.door d) with
  | some i => (ownerRetire i s).2
  | none => s

/-- One action of a cell for a door's word, `kneel` being kneel presence as read at the taking (R159 to R162). -/
def act (d : Door) (kneel : Bool) (a : Action) (s : State) : State :=
  match a with
  | .ignore => countIgnored d s
  | .place k v => actPlace d k v s
  | .release k => actRelease d k s
  | .send c => queueCommand d c s
  | .haltKneel => if kneel then haltKneel s else countIgnored d s
  | .resumeKneel => if kneel then resumeKneel s else countIgnored d s
  | .clearQueue => clearQueue d s

/-- The cell of a word is run, each action on the state that the one before has left (R158, R159). -/
def runCell (d : Door) (row : Fin 256) (s : State) : State :=
  (cellAt s row (contextAt s d)).foldl (fun t a => act d s.eu.env.kneel a t) s

/-- The row of a main-page code, and of an extended one (section 9.2). -/
def mainRow (code : BitVec 7) : Fin 256 := ⟨code.toNat, by have := code.isLt; omega⟩
def extendedRow (code : BitVec 7) : Fin 256 := ⟨128 + code.toNat, by have := code.isLt; omega⟩

/-- A main-page 0x7F: the line's prefix pending flag is set and its prefix timer starts (R157). -/
def takePrefix (d : Door) (s : State) : State :=
  let s := changeLine d (fun l => { l with prefixPending := true }) s
  { s with dt := { s.dt with prefixAt := upd s.dt.prefixAt d fun _ => some (s.now + prefixPeriod) } }

/-- A word taken from a door's line is translated (R157 to R159). -/
def translate (d : Door) (code : BitVec 7) (extended : Bool) (s : State) : State :=
  let s := changeLine d (fun l => l.taken s.now (s.inReset .doors)) s
  let s := { s with dt := { s.dt with lastServed := d } }
  if extended then runCell d (extendedRow code) (changeLine d (fun l => { l with prefixPending := false }) s)
  else if code = 0x7F then takePrefix d s
  else runCell d (mainRow code) s

/-- The free translator takes a waiting word, if there is one (R156). -/
def translateNext (s : State) : State :=
  match nextLine s with
  | none => s
  | some d => match (s.line d).holding with
    | some code => translate d code (s.line d).prefixPending s
    | none => s

/-- A prefix timer expires: the prefix is dropped (R157). -/
def prefixExpiry (d : Door) (s : State) : State :=
  match s.dt.prefixAt[d.val] with
  | none => s
  | some t => changeLine d (fun l => { l with prefixPending := false }) (stopPrefixTimer d (atLeast t s))

/-! ### The commands -/

/-- TRANSLATE_WORD (R156 to R162). -/
def execTranslateWord (s : State) : Host.Outcome State Fault Refusal := running translateNext s

/-- PREFIX_TIMER_EXPIRY (R157). -/
def execPrefixTimerExpiry (d : Door) (s : State) : Host.Outcome State Fault Refusal := running (prefixExpiry d) s

end Sys2Proof.Machine
end

