-- ==== Sys2Proof/Machine/Operands.lean ====
section
/-! DEFINITION. The operand forms of the host link (section 10.8, "Frames" and "Encodings"): how a field is written as bytes and
read from them, the CRC of a frame, and the codes of the named values. Where section 10.8 leaves a width, a sign or a
number to choose, notes/assumptions/21.md to 30.md say what is taken. -/

namespace Sys2Proof.Machine

/-! ### Fields as bytes -/

/-- One byte, unsigned. -/
def b1 (n : Nat) : Byte := BitVec.ofNat 8 n

/-- A one-byte field, unsigned. -/
def u8 (n : Nat) : List Byte := [b1 n]

/-- A one-byte field, signed. -/
def s8 (v : Int) : List Byte := [BitVec.ofInt 8 v]

/-- A two-byte field, the most significant byte first. -/
def u16 (n : Nat) : List Byte := [b1 (n / 256), b1 n]

/-- A two-byte field, signed in two's complement. -/
def s16 (v : Int) : List Byte := u16 (BitVec.ofInt 16 v).toNat

/-- A four-byte field. -/
def u32 (n : Nat) : List Byte := u16 (n / 65536) ++ u16 (n % 65536)

/-- A signed two-byte field that may be "none", 0x8000. -/
def s16Opt (v : Option Int) : List Byte := match v with | some x => s16 x | none => u16 0x8000

/-- An unsigned two-byte field that may be "none" or "stopped", 0xFFFF. -/
def u16Opt (n : Option Nat) : List Byte := match n with | some x => u16 x | none => u16 0xFFFF

/-- A one-byte field that may be absent, 0xFF. -/
def u8Opt (n : Option Nat) : List Byte := match n with | some x => u8 x | none => u8 0xFF

/-- A yes or no: 1 or 0. -/
def yes (b : Bool) : List Byte := u8 (if b then 1 else 0)

/-- A timer's time left, in ms. -/
def timeLeft (now : Nat) (timer : Option Nat) : List Byte := u16Opt (leftMs now timer)

/-- A handle: the slot number and the generation; handle 0 when there is none. -/
def handleBytes (h : Option Handle) : List Byte :=
  match h with | some h => [b1 (h.slot.val + 1), b1 h.gen.toNat] | none => [0, 0]

/-! ### Fields from bytes -/

/-- A signed byte. -/
def readS8 (a : Byte) : Int := a.toInt

/-- An unsigned two-byte field. -/
def readU16 (a b : Byte) : Nat := a.toNat * 256 + b.toNat

/-- A signed two-byte field. -/
def readS16 (a b : Byte) : Int := (BitVec.ofNat 16 (readU16 a b)).toInt

/-- The handle of two bytes; none for handle 0 and for bytes that are no slot or no generation. -/
def readHandle (a b : Byte) : Option Handle :=
  if h : 1 ≤ a.toNat ∧ a.toNat ≤ 32 then
    if b.toNat ≤ 7 then some ⟨⟨a.toNat - 1, by omega⟩, BitVec.ofNat 3 b.toNat⟩ else none
  else none

/-- A parent field: none given for handle 0 (R2), else the handle, if the bytes are one. -/
def readParent (a b : Byte) : Option (Option Handle) := if a = 0 ∧ b = 0 then none else some (readHandle a b)

/-- A set of corners, bit `n` for corner `n`. -/
def readScope (a : Byte) : Scope := a.setWidth 6

/-! ### The CRC of a frame -/

/-- One bit of the CRC: polynomial 0x2F, the most significant bit first. -/
def crcBit (x : Byte) : Byte := if x.getLsbD 7 then (x <<< 1) ^^^ 0x2F#8 else x <<< 1

/-- One byte of the CRC. -/
def crcByte (acc b : Byte) : Byte := (List.range 8).foldl (fun x _ => crcBit x) (acc ^^^ b)

/-- The CRC over the bytes given, from the initial value 0xFF. -/
def crc8 (bytes : List Byte) : Byte := bytes.foldl crcByte 0xFF

/-! ### Codes of the named values -/

/-- A status's code (section 10.8). -/
def Status.code : Status → Nat
  | .ok => 0 | .clamped => 1 | .already => 2 | .revived => 3 | .full => 4 | .stale => 5 | .notOwner => 6 | .depth => 7
  | .badField => 8 | .badState => 9 | .check => 10 | .unknown => 11

/-- A kind's code: its place in the kind profile table. -/
def Kind.code (k : Kind) : Nat := k.index.val

/-- The kind of a code. -/
def readKind (a : Byte) : Option Kind := allKinds[a.toNat]?

/-- An owner's code in a record field. -/
def Owner.code : Owner → Nat
  | .driver => 1 | .depot => 2 | .door d => 3 + d.val | .joint => 7 | .plaus => 8

/-- The owner of a code in a record field. -/
def readOwner (a : Byte) : Option Owner :=
  match a.toNat with
  | 1 => some .driver | 2 => some .depot | 3 => some (.door 0) | 4 => some (.door 1) | 5 => some (.door 2)
  | 6 => some (.door 3) | 7 => some .joint | 8 => some .plaus
  | _ => none

/-- A record state's code in the record image and in LIST; 0 is FREE. -/
def RecState.code : RecState → Nat
  | .armed => 1 | .active => 2 | .releasing => 3

/-- A condition's code. -/
def Cond.code : Cond → Nat
  | .ownerRelease => 0x01 | .allDoorsLocked => 0x02 | .rampStowed => 0x03 | .noKneel => 0x04 | .configDone => 0x05
  | .doorLocked d => 0x11 + d.val

/-- The condition of a code; 0x00, an unused entry, names none. -/
def readCond (a : Byte) : Option Cond :=
  match a.toNat with
  | 0x01 => some .ownerRelease | 0x02 => some .allDoorsLocked | 0x03 => some .rampStowed | 0x04 => some .noKneel
  | 0x05 => some .configDone
  | 0x11 => some (.doorLocked 0) | 0x12 => some (.doorLocked 1) | 0x13 => some (.doorLocked 2)
  | 0x14 => some (.doorLocked 3)
  | _ => none

/-- A variant field: the variant, none named (0xFF), or no variant at all. -/
def readVariant (a : Byte) : Option (Option Variant) :=
  match a.toNat with
  | 0 => some (some .front) | 1 => some (some .side) | 0xFF => some none
  | _ => none

/-- The command of a code. -/
def readCommand (a : Byte) : Option Command :=
  match a.toNat with
  | 0x41 => some .permit | 0x42 => some .withhold | 0x43 => some .close | 0x44 => some .lock | 0x45 => some .unlock
  | 0x48 => some .chimeShort | 0x49 => some .chimeLong | 0x4F => some .queryState
  | _ => none

/-- A door number, 1 to 4. -/
def readDoor (a : Byte) : Option Door :=
  if h : 1 ≤ a.toNat ∧ a.toNat ≤ 4 then some ⟨a.toNat - 1, by omega⟩ else none

/-- A corner or channel index, 0 to 5. -/
def readCorner (a : Byte) : Option Corner := if h : a.toNat < 6 then some ⟨a.toNat, h⟩ else none

/-- A sample channel, 0 to 20. -/
def readChannel (a : Byte) : Option Channel := if h : a.toNat < 21 then some ⟨a.toNat, h⟩ else none

/-- A group of RESET_GROUP, in the order of R180. -/
def readGroup (a : Byte) : Option Group :=
  match a.toNat with
  | 0 => some .brake | 1 => some .level | 2 => some .joint | 3 => some .doors | 4 => some .sense
  | _ => none

/-- A context of a translation cell, in the order of R158. -/
def readContext (a : Byte) : Option Context := allContexts[a.toNat]?

/-- A corner source, as parameter 11 numbers it. -/
def readSource (v : Int) : Option Source :=
  if v = 0 then some .timer50 else if v = 1 then some .timer1000 else if v = 2 then some .axleRev16
  else if v = 3 then some Source.none else Option.none

/-- The codes of the states that a READ image shows, each numbered in the order in which its rule or table first lists its
values (section 10.8). -/
def Source.code : Source → Nat
  | .timer50 => 0 | .timer1000 => 1 | .axleRev16 => 2 | .none => 3
def SampleState.code : SampleState → Nat
  | .valid => 0 | .stale => 1 | .fault => 2
def Level.code : Level → Nat
  | .above => 0 | .below => 1
def RunState.code : RunState → Nat
  | .running => 0 | .degraded => 1 | .held => 2
def SlipState.code : SlipState → Nat
  | .follow => 0 | .relieve => 1 | .hold => 2 | .reapply => 3
def LevelContext.code : LevelContext → Nat
  | .stationary => 0 | .slow => 1 | .fast => 2
/-- The kneel phase is numbered as table 6.1 lists it, RISING before HALTED; the phase table of section 6.5 lists HALTED before RISING
(DESIGN CHOICE, notes/assumptions/28.md). -/
def KneelPhase.code : KneelPhase → Nat
  | .level => 0 | .lowering => 1 | .kneeled => 2 | .rising => 3 | .halted => 4
def LevelOutcome.code : LevelOutcome → Nat
  | .fill => 0 | .exhaust => 1 | .hold => 2
def CheckState.code : CheckState → Nat
  | .normal => 0 | .strobe => 1 | .wait => 2 | .degraded => 3
def JointState.code : JointState → Nat
  | .normal => 0 | .watch => 1 | .limit => 2
def DoorState.code : DoorState → Nat
  | .locked => 0 | .closed => 1 | .opening => 2 | .open => 3 | .closing => 4 | .obstructed => 5 | .fault => 6
  | .unknown => 7
def RampState.code : RampState → Nat
  | .out => 0 | .stowed => 1 | .unknown => 2
def Activity.code : Activity → Nat
  | .listening => 0 | .receiving => 1 | .held => 2 | .sending => 3
def Cause.code : Cause → Nat
  | .powerOn => 0 | .resetAll => 1

/-- Kneel presence: Present 0, Absent 1. -/
def presenceCode (b : Bool) : Nat := if b then 0 else 1

/-! ### The optional fields of a request (section 10.8) -/

/-- Bit `n` of a supplied-field mask. -/
def maskBit (m n : Nat) : Bool := m.testBit n

/-- An optional field of one byte: read when its bit is set. -/
def optByte (present : Bool) (xs : List Byte) : Option (Option Byte × List Byte) :=
  if present then (match xs with | a :: rest => some (some a, rest) | [] => none) else some (none, xs)

/-- An optional field of two bytes. -/
def optPair (present : Bool) (xs : List Byte) : Option (Option (Byte × Byte) × List Byte) :=
  if present then (match xs with | a :: b :: rest => some (some (a, b), rest) | _ => none) else some (none, xs)

/-- An optional list of one-byte entries behind its count byte. -/
def optList (present : Bool) (xs : List Byte) : Option (Option (List Byte) × List Byte) :=
  if present then
    match xs with
    | n :: rest => if n.toNat ≤ rest.length then some (some (rest.take n.toNat), rest.drop n.toNat) else none
    | [] => none
  else some (none, xs)

/-- A two-byte field as a signed or an unsigned number. -/
def pairS (p : Byte × Byte) : Int := readS16 p.1 p.2
def pairU (p : Byte × Byte) : Int := readU16 p.1 p.2

/-- The seven leading optional values of PLACE and WRITE_PROFILE, in the order of their masks: floor, ceiling, steer limit,
offset, release delay, swing distance, arm timeout. -/
def readValues (m : Nat) (xs : List Byte) : Option (Supplied × List Byte) :=
  (optPair (maskBit m 0) xs).bind fun (fl, xs) =>
  (optPair (maskBit m 1) xs).bind fun (ce, xs) =>
  (optByte (maskBit m 2) xs).bind fun (st, xs) =>
  (optByte (maskBit m 3) xs).bind fun (o, xs) =>
  (optPair (maskBit m 4) xs).bind fun (de, xs) =>
  (optPair (maskBit m 5) xs).bind fun (sw, xs) =>
  (optPair (maskBit m 6) xs).map fun (ar, xs) =>
  ({ floor := fl.map pairS, ceiling := ce.map pairS, steer := st.map fun b => (b.toNat : Int), offset := o.map readS8,
     delay := de.map pairU, swing := sw.map pairU, armTimeout := ar.map pairU }, xs)

/-- The fields of PLACE behind its kind, variant and mask, when the payload's length fits them. -/
def readPlaceFields (m : Nat) (xs : List Byte) : Option (Supplied × Option (Option Handle)) :=
  (readValues m xs).bind fun (v, xs) =>
  (optByte (maskBit m 7) xs).bind fun (sc, xs) =>
  (optList (maskBit m 8) xs).bind fun (cs, xs) =>
  (optPair (maskBit m 9) xs).bind fun (pa, xs) =>
  if xs.isEmpty && m < 1024 then
    some ({ v with scope := sc.map readScope, conds := cs.map (·.map readCond) }, pa.bind fun p => readParent p.1 p.2)
  else none

/-- The fields of WRITE_PROFILE behind its kind, variant and mask, in the order of R4. -/
def readProfileFields (m : Nat) (xs : List Byte) : Option Supplied :=
  (readValues m xs).bind fun (v, xs) =>
  (optList (maskBit m 7) xs).bind fun (cs, xs) =>
  (optByte (maskBit m 8) xs).bind fun (sc, xs) =>
  if xs.isEmpty && m < 512 then some { v with scope := sc.map readScope, conds := cs.map (·.map readCond) } else none

/-- An entry of AMEND: its handle and its change. -/
structure AmendEntry where
  handle : Option Handle
  change : Change
deriving DecidableEq, Repr

/-- The change of an AMEND entry with the bytes behind it. A change byte outside the list names no field, and what follows it
cannot be read. -/
def readChange (code : Nat) (xs : List Byte) : Option (Change × List Byte) :=
  match code, xs with
  | 0, a :: b :: r => some (.floor (readS16 a b), r)
  | 1, a :: b :: r => some (.ceiling (readS16 a b), r)
  | 2, a :: r => some (.steer a.toNat, r)
  | 3, a :: r => some (.offset (readS8 a), r)
  | 4, a :: b :: r => some (.delay (readU16 a b), r)
  | 5, a :: b :: r => some (.swing (readU16 a b), r)
  | 6, a :: r => some (.scope (readScope a), r)
  | 7, a :: r => some (.add (readCond a), r)
  | 8, a :: r => some (.remove (readCond a), r)
  | n, _ => if 8 < n then some (.unknown, []) else none

/-- `n` entries of AMEND, when the payload's length fits them. Reading ends at an entry that names no field. -/
def readEntries : Nat → List Byte → Option (List AmendEntry)
  | 0, xs => if xs.isEmpty then some [] else none
  | n + 1, xs =>
    match xs with
    | a :: b :: c :: rest =>
      match readChange c.toNat rest with
      | some (.unknown, _) => some [⟨readHandle a b, .unknown⟩]
      | some (ch, rest) => (readEntries n rest).map (⟨readHandle a b, ch⟩ :: ·)
      | none => none
    | _ => none

/-- A translation action from its three bytes (section 10.8, R168). -/
def readAction (a b c : Byte) : Option Action :=
  let doorKind := match readKind b with
    | some .doorOpen => some Kind.doorOpen | some .doorEmergency => some Kind.doorEmergency
    | some .rampOut => some Kind.rampOut | some .kneel => some Kind.kneel
    | _ => none
  let variant := match doorKind, readVariant c with
    | some .kneel, some v => some (v.getD .front)
    | some _, some none => some Variant.front
    | _, _ => none
  match a.toNat with
  | 0 => some .ignore
  | 1 => doorKind.bind fun k => variant.map fun v => .place k v
  | 2 => doorKind.bind fun k => variant.map fun _ => .release k
  | 3 => (readCommand b).map .send
  | 4 => some .haltKneel
  | 5 => some .resumeKneel
  | 6 => some .clearQueue
  | _ => none

/-- A cell's list of actions from its bytes, three for each. -/
def readActions : List Byte → Option (List Action)
  | [] => some []
  | a :: b :: c :: rest => (readAction a b c).bind fun x => (readActions rest).map (x :: ·)
  | _ => none

end Sys2Proof.Machine
end

