-- ==== Sys2Proof/Machine/Images.lean ====
section
/-! DEFINITION. What QUERY, LIST and the READ requests return: the image of each, field by field in the order of its rule (R43,
R63, R77, R96, R120, R136, R152; "Record image" and "List response" of section 10.8), and its pages (R182). -/

namespace Sys2Proof.Machine

/-- Page `p` of an image: its bytes 26 × p to 26 × p + 25; none when it begins at or beyond the end of the image, or is no page
number (R182). -/
def pageOf (image : List Byte) (p : Nat) : Option (List Byte) :=
  if p ≤ 3 ∧ 26 * p < image.length then some ((image.drop (26 * p)).take 26) else none

/-! ### Records (R26) -/

/-- The sum of the bits given, bit `n` for the `n`th. -/
def bits (xs : List Bool) : Nat := xs.foldr (fun b acc => acc * 2 + b.toNat) 0

/-- Four condition bytes, 0x00 after the last. -/
def condBytes (cs : List Cond) : List Byte := (cs.map fun c => b1 c.code) ++ List.replicate (4 - cs.length) 0

/-- The record image of QUERY. -/
def recordImage (now : Nat) (h : Handle) (r : Record) : List Byte :=
  handleBytes (some h) ++ u8 r.kind.code ++ u8 r.owner.code ++ u8 r.state.code
    ++ u8 (bits [r.mode == .latched, r.trigger == .stationary, r.ownerRelease, r.risen])
    ++ u8 (bits [r.floor.isSome, r.ceiling.isSome, r.steer.isSome, r.offset.isSome, r.damping.isSome, r.swing.isSome,
                 r.parent.isSome])
    ++ u8 r.scope.toNat ++ u16 (r.floor.getD 0) ++ u16 (r.ceiling.getD 0) ++ u8 (r.steer.getD 0) ++ s8 (r.offset.getD 0)
    ++ u8 (r.damping.getD 0) ++ u16 r.delay ++ u16 (r.swing.getD 0) ++ u16 r.armTimeout ++ condBytes r.conds
    ++ handleBytes r.parent ++ u8 r.depth ++ u16 ((leftMs now r.armAt).getD 0) ++ u16 r.releaseLeft ++ u16 r.distLeft

/-- The state of a slot in LIST: 0 is FREE. -/
def SlotEntry.code (e : SlotEntry) : Nat := match e.record with | some r => r.state.code | none => 0

/-- The byte of LIST that holds the states of slots 4 n + 1 to 4 n + 4, the first in its least significant bits. -/
def listByte (s : State) (n : Fin 8) : Byte :=
  let at_ (k : Fin 4) : Nat :=
    (s.rt.slots[4 * n.val + k.val]'(by have := n.isLt; have := k.isLt; omega)).code
  b1 (at_ 0 + 4 * at_ 1 + 16 * at_ 2 + 64 * at_ 3)

/-- The LIST response. -/
def listResponse (s : State) : List Byte := (List.finRange 8).map (listByte s) ++ u16 s.rt.changeCount.toNat

/-! ### The envelope (R43) -/

/-- The image of READ_ENVELOPE. The drive-inhibit line's level is 1 while asserted and 0 while released (DESIGN CHOICE,
notes/assumptions/28.md). -/
def envelopeImage (s : State) : List Byte :=
  let e := s.eu.env
  e.floors.toList.flatMap (fun f => s16 f) ++ s16 e.ceiling ++ u8 e.steer ++ e.offsets.toList.flatMap s8 ++ u8 e.damping
    ++ u8 (presenceCode e.kneel) ++ u16 s.eu.seq.toNat ++ yes s.eu.inhibit

/-! ### A sample channel (R63) -/

/-- The image of READ_SAMPLE. Its last field is R180's, whether a SENSE reset is in progress; R63 gives it no place, and the model puts
it last, as the other images have theirs (DESIGN CHOICE, notes/assumptions/27.md). -/
def sampleImage (s : State) (ch : Channel) : List Byte :=
  let x := s.sample ch
  let p := s.hl.params
  s16 x.value ++ u8 x.state.code ++ u8 s.sp.reserve.code ++ u8 s.sp.low.code ++ u8 s.sp.critical.code
    ++ s16 p.reserve ++ s16 p.low ++ s16 p.critical ++ s16 s.mc.speed ++ yes s.mc.stationary ++ yes s.mc.moving
    ++ u32 (s.mc.trip.toNat / 100) ++ u16 s.sp.discards ++ yes (s.inReset .sense)

/-! ### Generators (R77) -/

/-- A program with the values it was taken with. A DUTY's duty takes one byte (DESIGN CHOICE, notes/assumptions/21.md). -/
def programBytes : Program → List Byte
  | .idle => u8 0
  | .single t => u8 1 ++ u16 t
  | .train on off n => u8 2 ++ u16 on ++ u16 off ++ u8 n
  | .duty d => u8 3 ++ u8 d

/-- The time left in a generator's present period, in ms rounded down, and 0 when it is IDLE (R77); a free value while it is WAITING,
as its periods have not begun (notes/assumptions/30.md). -/
def Generator.leftNow (now : Nat) (g : Generator) : Nat :=
  if g.waiting then (waitingLeft now g.endAt).toNat else (leftMs now g.endAt).getD 0

/-- A generator's report. -/
def reportBytes (now : Nat) (g : Generator) : List Byte :=
  programBytes g.prog ++ u8 (if g.isOpen then 0 else 1) ++ yes g.waiting ++ u16 (g.leftNow now)
    ++ (match g.prog with | .train _ _ _ => u8 g.toCome | .idle | .single _ | .duty _ => [])

/-! ### A brake channel (R96) -/

/-- A last command, with its opening. -/
def commandBytes : BrakeCommand → List Byte
  | .none => u8 0 ++ u16Opt Option.none
  | .apply t => u8 1 ++ u16 t
  | .exhaust t => u8 2 ++ u16 t

/-- The image of READ_BRAKE (R96). The pedal disagreement, which table 5.1 lists as set or clear, is sent as a yes or no, 1 set and 0
clear, and not as an enumeration in listed order (DESIGN CHOICE, notes/assumptions/28.md). -/
def brakeImage (s : State) (c : Corner) : List Byte :=
  let x := s.bc.channels[c.val]
  let a := s.brakeAxle c
  u8 x.run.code ++ u8 x.slip.code ++ s16Opt (x.target.map Int.ofNat) ++ u8 x.holdCount ++ s16 x.slipValue
    ++ commandBytes x.command ++ s16 x.wheelUsed ++ s16 x.sampleUsed ++ u8 x.sampleState.code
    ++ reportBytes s.now (s.valves.gen (.apply c)) ++ reportBytes s.now (s.valves.gen (.brakeExhaust c))
    ++ s16 a.load ++ yes a.latch.isSome ++ s16Opt (a.latch.map Int.ofNat) ++ s16 a.ceiling ++ s16 a.driver ++ s16 a.floor
    ++ s16 a.base
    ++ s16 s.bc.demand ++ yes s.bc.disagreement ++ s16 s.bc.speedUsed ++ yes (s.inReset .brake)

/-! ### A corner (R120) -/

/-- An entry of the waiting set: a corner with its error. -/
def waitingBytes (s : State) : List Byte :=
  let es := (List.finRange 6).filterMap fun (c : Corner) => (s.corner c).waiting.map fun w => (c, w.error)
  u8 es.length ++ es.flatMap fun e => u8 e.1.val ++ s16 e.2

/-- The image of READ_CORNER (R120). The halt timer, of which R120 names no time left and table 6.1 lists running or stopped, is sent as
the recovery window is, in two bytes: its ms left, rounded down, and 0xFFFF when stopped (DESIGN CHOICE, notes/assumptions/27.md and
30.md). -/
def cornerImage (s : State) (c : Corner) : List Byte :=
  let r := s.corner c
  let p := s.hl.params
  u8 r.source.code ++ u8 (sourceFor s c .stationary).code ++ u8 (sourceFor s c .slow).code ++ u8 (sourceFor s c .fast).code
    ++ u16 r.count ++ s16Opt (r.last.map Int.ofNat) ++ s8 r.offset ++ s16 (targetOf s c) ++ u8 r.phase.code
    ++ s16Opt (if r.phase = .halted then some r.haltHeight else none) ++ u8Opt (r.outcome.map (·.code)) ++ u8 r.check.code
    ++ timeLeft s.now r.recoveryAt ++ yes r.waiting.isSome ++ s16Opt (r.waiting.map (·.error)) ++ yes (s.granted c)
    ++ reportBytes s.now (s.valves.gen (.fill c)) ++ reportBytes s.now (s.valves.gen (.cornerExhaust c))
    ++ u8 s.lc.context.code ++ u8 s.lc.reserve.code ++ s.lc.grants.toList.flatMap (fun g => u8Opt (g.map (·.val)))
    ++ waitingBytes s ++ timeLeft s.now s.lc.haltAt ++ yes s.lc.resumePending ++ u8 s.lc.strays ++ u8 s.lc.rising.length
    ++ s16 p.ride ++ s16 p.bandStat ++ s16 p.bandMove ++ yes (s.inReset .level)

/-! ### The joint (R136) -/

/-- An angle counter's part: UNCALIBRATED 0 or CALIBRATED 1, VALID 0 or INVALID 1. -/
def angleBytes (a : AngleCounter) : List Byte :=
  s16 a.count ++ yes a.calibrated ++ yes (!a.valid) ++ u16 a.illegalTotal

/-- The image of READ_JOINT. -/
def jointImage (s : State) : List Byte :=
  let x := s.js
  s16 x.speedUsed ++ u8 x.band.val ++ angleBytes s.mc.joint ++ angleBytes s.mc.actuator ++ s16 x.rate ++ u8 x.state.code
    ++ u8 x.clear ++ u8 x.damping ++ u8 x.steerUsed ++ u8 x.dampingUsed ++ s16 x.bound ++ yes x.locked ++ s16 x.target
    ++ s16 x.command ++ s16 x.error ++ yes x.engaged ++ reportBytes s.now (s.valves.gen .kerbward)
    ++ reportBytes s.now (s.valves.gen .offward) ++ reportBytes s.now (s.valves.gen .damping) ++ yes (s.inReset .joint)

/-! ### A door line (R152) -/

/-- A loss timer's time left, or stopped. -/
def lossBytes (now : Nat) : LossTimer → List Byte
  | .stopped => u16Opt Option.none
  | .running t => u16 ((t - now) / ms)
  | .paused left => u16 (left / ms)

/-- The image of READ_DOOR; the ramp state is absent for doors other than door 2. -/
def doorImage (s : State) (d : Door) : List Byte :=
  let l := s.line d
  u8 (presenceCode l.present) ++ u8 l.activity.code ++ lossBytes s.now l.loss ++ u8 l.door.code
    ++ u8Opt (if d = 1 then some s.dl.ramp.code else none) ++ u8Opt (l.holding.map (·.toNat)) ++ yes l.prefixPending
    ++ u8 l.queue.length ++ l.queue.map (fun c => b1 c.code) ++ u8 l.attempts ++ yes l.sendWait ++ u8 l.errors
    ++ u8 s.dt.ignored[d.val] ++ yes (s.isReleased d) ++ yes (s.inReset .doors)

end Sys2Proof.Machine
end

