-- ==== Sys2Proof/Machine/Params.lean ====
section
/-! DEFINITION. The parameter store under WRITE_PARAM (R177): each parameter's range, what a write stores and answers, and what
the write does at once (R50, R52, R119). -/

namespace Sys2Proof.Machine

/-- What a write of a parameter comes to: the store after it, whether it completes with CLAMPED, and the value returned. -/
structure ParamWrite where
  params  : Params
  clamped : Bool
  stored  : List Byte
deriving DecidableEq, Repr

/-- A value brought into its range `lo` to `hi`, stored by `f` and returned as stored (R177). -/
def ranged (lo hi v : Int) (f : Nat → Params) : Option ParamWrite :=
  let n := (clamp v lo hi).toNat
  some ⟨f n, decide (v < lo) || decide (hi < v), u16 n⟩

/-- The thresholds in order (R50): LOW is raised to CRITICAL, and then RESERVE to LOW. -/
def orderThresholds (p : Params) : Params :=
  let low := max p.low p.critical
  { p with low := low, reserve := max p.reserve low }

/-- A write of a reservoir threshold (R50): CLAMPED also when the ordering altered one; all three are returned. -/
def writeThreshold (v : Int) (f : Nat → Params) : Option ParamWrite :=
  (ranged 0 1200 v f).map fun w =>
    let q := orderThresholds w.params
    ⟨q, w.clamped || decide (q ≠ w.params), u16 q.reserve ++ u16 q.low ++ u16 q.critical⟩

/-- A field of a band (R135). -/
def writeBand (p : Params) (lo hi v : Int) (i : Nat) (f : Band → Nat → Band) : Option ParamWrite :=
  if h : i < 8 then ranged lo hi v fun n => { p with bands := upd p.bands ⟨i, h⟩ fun b => f b n } else none

/-- A field of an axle. -/
def writeAxle (v : Int) (i : Nat) (f : Fin 3 → Nat → Params) : Option ParamWrite :=
  if h : i < 3 then ranged 0 1000 v (f ⟨i, h⟩) else none

/-- The write of parameter `n` at index `i` (R177, R50, R95, R119, R135); none when it is refused with BAD_FIELD. -/
def writeParam (n i : Nat) (v : Int) (p : Params) : Option ParamWrite :=
  match n, i with
  | 1, 0 => ranged 1000 4000 v fun x => { p with circ := x }
  | 2, 0 => ranged 20 200 v fun x => { p with teeth := x }
  | 3, 0 => writeThreshold v fun x => { p with reserve := x }
  | 3, 1 => writeThreshold v fun x => { p with low := x }
  | 3, 2 => writeThreshold v fun x => { p with critical := x }
  | 4, i => writeAxle v i fun a x => { p with cmin := p.cmin.set a.val x }
  | 5, i => writeAxle v i fun a x => { p with cmax := p.cmax.set a.val x }
  | 6, i => writeAxle v i fun a x => { p with lempty := p.lempty.set a.val x }
  | 7, i => writeAxle v i fun a x => { p with lfull := p.lfull.set a.val x }
  | 8, 0 => ranged 1 1000 v fun x => { p with slipIn := x }
  | 8, 1 => ranged 0 1000 v fun x => { p with slipOut := x }
  | 8, 2 => ranged 1 1000 v fun x => { p with relieve := x }
  | 8, 3 => ranged 1 1000 v fun x => { p with reapply := x }
  | 8, 4 => ranged 1 100 v fun x => { p with holds := x }
  | 9, 0 => ranged 150 350 v fun x => { p with ride := x }
  | 10, 0 => ranged 1 50 v fun x => { p with bandStat := x }
  | 10, 1 => ranged 1 50 v fun x => { p with bandMove := x }
  | 11, i =>
    if h : i < 18 then (readSource v).map fun x => ⟨{ p with sources := p.sources.set i x }, false, u16 x.code⟩ else none
  | 12, i => writeBand p 0 1024 v i fun b x => { b with gain := x }
  | 13, i => writeBand p 1 600 v i fun b x => { b with warn := x }
  | 14, i => writeBand p 1 600 v i fun b x => { b with limit := x }
  | 15, i => writeBand p 1 255 v i fun b x => { b with omega := x }
  | 16, i => writeBand p 0 7 v i fun b x => { b with damping := x }
  | _, _ => none

/-- What a write of circ or teeth does at once (R52): the distance remainder and the revolution counts become 0. The values in use
stay to the next expiry of the bucket timer (`bucketExpiry`). -/
def wheelRewritten (s : State) : State :=
  { s with mc := { s.mc with remainder := 0, revs := Vector.replicate 3 0 } }

/-- What a write of a threshold does at once (R50): when a threshold changed and the reservoir record is VALID, the comparators
are evaluated against the current value. -/
def thresholdsRewritten (old : Params) (s : State) : State :=
  let p := s.hl.params
  if p.reserve = old.reserve ∧ p.low = old.low ∧ p.critical = old.critical then s
  else if (s.sample 20).state = .valid then evalComparators (s.sample 20).value s else s

/-- What a write of a source table entry does at once (R119): the corner takes up a changed source of the present context. In a
LEVEL reset the sources stand, and the end of the reset takes them up (R122, R123). -/
def sourceRewritten (s : State) : State := if s.inReset .level then s else forAll 6 refreshSource s

/-- The consequences of a write of parameter `n`. -/
def paramWritten (n : Nat) (old : Params) (s : State) : State :=
  match n with
  | 1 | 2 => wheelRewritten s
  | 3 => thresholdsRewritten old s
  | 11 => sourceRewritten s
  | _ => s

end Sys2Proof.Machine
end

