-- ==== Sys2Proof/WellFormed.lean ====
section
/-! DEFINITION. Which commands are well formed. A host request named by its row is a frame that passed R171, so its
payload is at most 26 bytes (section 10.8, "Frames"). FRAME_CHECK_FAIL names a transaction, and one in which the host
clocks no byte is not a request (R170). Every other operand is in range by its type. -/

namespace Sys2Proof

/-- The longest payload of a frame (R171, section 10.8). -/
def maxPayload : Nat := 26

/-- A frame whose payload fits a frame. -/
def HostFrame.wf (f : HostFrame) : Bool := f.payload.length ≤ maxPayload

/-- The well-formed commands. -/
def Instr.wf : Instr → Bool
  | .place f | .query f | .find f | .list f | .amend f | .retire f | .retireForce f | .readEnvelope f | .readBrake f
  | .readCorner f | .readJoint f | .readDoor f | .readSample f | .setDoorRelease f | .doorCommand f | .setMode f
  | .heartbeat f | .ackAttention f | .setAttentionMask f | .lastStatus f | .writeParam f | .writeProfile f
  | .writeXlate f | .configDone f | .resetGroup f | .resetAll f => f.wf
  | .frameCheckFail bytes => !bytes.isEmpty
  | .powerOn | .resetInput | .heartbeatTimerExpiry | .groupResetEnd _ | .sampleWord _ _ _ | .sampleWordTimeout
  | .sampleAgeExpiry _ | .wheelPulse _ | .bucketTimerExpiry | .stationaryTimerExpiry | .phaseTransition _ _
  | .illegalEntryExpiry _ | .centreMark _ | .armTimeout _ | .releaseStep _ | .singlePeriodEnd _ | .trainPeriodEnd _
  | .dutyOpenEnd _ | .dutyPeriodEnd _ | .deadTimeEnd _ | .brakeCycle | .cornerTimerExpiry _ | .strobeTimerExpiry _
  | .waitTimerExpiry _ | .recoveryWindowExpiry _ | .haltTimerExpiry | .jsCycle | .doorWord _ _ _ _
  | .doorWordClockStop _ | .inhibitMinEnd _ | .lossTimerExpiry _ | .sendStart _ | .sendClockRelease _
  | .sendAttemptEnd _ _ | .sendTimeout _ | .translateWord | .prefixTimerExpiry _ | .doorStartBit _ => true

end Sys2Proof
end

