-- ==== Sys2Proof/Machine/HostLink.lean ====
section
/-! DEFINITION. Chapter 10, the Host Link: a transaction and its response (R170, R173), the checks every request passes (R171,
R172), the configuration and the device mode (R176 to R178), heartbeat supervision (R179) and the resets (R180, R181). -/

namespace Sys2Proof.Machine

/-! ### Transactions (R170, R173) -/

/-- What the part shifts out while the host clocks `n` bytes: the pending response, and then 0x00 (R170). -/
def shiftedOut (response : List Byte) (n : Nat) : List Byte := response.take n ++ List.replicate (n - response.length) 0

/-- A transaction of `n` bytes: the pending response is shifted out. -/
def transact (n : Nat) (s : State) : State := { s with hl := { s.hl with shifted := shiftedOut s.hl.response n } }

/-- A request is taken (R173): the code and status of the request before it become the last status. -/
def takeRequest (n : Nat) (s : State) : State := let s := transact n s; { s with hl := { s.hl with last := s.hl.current } }

/-- A response frame: the echoed code, the status, the payload behind its length, and the CRC. -/
def frameOf (code : Byte) (st : Status) (payload : List Byte) : List Byte :=
  let bytes := [code, b1 st.code, b1 payload.length] ++ payload
  bytes ++ [crc8 bytes]

/-- The request is answered: its response becomes the pending response (R170, R172). -/
def answer (code : Byte) (st : Status) (payload : List Byte) (s : State) : State :=
  { s with hl := { s.hl with response := frameOf code st payload, current := (code, st) } }

/-- The request is refused: nothing else changes. -/
def refuse (code : Byte) (st : Status) (s : State) : State := answer code st [] s

/-- A frame that fails R171 is not carried out: CHECK, and LINK is set. -/
def failCheck (code : Byte) (s : State) : State := setFlag .link (refuse code .check s)

/-! ### Owners (R172) -/

/-- The owner byte of a frame. -/
inductive HostOwner where
  | none | driver | depot
deriving DecidableEq, Repr

/-- The owner of a byte (check 2 of R172). -/
def readHostOwner (a : Byte) : Option HostOwner :=
  match a.toNat with
  | 0 => some HostOwner.none | 1 => some .driver | 2 => some .depot
  | _ => Option.none

/-- The record owner of a host owner. -/
def HostOwner.record : HostOwner → Option Owner
  | .none => Option.none
  | .driver => some .driver
  | .depot => some .depot

/-- Which owners a request accepts (check 3 of R172). -/
inductive Accepts where
  | any | hosts | depot
deriving DecidableEq, Repr

/-- Is the owner accepted? -/
def Accepts.takes : Accepts → HostOwner → Bool
  | .any, _ => true
  | .hosts, o => o != .none
  | .depot, o => o == .depot

/-- A request of a code and owners accepted, whose work is `body` (R170 to R173): the response in hand is shifted out, the last
status moves, and checks 2 and 3 of R172 are made. A payload above 26 bytes fails R171. `body` makes the checks from 4 on and
answers. -/
def serve (code : Byte) (accepts : Accepts) (body : HostOwner → List Byte → State → State) (f : HostFrame) (s : State) : State :=
  let s := takeRequest (f.payload.length + 4 + f.extra) s
  if maxPayload < f.payload.length then failCheck code s
  else match readHostOwner f.owner with
    | none => refuse code .badField s
    | some o => if accepts.takes o then body o f.payload s else refuse code .notOwner s

/-! ### Reading (R182) -/

/-- A page of an image is the answer, with status OK; a page there is not is refused with BAD_FIELD. -/
def answerPage (code : Byte) (image : List Byte) (page : Byte) (s : State) : State :=
  match pageOf image page.toNat with
  | some bytes => answer code .ok bytes s
  | none => refuse code .badField s

/-- A READ request that names no field but a page. -/
def readWhole (code : Byte) (image : State → List Byte) (payload : List Byte) (s : State) : State :=
  match payload with
  | [p] => answerPage code (image s) p s
  | _ => refuse code .badField s

/-- A READ request that names an index and a page. -/
def readIndexed {α : Type} (code : Byte) (index : Byte → Option α) (image : State → α → List Byte) (payload : List Byte)
    (s : State) : State :=
  match payload with
  | [i, p] => match index i with
    | some x => answerPage code (image s x) p s
    | none => refuse code .badField s
  | _ => refuse code .badField s

/-! ### Configuration and supervision (R176 to R179) -/

/-- Are the configuration writes taken (R177)? -/
def State.configurable (s : State) : Bool := !s.hl.configured || s.hl.service

/-- The change to CONFIGURED (R176): the records that list CONFIG_DONE are evaluated, PLAUS begins to watch, and heartbeat
supervision begins, in that order. R176 and R62 give none, and the envelopes between, with the sequence number they leave, depend on it
(DESIGN CHOICE, notes/assumptions/43.md). -/
def configure (s : State) : State :=
  let s := { s with hl := { s.hl with configured := true } }
  let s := startWatching (evalListing (· == .configDone) s)
  { s with hl := { s.hl with supervised := true, runCount := 0, heartAt := some (s.now + heartPeriod) } }

/-- Does an ACTIVE record of the kind live? -/
def State.anyActive (s : State) (k : Kind) : Bool :=
  (liveRecords s.rt.slots).any fun r => r.kind == k && r.state == .active

/-- SUPERVISION_LOST is withdrawn and the supervision state is OK (R179). -/
def regainSupervision (s : State) : State :=
  withdraw .supervisionLost .plaus { s with hl := { s.hl with supervised := true, runCount := 0 } }

/-- A HEARTBEAT in CONFIGURED (R179): it acts by the supervision state and the timer, which starts again. -/
def beat (s : State) : State :=
  let s :=
    if s.hl.supervised then s
    else if s.hl.heartAt.isSome then
      (if 10 ≤ s.hl.runCount + 1 then regainSupervision s
       else { s with hl := { s.hl with runCount := s.hl.runCount + 1 } })
    else { s with hl := { s.hl with runCount := 0 } }
  { s with hl := { s.hl with heartAt := some (s.now + heartPeriod) } }

/-- The heartbeat timer expires (R179). -/
def heartExpiry (s : State) : State :=
  match s.hl.heartAt with
  | none => s
  | some t =>
    let s := atLeast t s
    let was := s.hl.supervised
    let s := { s with hl := { s.hl with heartAt := none, supervised := false, runCount := 0 } }
    if was then placeInternal .supervisionLost .plaus none s else s

/-! ### Resets (R180, R181) -/

/-- Each block of a group sets its state at the start of the group's reset (R180), its generators first (R75). -/
def startReset (g : Group) (s : State) : State :=
  let s := quietGroup g s
  match g with
  | .brake => startBrakeReset s
  | .level => startLevelReset s
  | .joint => startJointReset s
  | .doors => startDoorsReset s
  | .sense => startSenseReset s

/-- Each block of a group takes up its work at the end of the group's reset. -/
def endReset (g : Group) (s : State) : State :=
  match g with
  | .level => endLevelReset s
  | .doors => endDoorsReset s
  | .brake | .joint | .sense => s

/-- The end of a group's reset is set, or none. -/
def setReset (g : Group) (t : Option Nat) (s : State) : State :=
  { s with hl := { s.hl with resets := upd s.hl.resets (Group.index g) fun _ => t } }

/-- A RESET_GROUP that is taken (R180): a group already in reset has its count set anew and nothing else. -/
def resetGroup (g : Group) (time : Nat) (s : State) : State :=
  let was := s.inReset g
  let s := setReset g (some (s.now + time * ms)) s
  if was then s else startReset g s

/-- A group's count reaches 0 (R180). -/
def groupEnd (g : Group) (s : State) : State :=
  match s.hl.resets[(Group.index g).val] with
  | none => s
  | some t => endReset g (setReset g none (atLeast t s))

end Sys2Proof.Machine
end

