-- ==== Sys2Proof/Machine/Requests.lean ====
section
/-! DEFINITION. The twenty-six requests of the host, FRAME_CHECK_FAIL, and the commands of the Host Link's own timers. Each request
is a body run by `serve`, which makes checks 1 to 3 of R172; a body checks the payload's length first (check 4). -/

namespace Sys2Proof.Machine

/-! ### The Restraint Table's requests (R5 to R8, R21 to R26) -/

/-- Does a placement's status carry a handle (R6, R7)? -/
def Status.placed : Status → Bool
  | .ok | .clamped | .already | .revived => true
  | .full | .stale | .notOwner | .depth | .badField | .badState | .check | .unknown => false

/-- Checks 1 to 3 of R5 on the raw fields of PLACE, and the placement. A variant byte is read for KNEEL alone (R3). -/
def placeChecked (o : Owner) (kind variant : Byte) (v : Supplied) (parent : Option (Option Handle)) (s : State) : Placed :=
  match readKind kind with
  | none => ⟨.badField, none, s⟩
  | some k =>
    if !k.permits o then ⟨.notOwner, none, s⟩
    else match k, readVariant variant with
      | .kneel, none => ⟨.badField, none, s⟩
      | _, x => placeRecord { kind := k, owner := o, variant := x.getD none, supplied := v, parent := parent } s

/-- The body of PLACE. -/
def bodyPlace (o : HostOwner) (payload : List Byte) (s : State) : State :=
  match o.record, payload with
  | some w, k :: v :: a :: b :: rest =>
    match readPlaceFields (readU16 a b) rest with
    | some (x, parent) =>
      let p := placeChecked w k v x parent s
      answer 0x01 p.status (if p.status.placed then handleBytes p.handle else []) p.state
    | none => refuse 0x01 .badField s
  | _, _ => refuse 0x01 .badField s

/-- The record a handle's bytes name, with its slot; none when they name none (R2). -/
def named (s : State) (a b : Byte) : Option (Slot × Record) :=
  match readHandle a b with
  | none => none
  | some h => if s.names h then (s.recordAt h.slot).map fun r => (h.slot, r) else none

/-- The body of QUERY. -/
def bodyQuery (_ : HostOwner) (payload : List Byte) (s : State) : State :=
  match payload with
  | [a, b, p] =>
    match named s a b with
    | some (i, r) => answerPage 0x02 (recordImage s.now (s.handleAt i) r) p s
    | none => refuse 0x02 .stale s
  | _ => refuse 0x02 .badField s

/-- What FIND returns: the handle of the live record of a pair (R26). Bytes that name no kind or no owner name no pair. -/
def findHandle (s : State) (k o : Byte) : Option Handle :=
  match readKind k, readOwner o with
  | some k, some o => (s.find k o).map s.handleAt
  | _, _ => none

/-- The body of FIND. -/
def bodyFind (_ : HostOwner) (payload : List Byte) (s : State) : State :=
  match payload with
  | [k, o] => answer 0x03 .ok (handleBytes (findHandle s k o)) s
  | _ => refuse 0x03 .badField s

/-- The body of LIST. -/
def bodyList (_ : HostOwner) (payload : List Byte) (s : State) : State :=
  match payload with
  | [] => answer 0x04 .ok (listResponse s) s
  | _ => refuse 0x04 .badField s

/-- The outcome of a batch (R25): how many entries were applied, the refused entry's index with its status, whether an entry was
clamped, and the state. -/
structure Batch where
  applied : Nat
  refused : Option (Nat × Status)
  clamped : Bool
  state   : State

/-- A batch is applied entry by entry, and stops at the first one refused (R25). -/
def applyBatch (o : Owner) : List AmendEntry → Nat → Bool → State → Batch
  | [], n, clamped, s => ⟨n, none, clamped, s⟩
  | e :: es, n, clamped, s =>
    match amendOne o e.handle e.change s with
    | (.ok, t) => applyBatch o es (n + 1) clamped t
    | (.clamped, t) => applyBatch o es (n + 1) true t
    | (st, _) => ⟨n, some (n, st), clamped, s⟩

/-- The status of a batch (R25). -/
def Batch.status (b : Batch) : Status :=
  match b.refused with
  | some (_, st) => st
  | none => if b.clamped then .clamped else .ok

/-- The body of AMEND. -/
def bodyAmend (o : HostOwner) (payload : List Byte) (s : State) : State :=
  match o.record, payload with
  | some w, n :: rest =>
    match readEntries n.toNat rest with
    | none => refuse 0x05 .badField s
    | some es =>
      if n.toNat = 0 ∨ 4 < n.toNat then answer 0x05 .badField (u8 0 ++ u8 0xFF) s
      else
        let b := applyBatch w es 0 false s
        answer 0x05 b.status (u8 b.applied ++ u8Opt (b.refused.map (·.1))) b.state
  | _, _ => refuse 0x05 .badField s

/-- The body of RETIRE (R21). -/
def bodyRetire (o : HostOwner) (payload : List Byte) (s : State) : State :=
  match payload with
  | [a, b] =>
    match named s a b with
    | none => refuse 0x06 .stale s
    | some (i, r) =>
      if some r.owner ≠ o.record then refuse 0x06 .notOwner s
      else let x := ownerRetire i s; answer 0x06 x.1 [] x.2
  | _ => refuse 0x06 .badField s

/-- The body of RETIRE_FORCE (R22). R2 has a handle checked before anything else, and R22 names the owner and the mode before it; the
model refuses by the owner, then the mode, then the handle (DESIGN CHOICE, notes/assumptions/35.md). -/
def bodyRetireForce (o : HostOwner) (payload : List Byte) (s : State) : State :=
  match payload with
  | [a, b] =>
    if o ≠ .depot then refuse 0x07 .notOwner s
    else if !s.hl.service then refuse 0x07 .badState s
    else match named s a b with
      | none => refuse 0x07 .stale s
      | some (i, r) => match r.owner with
        | .joint | .plaus => refuse 0x07 .notOwner s
        | .driver | .depot | .door _ => answer 0x07 .ok [] (forceRetire i s)
  | _ => refuse 0x07 .badField s

/-! ### Doors (R151, R163) -/

/-- Would the set add a door to the release set? -/
def addsDoor (s : State) (x : BitVec 4) : Bool := (x &&& ~~~ s.dt.releaseSet) != 0

/-- The body of SET_DOOR_RELEASE (R163), which gives no order among its refusals: the model refuses with NOT_OWNER first, then with
BAD_FIELD, then with BAD_STATE (DESIGN CHOICE, notes/assumptions/35.md). -/
def bodySetDoorRelease (o : HostOwner) (payload : List Byte) (s : State) : State :=
  match payload with
  | [x] =>
    if o = .none then refuse 0x20 .notOwner s
    else if 16 ≤ x.toNat then refuse 0x20 .badField s
    else if addsDoor s (x.setWidth 4) && (s.mc.moving || s.anyActive .supervisionLost) then refuse 0x20 .badState s
    else let s := setReleaseSet (x.setWidth 4) s; answer 0x20 .ok (u8 s.dt.releaseSet.toNat) s
  | _ => refuse 0x20 .badField s

/-- The body of DOOR_COMMAND (R151), which gives no order among its refusals: the model refuses with NOT_OWNER first, then with BAD_FIELD,
then with BAD_STATE (DESIGN CHOICE, notes/assumptions/35.md). -/
def bodyDoorCommand (o : HostOwner) (payload : List Byte) (s : State) : State :=
  match payload with
  | [d, c] =>
    if o = .none then refuse 0x21 .notOwner s
    else match readDoor d, readCommand c with
      | some d, some c =>
        if s.inReset .doors || (c == .permit && s.mc.moving) then refuse 0x21 .badState s
        else answer 0x21 .ok [] (queueCommand d c s)
      | _, _ => refuse 0x21 .badField s
  | _ => refuse 0x21 .badField s

/-! ### The Host Link's own requests (R173 to R181) -/

/-- The device mode is set. -/
def setService (b : Bool) (s : State) : State := { s with hl := { s.hl with service := b } }

/-- The body of SET_MODE (R178): RUN is 0 and SERVICE is 1. -/
def bodySetMode (_ : HostOwner) (payload : List Byte) (s : State) : State :=
  match payload with
  | [m] =>
    if 1 < m.toNat then refuse 0x22 .badField s
    else if decide (m = 1) = s.hl.service then answer 0x22 .already [] s
    else if m = 0 then answer 0x22 .ok [] (setService false s)
    else if s.anyActive .serviceLock && s.mc.stationary then answer 0x22 .ok [] (setService true s)
    else refuse 0x22 .badState s
  | _ => refuse 0x22 .badField s

/-- A flag set in two bytes. -/
def flagBytes (x : BitVec 11) : List Byte := u16 x.toNat

/-- What HEARTBEAT returns (R179): flags, mask, supervision state (OK 0, LOST 1), configuration state (CONFIG 0, CONFIGURED 1)
and device mode (RUN 0, SERVICE 1). -/
def heartbeatBytes (s : State) : List Byte :=
  flagBytes s.hl.flags ++ flagBytes s.hl.mask ++ yes (!s.hl.supervised) ++ yes s.hl.configured ++ yes s.hl.service

/-- The body of HEARTBEAT (R179). -/
def bodyHeartbeat (_ : HostOwner) (payload : List Byte) (s : State) : State :=
  match payload with
  | [] => answer 0x23 .ok (heartbeatBytes s) (if s.hl.configured then beat s else s)
  | _ => refuse 0x23 .badField s

/-- The flag set of two bytes. -/
def readFlags (a b : Byte) : BitVec 11 := BitVec.ofNat 11 (readU16 a b)

/-- The body of ACK_ATTENTION (R175): it answers with the flags as they stood, and clears the named ones. -/
def bodyAckAttention (_ : HostOwner) (payload : List Byte) (s : State) : State :=
  match payload with
  | [a, b] =>
    answer 0x24 .ok (flagBytes s.hl.flags ++ flagBytes s.hl.mask ++ u8 s.hl.cause.code)
      { s with hl := { s.hl with flags := s.hl.flags &&& ~~~ readFlags a b } }
  | _ => refuse 0x24 .badField s

/-- The body of SET_ATTENTION_MASK (R175). -/
def bodySetAttentionMask (_ : HostOwner) (payload : List Byte) (s : State) : State :=
  match payload with
  | [a, b] => answer 0x25 .ok (flagBytes (readFlags a b)) { s with hl := { s.hl with mask := readFlags a b } }
  | _ => refuse 0x25 .badField s

/-- The body of LAST_STATUS (R173). -/
def bodyLastStatus (_ : HostOwner) (payload : List Byte) (s : State) : State :=
  match payload with
  | [] => answer 0x26 .ok [s.hl.last.1, b1 s.hl.last.2.code] s
  | _ => refuse 0x26 .badField s

/-- The body of WRITE_PARAM (R177). -/
def bodyWriteParam (_ : HostOwner) (payload : List Byte) (s : State) : State :=
  match payload with
  | [n, i, a, b] =>
    if !s.configurable then refuse 0x30 .badState s
    else match writeParam n.toNat i.toNat (readS16 a b) s.hl.params with
      | none => refuse 0x30 .badField s
      | some w =>
        answer 0x30 (if w.clamped then .clamped else .ok) w.stored
          (paramWritten n.toNat s.hl.params { s with hl := { s.hl with params := w.params } })
  | _ => refuse 0x30 .badField s

/-- A profile row with the values of a WRITE_PROFILE (R4); the scope goes to the variant named, FRONT by default. -/
def Profile.written (row : Profile) (k : Kind) (variant : Option Variant) (v : Supplied) : Profile :=
  let side := decide (k = .kneel) && variant == some .side
  { row with
    floor := takeNat floorTop v.floor row.floor
    ceiling := takeNat ceilingTop v.ceiling row.ceiling
    steer := takeNat steerTop v.steer row.steer
    offset := takeOffset v.offset row.offset
    delay := (takeNat delayTop v.delay (some row.delay)).getD 0
    swing := takeNat swingTop v.swing row.swing
    armTimeout := (takeNat armTop v.armTimeout (some row.armTimeout)).getD 0
    conds := match v.conds with | some xs => ((mergeConds xs).getD []).map .fixed | none => row.conds
    scope := if side then row.scope else v.scope.getD row.scope
    scopeSide := if side then v.scope.getD row.scopeSide else row.scopeSide }

/-- A profile row is written. -/
def setProfile (k : Kind) (row : Profile) (s : State) : State :=
  { s with rt := { s.rt with profiles := upd s.rt.profiles k.index fun _ => row } }

/-- The checks of R4 and the write they allow: the status and the state. A kind code that is none of the twelve is BAD_FIELD, and a
variant byte is read for KNEEL alone and disregarded for every other kind (DESIGN CHOICE, notes/assumptions/23.md). -/
def writeProfile (kind variant : Byte) (v : Supplied) (s : State) : Status × State :=
  match readKind kind with
  | none => (.badField, s)
  | some k =>
    let x := readVariant variant
    if k = .startHold ∨ (k = .kneel ∧ x = none) then (.badField, s)
    else if !suppliedOk (s.profile k) v then (.badField, s)
    else (if anyClamped v then .clamped else .ok, setProfile k ((s.profile k).written k (x.getD none) v) s)

/-- The body of WRITE_PROFILE (R4, R177). -/
def bodyWriteProfile (_ : HostOwner) (payload : List Byte) (s : State) : State :=
  match payload with
  | k :: x :: a :: b :: rest =>
    match readProfileFields (readU16 a b) rest with
    | none => refuse 0x31 .badField s
    | some v =>
      if !s.configurable then refuse 0x31 .badState s
      else let w := writeProfile k x v s; answer 0x31 w.1 [] w.2
  | _ => refuse 0x31 .badField s

/-- A translation cell is loaded (R168). -/
def setCell (row : Fin 256) (x : Context) (actions : List Action) (s : State) : State :=
  let i : Fin 1024 := ⟨row.val * 4 + x.index.val, by have := row.isLt; have := x.index.isLt; omega⟩
  { s with dt := { s.dt with cells := upd s.dt.cells i fun _ => actions } }

/-- The body of WRITE_XLATE (R168, R177). -/
def bodyWriteXlate (_ : HostOwner) (payload : List Byte) (s : State) : State :=
  match payload with
  | row :: x :: n :: rest =>
    if rest.length ≠ 3 * n.toNat then refuse 0x32 .badField s
    else if !s.configurable then refuse 0x32 .badState s
    else match readContext x, readActions rest with
      | some c, some actions =>
        if row = 127 ∨ 2 < n.toNat then refuse 0x32 .badField s
        else answer 0x32 .ok [] (setCell row.toFin c actions s)
      | _, _ => refuse 0x32 .badField s
  | _ => refuse 0x32 .badField s

/-- The body of CONFIG_DONE (R176). -/
def bodyConfigDone (_ : HostOwner) (payload : List Byte) (s : State) : State :=
  match payload with
  | [] => if s.hl.configured then answer 0x33 .already [] s else answer 0x33 .ok [] (configure s)
  | _ => refuse 0x33 .badField s

/-- The body of RESET_GROUP (R180, R98). R180 names the time as 1 to 255 ms and refuses 0; the time takes two bytes, and one above 255 is
refused with BAD_FIELD too (DESIGN CHOICE, notes/assumptions/25.md). A BRAKE request with such a time at a speed of 10 or more is refused
with BAD_FIELD, before R98's BAD_STATE (DESIGN CHOICE, notes/assumptions/35.md). -/
def bodyResetGroup (_ : HostOwner) (payload : List Byte) (s : State) : State :=
  match payload with
  | [g, a, b] =>
    match readGroup g with
    | none => refuse 0x40 .badField s
    | some g =>
      if readU16 a b = 0 ∨ 255 < readU16 a b then refuse 0x40 .badField s
      else if g = .brake ∧ 10 ≤ s.mc.speed then refuse 0x40 .badState s
      else answer 0x40 .ok [] (resetGroup g (readU16 a b) s)
  | _ => refuse 0x40 .badField s

/-- The body of RESET_ALL (R181): the response is the reset response. -/
def bodyResetAll (_ : HostOwner) (payload : List Byte) (s : State) : State :=
  match payload with
  | [] => if 10 ≤ s.mc.speed then refuse 0x41 .badState s else s.allReset
  | _ => refuse 0x41 .badField s

/-! ### The requests -/

def requestPlace : HostFrame → State → State := serve 0x01 .hosts bodyPlace
def requestQuery : HostFrame → State → State := serve 0x02 .any bodyQuery
def requestFind : HostFrame → State → State := serve 0x03 .any bodyFind
def requestList : HostFrame → State → State := serve 0x04 .any bodyList
def requestAmend : HostFrame → State → State := serve 0x05 .hosts bodyAmend
def requestRetire : HostFrame → State → State := serve 0x06 .hosts bodyRetire
def requestRetireForce : HostFrame → State → State := serve 0x07 .any bodyRetireForce
def requestReadEnvelope : HostFrame → State → State := serve 0x10 .any fun _ => readWhole 0x10 envelopeImage
def requestReadBrake : HostFrame → State → State := serve 0x11 .any fun _ => readIndexed 0x11 readCorner brakeImage
def requestReadCorner : HostFrame → State → State := serve 0x12 .any fun _ => readIndexed 0x12 readCorner cornerImage
def requestReadJoint : HostFrame → State → State := serve 0x13 .any fun _ => readWhole 0x13 jointImage
def requestReadDoor : HostFrame → State → State := serve 0x14 .any fun _ => readIndexed 0x14 readDoor doorImage
def requestReadSample : HostFrame → State → State := serve 0x15 .any fun _ => readIndexed 0x15 readChannel sampleImage
def requestSetDoorRelease : HostFrame → State → State := serve 0x20 .any bodySetDoorRelease
def requestDoorCommand : HostFrame → State → State := serve 0x21 .any bodyDoorCommand
def requestSetMode : HostFrame → State → State := serve 0x22 .depot bodySetMode
def requestHeartbeat : HostFrame → State → State := serve 0x23 .any bodyHeartbeat
def requestAckAttention : HostFrame → State → State := serve 0x24 .any bodyAckAttention
def requestSetAttentionMask : HostFrame → State → State := serve 0x25 .any bodySetAttentionMask
def requestLastStatus : HostFrame → State → State := serve 0x26 .any bodyLastStatus
def requestWriteParam : HostFrame → State → State := serve 0x30 .any bodyWriteParam
def requestWriteProfile : HostFrame → State → State := serve 0x31 .any bodyWriteProfile
def requestWriteXlate : HostFrame → State → State := serve 0x32 .any bodyWriteXlate
def requestConfigDone : HostFrame → State → State := serve 0x33 .any bodyConfigDone
def requestResetGroup : HostFrame → State → State := serve 0x40 .hosts bodyResetGroup
def requestResetAll : HostFrame → State → State := serve 0x41 .hosts bodyResetAll

/-- The request of a code (check 1 of R172); none where the code is not in the table. -/
def requestOf (code : Nat) : Option (HostFrame → State → State) :=
  match code with
  | 0x01 => some requestPlace | 0x02 => some requestQuery | 0x03 => some requestFind | 0x04 => some requestList
  | 0x05 => some requestAmend | 0x06 => some requestRetire | 0x07 => some requestRetireForce
  | 0x10 => some requestReadEnvelope | 0x11 => some requestReadBrake | 0x12 => some requestReadCorner
  | 0x13 => some requestReadJoint | 0x14 => some requestReadDoor | 0x15 => some requestReadSample
  | 0x20 => some requestSetDoorRelease | 0x21 => some requestDoorCommand | 0x22 => some requestSetMode
  | 0x23 => some requestHeartbeat | 0x24 => some requestAckAttention | 0x25 => some requestSetAttentionMask
  | 0x26 => some requestLastStatus
  | 0x30 => some requestWriteParam | 0x31 => some requestWriteProfile | 0x32 => some requestWriteXlate
  | 0x33 => some requestConfigDone | 0x40 => some requestResetGroup | 0x41 => some requestResetAll
  | _ => none

/-- R171: the frame of a transaction's bytes, when it passes the check. -/
def readFrame (bytes : List Byte) : Option HostFrame :=
  match bytes with
  | _ :: o :: n :: rest =>
    if maxPayload < n.toNat || rest.length < n.toNat + 1 then none
    else if rest[n.toNat]? = some (crc8 (bytes.take (n.toNat + 3))) then
      some ⟨o, rest.take n.toNat, rest.length - n.toNat - 1⟩
    else none
  | _ => none

/-- A transaction given by its bytes (R170 to R172): a frame that fails R171, as the row's name says; one whose code names no
request; or, should the bytes be a sound request after all, that request. Without a byte there is no request. -/
def takeBytes (bytes : List Byte) (s : State) : State :=
  match bytes with
  | [] => transact 0 s
  | code :: _ =>
    match readFrame bytes with
    | none => failCheck code (takeRequest bytes.length s)
    | some f => match requestOf code.toNat with
      | some r => r f s
      | none => refuse code .unknown (takeRequest bytes.length s)

/-! ### The commands -/

/-- PLACE (R5 to R8). -/
def execPlace (f : HostFrame) (s : State) : Host.Outcome State Fault Refusal := running (requestPlace f) s
/-- QUERY (R26, R182). -/
def execQuery (f : HostFrame) (s : State) : Host.Outcome State Fault Refusal := running (requestQuery f) s
/-- FIND (R26). -/
def execFind (f : HostFrame) (s : State) : Host.Outcome State Fault Refusal := running (requestFind f) s
/-- LIST (R26). -/
def execList (f : HostFrame) (s : State) : Host.Outcome State Fault Refusal := running (requestList f) s
/-- AMEND (R23 to R25). -/
def execAmend (f : HostFrame) (s : State) : Host.Outcome State Fault Refusal := running (requestAmend f) s
/-- RETIRE (R21). -/
def execRetire (f : HostFrame) (s : State) : Host.Outcome State Fault Refusal := running (requestRetire f) s
/-- RETIRE_FORCE (R22). -/
def execRetireForce (f : HostFrame) (s : State) : Host.Outcome State Fault Refusal := running (requestRetireForce f) s
/-- READ_ENVELOPE (R43, R182). -/
def execReadEnvelope (f : HostFrame) (s : State) : Host.Outcome State Fault Refusal := running (requestReadEnvelope f) s
/-- READ_BRAKE (R96, R182). -/
def execReadBrake (f : HostFrame) (s : State) : Host.Outcome State Fault Refusal := running (requestReadBrake f) s
/-- READ_CORNER (R120, R182). -/
def execReadCorner (f : HostFrame) (s : State) : Host.Outcome State Fault Refusal := running (requestReadCorner f) s
/-- READ_JOINT (R136, R182). -/
def execReadJoint (f : HostFrame) (s : State) : Host.Outcome State Fault Refusal := running (requestReadJoint f) s
/-- READ_DOOR (R152, R182). -/
def execReadDoor (f : HostFrame) (s : State) : Host.Outcome State Fault Refusal := running (requestReadDoor f) s
/-- READ_SAMPLE (R63, R182). -/
def execReadSample (f : HostFrame) (s : State) : Host.Outcome State Fault Refusal := running (requestReadSample f) s
/-- SET_DOOR_RELEASE (R163). -/
def execSetDoorRelease (f : HostFrame) (s : State) : Host.Outcome State Fault Refusal := running (requestSetDoorRelease f) s
/-- DOOR_COMMAND (R151). -/
def execDoorCommand (f : HostFrame) (s : State) : Host.Outcome State Fault Refusal := running (requestDoorCommand f) s
/-- SET_MODE (R178). -/
def execSetMode (f : HostFrame) (s : State) : Host.Outcome State Fault Refusal := running (requestSetMode f) s
/-- HEARTBEAT (R179). -/
def execHeartbeat (f : HostFrame) (s : State) : Host.Outcome State Fault Refusal := running (requestHeartbeat f) s
/-- ACK_ATTENTION (R175). -/
def execAckAttention (f : HostFrame) (s : State) : Host.Outcome State Fault Refusal := running (requestAckAttention f) s
/-- SET_ATTENTION_MASK (R175). -/
def execSetAttentionMask (f : HostFrame) (s : State) : Host.Outcome State Fault Refusal :=
  running (requestSetAttentionMask f) s
/-- LAST_STATUS (R173). -/
def execLastStatus (f : HostFrame) (s : State) : Host.Outcome State Fault Refusal := running (requestLastStatus f) s
/-- WRITE_PARAM (R177). -/
def execWriteParam (f : HostFrame) (s : State) : Host.Outcome State Fault Refusal := running (requestWriteParam f) s
/-- WRITE_PROFILE (R4, R177). -/
def execWriteProfile (f : HostFrame) (s : State) : Host.Outcome State Fault Refusal := running (requestWriteProfile f) s
/-- WRITE_XLATE (R168, R177). -/
def execWriteXlate (f : HostFrame) (s : State) : Host.Outcome State Fault Refusal := running (requestWriteXlate f) s
/-- CONFIG_DONE (R176). -/
def execConfigDone (f : HostFrame) (s : State) : Host.Outcome State Fault Refusal := running (requestConfigDone f) s
/-- RESET_GROUP (R180). -/
def execResetGroup (f : HostFrame) (s : State) : Host.Outcome State Fault Refusal := running (requestResetGroup f) s
/-- RESET_ALL (R181). -/
def execResetAll (f : HostFrame) (s : State) : Host.Outcome State Fault Refusal := running (requestResetAll f) s

/-- FRAME_CHECK_FAIL (R170 to R172). -/
def execFrameCheckFail (bytes : List Byte) (s : State) : Host.Outcome State Fault Refusal := running (takeBytes bytes) s

/-- HEARTBEAT_TIMER_EXPIRY (R179). -/
def execHeartbeatTimerExpiry (s : State) : Host.Outcome State Fault Refusal := running heartExpiry s

/-- GROUP_RESET_END (R180). -/
def execGroupResetEnd (g : Group) (s : State) : Host.Outcome State Fault Refusal := running (groupEnd g) s

end Sys2Proof.Machine
end

