-- ==== Sys2Proof/Machine/Resets.lean ====
section
/-! DEFINITION. Power-on and the reset input (R29, R42, R64, R76, R97, R121, R134, R137, R153, R169, R181). -/

namespace Sys2Proof.Machine

/-- A line while the reset input is held: its clock low and its data wire free (R153). -/
def Line.heldInReset (now : Nat) (l : Line) : Line := { (l.takeLow now) with dataLow := false }

/-- The reset input is taken active: every valve closes (R76), the drive-inhibit line is asserted (R42), the door clocks are held
low (R153), and the centring solenoid is de-energized (R134). -/
def holdReset (s : State) : State :=
  { s with
    resetHeld := true
    valves := s.valves.quiet s.now
    eu := { s.eu with inhibit := true }
    dl := { s.dl with lines := mapAll s.dl.lines fun _ l => l.heldInReset s.now }
    js := { s.js with engaged := true } }

/-- POWER_ON: the power-on reset ends, and every block takes its power-on value. The model's clock, the commands that wait and the
levels of the phase inputs are not the part's to reset, and a door clock that the reset input took low less than 100 µs ago stays low
to the end of them (R142). -/
def execPowerOn (s : State) : Host.Outcome State Fault Refusal :=
  .next { State.powered s.now s.pending s.mc.joint.phases s.mc.actuator.phases with dl := resetLines s.now s.dl.lines }

/-- RESET_INPUT: the reset input is held from here to POWER_ON. -/
def execResetInput (s : State) : Host.Outcome State Fault Refusal := .next (holdReset s)

end Sys2Proof.Machine
end

