-- ==== Sys2Proof/Machine/Dispatch.lean ====
section
/-! DEFINITION. Which meaning each command has: one arm per constructor of `Instr`, one direct call each. -/

namespace Sys2Proof.Machine

def exec (i : Instr) (s : State) : Host.Outcome State Fault Refusal :=
  match i with
  | .powerOn => Sys2Proof.Machine.execPowerOn s
  | .resetInput => Sys2Proof.Machine.execResetInput s
  | .place f => Sys2Proof.Machine.execPlace f s
  | .query f => Sys2Proof.Machine.execQuery f s
  | .find f => Sys2Proof.Machine.execFind f s
  | .list f => Sys2Proof.Machine.execList f s
  | .amend f => Sys2Proof.Machine.execAmend f s
  | .retire f => Sys2Proof.Machine.execRetire f s
  | .retireForce f => Sys2Proof.Machine.execRetireForce f s
  | .readEnvelope f => Sys2Proof.Machine.execReadEnvelope f s
  | .readBrake f => Sys2Proof.Machine.execReadBrake f s
  | .readCorner f => Sys2Proof.Machine.execReadCorner f s
  | .readJoint f => Sys2Proof.Machine.execReadJoint f s
  | .readDoor f => Sys2Proof.Machine.execReadDoor f s
  | .readSample f => Sys2Proof.Machine.execReadSample f s
  | .setDoorRelease f => Sys2Proof.Machine.execSetDoorRelease f s
  | .doorCommand f => Sys2Proof.Machine.execDoorCommand f s
  | .setMode f => Sys2Proof.Machine.execSetMode f s
  | .heartbeat f => Sys2Proof.Machine.execHeartbeat f s
  | .ackAttention f => Sys2Proof.Machine.execAckAttention f s
  | .setAttentionMask f => Sys2Proof.Machine.execSetAttentionMask f s
  | .lastStatus f => Sys2Proof.Machine.execLastStatus f s
  | .writeParam f => Sys2Proof.Machine.execWriteParam f s
  | .writeProfile f => Sys2Proof.Machine.execWriteProfile f s
  | .writeXlate f => Sys2Proof.Machine.execWriteXlate f s
  | .configDone f => Sys2Proof.Machine.execConfigDone f s
  | .resetGroup f => Sys2Proof.Machine.execResetGroup f s
  | .resetAll f => Sys2Proof.Machine.execResetAll f s
  | .frameCheckFail bytes => Sys2Proof.Machine.execFrameCheckFail bytes s
  | .heartbeatTimerExpiry => Sys2Proof.Machine.execHeartbeatTimerExpiry s
  | .groupResetEnd g => Sys2Proof.Machine.execGroupResetEnd g s
  | .sampleWord channel fault value => Sys2Proof.Machine.execSampleWord channel fault value s
  | .sampleWordTimeout => Sys2Proof.Machine.execSampleWordTimeout s
  | .sampleAgeExpiry ch => Sys2Proof.Machine.execSampleAgeExpiry ch s
  | .wheelPulse w => Sys2Proof.Machine.execWheelPulse w s
  | .bucketTimerExpiry => Sys2Proof.Machine.execBucketTimerExpiry s
  | .stationaryTimerExpiry => Sys2Proof.Machine.execStationaryTimerExpiry s
  | .phaseTransition a p => Sys2Proof.Machine.execPhaseTransition a p s
  | .illegalEntryExpiry a => Sys2Proof.Machine.execIllegalEntryExpiry a s
  | .centreMark a => Sys2Proof.Machine.execCentreMark a s
  | .armTimeout n => Sys2Proof.Machine.execArmTimeout n s
  | .releaseStep n => Sys2Proof.Machine.execReleaseStep n s
  | .singlePeriodEnd g => Sys2Proof.Machine.execSinglePeriodEnd g s
  | .trainPeriodEnd g => Sys2Proof.Machine.execTrainPeriodEnd g s
  | .dutyOpenEnd g => Sys2Proof.Machine.execDutyOpenEnd g s
  | .dutyPeriodEnd g => Sys2Proof.Machine.execDutyPeriodEnd g s
  | .deadTimeEnd g => Sys2Proof.Machine.execDeadTimeEnd g s
  | .brakeCycle => Sys2Proof.Machine.execBrakeCycle s
  | .cornerTimerExpiry c => Sys2Proof.Machine.execCornerTimerExpiry c s
  | .strobeTimerExpiry c => Sys2Proof.Machine.execStrobeTimerExpiry c s
  | .waitTimerExpiry c => Sys2Proof.Machine.execWaitTimerExpiry c s
  | .recoveryWindowExpiry c => Sys2Proof.Machine.execRecoveryWindowExpiry c s
  | .haltTimerExpiry => Sys2Proof.Machine.execHaltTimerExpiry s
  | .jsCycle => Sys2Proof.Machine.execJsCycle s
  | .doorWord d code parity stop => Sys2Proof.Machine.execDoorWord d code parity stop s
  | .doorWordClockStop d => Sys2Proof.Machine.execDoorWordClockStop d s
  | .inhibitMinEnd d => Sys2Proof.Machine.execInhibitMinEnd d s
  | .lossTimerExpiry d => Sys2Proof.Machine.execLossTimerExpiry d s
  | .sendStart d => Sys2Proof.Machine.execSendStart d s
  | .sendClockRelease d => Sys2Proof.Machine.execSendClockRelease d s
  | .sendAttemptEnd d ack => Sys2Proof.Machine.execSendAttemptEnd d ack s
  | .sendTimeout d => Sys2Proof.Machine.execSendTimeout d s
  | .translateWord => Sys2Proof.Machine.execTranslateWord s
  | .prefixTimerExpiry d => Sys2Proof.Machine.execPrefixTimerExpiry d s
  | .doorStartBit d => Sys2Proof.Machine.execDoorStartBit d s

end Sys2Proof.Machine
end

