-- ==== Sys2Proof/Safety.lean ====
section
/-! DEFINITION. What a safe state of the part is, in the terms the manual's laws use, and the words the statements about commands
share: which commands are host requests, and what a request that only answers leaves. -/

namespace Sys2Proof.Machine

/-! ### Laws over states -/

/-- R40, R42: the drive-inhibit line is asserted exactly while a door is not LOCKED, the ceiling is 0, or the ceiling is below the
vehicle speed plus 20; while the reset input is held it is asserted whatever they are. -/
def State.InhibitLaw (s : State) : Prop :=
  (s.resetHeld = true → s.eu.inhibit = true) ∧
  (s.resetHeld = false →
    (s.eu.inhibit = true ↔
      (∃ d : Door, (s.line d).door ≠ .locked) ∨ s.eu.env.ceiling = 0 ∨ s.eu.env.ceiling < s.mc.speed + 20))

/-- R30: the envelope held is the one the live records form. -/
abbrev State.EnvelopeLaw (s : State) : Prop := s.eu.env = envelopeOf s.rt.slots

/-- An IDLE generator is CLOSED and not WAITING, and a WAITING one is CLOSED (R66, R73). -/
def Generator.Sound (g : Generator) : Prop :=
  (g.prog = .idle → g.isOpen = false ∧ g.waiting = false) ∧ (g.waiting = true → g.isOpen = false)

/-- At most one member of a pair holds a program (R72). -/
def Pair.Sound (p : Pair) : Prop := p.first.Sound ∧ p.second.Sound ∧ (p.first.prog = .idle ∨ p.second.prog = .idle)

/-- R72: the pairs of every brake channel, every corner and the rear steer are kept apart. -/
def State.InterlockLaw (s : State) : Prop :=
  (∀ c : Corner, s.valves.brake[c.val].Sound) ∧ (∀ c : Corner, s.valves.level[c.val].Sound) ∧ s.valves.steer.Sound ∧
    s.valves.damping.Sound

/-- R110, R111: while the reset input is not held, a corner holds one of the two grants exactly while its FILL holds a program, which
is a SINGLE or a TRAIN, and no corner holds both; no corner holds one while RESERVE reads BELOW; a waiting corner holds none, its program
opens the valve, and it waits only because RESERVE reads BELOW or neither grant is free; and in a LEVEL reset no corner waits or holds a
grant and none of the timers that could form a command runs. -/
def State.FillLaw (s : State) : Prop :=
  s.resetHeld = false →
    (∀ c : Corner, s.granted c = true ↔ s.valves.level[c.val].first.prog ≠ .idle) ∧
    (∀ c : Corner, s.valves.level[c.val].first.prog ≠ .idle → s.valves.level[c.val].first.prog.completes = true) ∧
    (s.lc.reserve = .below → ∀ c : Corner, s.granted c = false) ∧
    (s.lc.grants[0] = s.lc.grants[1] → s.lc.grants[0] = none) ∧
    (∀ (c : Corner) (w : WaitEntry), (s.corner c).waiting = some w →
      s.granted c = false ∧ w.prog.inRange.completes = true ∧
      (s.lc.reserve = .above → s.lc.grants[0] ≠ none ∧ s.lc.grants[1] ≠ none)) ∧
    (s.inReset .level = true → s.lc.haltAt = none ∧
      ∀ c : Corner, (s.corner c).waiting = none ∧ (s.corner c).sourceAt = none ∧ s.granted c = false)

/-- A record's values stand in the ranges of section 1.2, its depth from 1 to 4, its list at four conditions or fewer (R5), and its
release remaining at its delay or less, its distance remaining at 30000 mm or less, both 0 outside RELEASING (R13 to R15, R19). -/
def Record.InRange (r : Record) : Prop :=
  (∀ x, r.floor = some x → x ≤ 800) ∧ (∀ x, r.ceiling = some x → x ≤ 800) ∧ (∀ x, r.steer = some x → x ≤ 140) ∧
  (∀ x, r.offset = some x → -90 ≤ x ∧ x ≤ 0) ∧ (∀ x, r.damping = some x → x ≤ 7) ∧ (∀ x, r.swing = some x → x ≤ 300) ∧
  r.delay ≤ 5000 ∧ r.armTimeout ≤ 60000 ∧ r.conds.length ≤ 4 ∧ 1 ≤ r.depth ∧ r.depth ≤ 4 ∧ r.releaseLeft ≤ r.delay ∧
  r.distLeft ≤ 30000 ∧ (r.state ≠ .releasing → r.releaseLeft = 0 ∧ r.distLeft = 0)

/-- A profile row's values stand in the same ranges. -/
def Profile.InRange (p : Profile) : Prop :=
  (∀ x, p.floor = some x → x ≤ 800) ∧ (∀ x, p.ceiling = some x → x ≤ 800) ∧ (∀ x, p.steer = some x → x ≤ 140) ∧
  (∀ x, p.offset = some x → -90 ≤ x ∧ x ≤ 0) ∧ (∀ x, p.damping = some x → x ≤ 7) ∧ (∀ x, p.swing = some x → x ≤ 300) ∧
  p.delay ≤ 5000 ∧ p.armTimeout ≤ 60000 ∧ p.conds.length ≤ 4

/-- The values of records and profile rows (section 1.2), of the envelope (section 2.1), the samples (section 3.1), the speeds (R52) and
the angles (R58) stand in their ranges. -/
def State.RangeLaw (s : State) : Prop :=
  (∀ (i : Slot) (r : Record), s.recordAt i = some r → r.InRange) ∧ (∀ k : Kind, (s.profile k).InRange) ∧
  (∀ a : Axle, s.eu.env.floors[a.val] ≤ 800) ∧ s.eu.env.ceiling ≤ 800 ∧ s.eu.env.steer ≤ 140 ∧
  (∀ c : Corner, -90 ≤ s.eu.env.offsets[c.val] ∧ s.eu.env.offsets[c.val] ≤ 0) ∧ s.eu.env.damping ≤ 7 ∧
  (∀ ch : Channel, (s.sample ch).value ≤ channelTop ch) ∧ s.mc.speed ≤ 1500 ∧ (∀ c : Corner, s.mc.wheels[c.val].speed ≤ 1500) ∧
  (∀ a : Angle, -600 ≤ (s.angle a).count ∧ (s.angle a).count ≤ 600)

/-- A band's values stand in the ranges of R177. -/
def Band.InRange (b : Band) : Prop :=
  b.gain ≤ 1024 ∧ 1 ≤ b.warn ∧ b.warn ≤ 600 ∧ 1 ≤ b.limit ∧ b.limit ≤ 600 ∧ 1 ≤ b.omega ∧ b.omega ≤ 255 ∧ b.damping ≤ 7

/-- The parameter store's values stand in the ranges of R177, and the thresholds in the order of R50. -/
def Params.InRange (p : Params) : Prop :=
  1000 ≤ p.circ ∧ p.circ ≤ 4000 ∧ 20 ≤ p.teeth ∧ p.teeth ≤ 200 ∧
  p.critical ≤ p.low ∧ p.low ≤ p.reserve ∧ p.reserve ≤ 1200 ∧
  (∀ a : Axle, p.cmin[a.val] ≤ 1000 ∧ p.cmax[a.val] ≤ 1000 ∧ p.lempty[a.val] ≤ 1000 ∧ p.lfull[a.val] ≤ 1000) ∧
  1 ≤ p.slipIn ∧ p.slipIn ≤ 1000 ∧ p.slipOut ≤ 1000 ∧ 1 ≤ p.relieve ∧ p.relieve ≤ 1000 ∧ 1 ≤ p.reapply ∧ p.reapply ≤ 1000 ∧
  1 ≤ p.holds ∧ p.holds ≤ 100 ∧ 150 ≤ p.ride ∧ p.ride ≤ 350 ∧ 1 ≤ p.bandStat ∧ p.bandStat ≤ 50 ∧ 1 ≤ p.bandMove ∧
  p.bandMove ≤ 50 ∧ ∀ b : Fin 8, p.bands[b.val].InRange

/-- An axle's values stand in the ranges of section 5.1. -/
def BrakeAxle.InRange (a : BrakeAxle) : Prop :=
  a.load ≤ 1000 ∧ (∀ x, a.lastFree = some x → x ≤ 1000) ∧ (∀ x, a.latch = some x → x ≤ 1000) ∧ a.ceiling ≤ 1000 ∧
  a.driver ≤ 1000 ∧ a.floor ≤ 800 ∧ a.base ≤ 1000

/-- A channel's values stand in the ranges of section 5.1. -/
def BrakeChannel.InRange (x : BrakeChannel) : Prop :=
  (∀ y, x.target = some y → y ≤ 1000) ∧ x.holdCount ≤ 100 ∧ x.slipValue ≤ 1000 ∧ x.wheelUsed ≤ 1500 ∧ x.sampleUsed ≤ 1000 ∧
  ∀ n, x.command = .apply n ∨ x.command = .exhaust n → 1 ≤ n ∧ n ≤ 10

/-- A corner's values stand in the ranges of section 6.1; no average of its accumulator is above 400 mm. -/
def CornerRecord.InRange (r : CornerRecord) : Prop :=
  r.revs ≤ 15 ∧ r.count ≤ 4095 ∧ r.sum ≤ 400 * r.count ∧ (∀ h, r.last = some h → h ≤ 400) ∧ -90 ≤ r.offset ∧ r.offset ≤ 0 ∧
  0 ≤ r.haltHeight ∧ r.haltHeight ≤ 350

/-- The joint controller's values stand in the ranges of chapter 7. -/
def JointController.InRange (x : JointController) : Prop :=
  x.clear ≤ 99 ∧ (∀ y, x.previous = some y → -600 ≤ y ∧ y ≤ 600) ∧ x.rate.natAbs ≤ 1200 ∧ x.damping ≤ 7 ∧ x.steerUsed ≤ 140 ∧
  x.dampingUsed ≤ 7 ∧ 0 ≤ x.bound ∧ x.bound ≤ 140 ∧ x.target.natAbs ≤ 140 ∧ x.command.natAbs ≤ 140 ∧ x.error.natAbs ≤ 740

/-- The stored and counted values that `RangeLaw` leaves out: the parameter store (R177) and the wheel values in use (R52), the counts
that hold at a top or start again (R44, R52, R55, R57, R114, R141, R149, R159, R179), the records of the brakes, corners and joint, the
generators' programs (R67, R69), the queues' classes (R146) and the response's length (R170). -/
def State.CountLaw (s : State) : Prop :=
  s.hl.params.InRange ∧
  (1000 ≤ s.mc.circ ∧ s.mc.circ ≤ 4000 ∧ 20 ≤ s.mc.teeth ∧ s.mc.teeth ≤ 200 ∧ s.mc.remainder ≤ 199 ∧
    (∀ a : Axle, s.mc.revs[a.val] ≤ 199) ∧
    (∀ c : Corner, s.mc.wheels[c.val].bucket ≤ 255 ∧ ∀ k : Fin 4, s.mc.wheels[c.val].closed[k.val] ≤ 255) ∧
    ∀ a : Angle, (s.angle a).illegal.length ≤ 15 ∧ (s.angle a).illegalTotal ≤ 65535) ∧
  s.sp.discards ≤ 65535 ∧
  (s.bc.demand ≤ 1000 ∧ s.bc.speedUsed ≤ 1500 ∧ (∀ a : Axle, s.bc.axles[a.val].InRange) ∧
    ∀ c : Corner, s.bc.channels[c.val].InRange) ∧
  ((∀ c : Corner, (s.corner c).InRange) ∧ s.lc.strays ≤ 255) ∧
  s.js.InRange ∧
  (∀ g : GenId, (s.gen g).prog.inRange = (s.gen g).prog ∧ (s.gen g).toCome ≤ 254) ∧
  (∀ d : Door, (s.line d).attempts ≤ 2 ∧ (s.line d).errors ≤ 255 ∧ ((s.line d).queue.map Command.class).Nodup ∧
    s.dt.ignored[d.val] ≤ 255) ∧
  s.hl.runCount ≤ 9 ∧ s.hl.response.length ≤ 30

/-- R89: the target of a channel is at most the larger of its axle's load ceiling and floor, and at most 1000; it is below the floor
only in RELIEVE, HOLD or REAPPLY; and a HELD channel holds none. The load ceiling and the floor are those of the cycle that formed
it. -/
def State.BrakeLaw (s : State) : Prop :=
  ∀ c : Corner,
    (∀ x, s.bc.channels[c.val].target = some x →
      x ≤ max (s.brakeAxle c).ceiling (s.brakeAxle c).floor ∧ x ≤ 1000 ∧
      (x < (s.brakeAxle c).floor → s.bc.channels[c.val].slip = .relieve ∨ s.bc.channels[c.val].slip = .hold ∨
        s.bc.channels[c.val].slip = .reapply)) ∧
    (s.bc.channels[c.val].run = .held → s.bc.channels[c.val].target = none)

/-- R1 and R6: no two live records share a kind and an owner, and each stands in a slot of its owner's class under a kind its owner
may place. -/
def State.RecordLaw (s : State) : Prop :=
  (∀ (i j : Slot) (r q : Record), s.recordAt i = some r → s.recordAt j = some q → r.kind = q.kind → r.owner = q.owner → i = j) ∧
  (∀ (i : Slot) (r : Record), s.recordAt i = some r → slotOfClass r.owner i = true ∧ r.kind.permits r.owner = true)

/-- R9: every live record that names a parent has a live parent, which is ACTIVE and stands one depth above it; one that names none
stands at depth 1; and no depth is above 4, so that no record has more than three ancestors and none in RELEASING has a child. -/
def State.ParentLaw (s : State) : Prop :=
  ∀ (i : Slot) (r : Record), s.recordAt i = some r → r.depth ≤ 4 ∧
    (r.parent = none → r.depth = 1) ∧
    ∀ h, r.parent = some h → s.names h = true ∧
      ∃ p, s.recordAt h.slot = some p ∧ p.state = .active ∧ r.depth = p.depth + 1

/-! ### Families of records -/

/-- Does the record of slot `j` name that of slot `i` as its parent? -/
def State.childOf (s : State) (j i : Slot) : Bool :=
  match s.recordAt j with | some q => q.parent == some (s.handleAt i) | none => false

/-- Is slot `j` the slot `i`, or does it hold a child, a grandchild or a great-grandchild of its record? R9 allows no deeper one. -/
def State.under (s : State) (i j : Slot) : Bool :=
  j == i || s.childOf j i ||
    allSlots.any fun a => s.childOf a i && (s.childOf j a || allSlots.any fun b => s.childOf b a && s.childOf j b)

/-- A record returned to ACTIVE (R6, R9, R19). -/
def Record.returned (r : Record) : Record :=
  { r with state := .active, releaseLeft := 0, distLeft := 0, risen := false, stepAt := none }

/-- A record that has entered RELEASING at `now` (R13): a delay of 0 starts no release step timer. -/
def Record.released (now : Nat) (r : Record) : Record :=
  { r with state := .releasing, releaseLeft := r.delay, distLeft := r.swing.getD 0 * 100, risen := false,
           stepAt := if r.delay = 0 then none else some (now + 50 * ms) }

/-- A record that is no KNEEL has something left to run at its entry to RELEASING: a delay, or a steer limit with a distance. Else it
retires at that entry (R13, R17). -/
abbrev Record.Lingers (r : Record) : Prop := 0 < r.delay ∨ (r.steer ≠ none ∧ 0 < r.swing.getD 0)

/-- A record as PLAUS or JOINT places it from a profile row (R27). -/
def Record.FromRow (r : Record) (k : Kind) (o : Owner) (row : Profile) : Prop :=
  r.kind = k ∧ r.owner = o ∧ r.state = .active ∧ r.parent = none ∧ r.depth = 1 ∧ r.ownerRelease = false ∧ r.floor = row.floor ∧
  r.ceiling = row.ceiling ∧ r.steer = row.steer ∧ r.damping = row.damping ∧ r.delay = row.delay

/-- A record of an internal owner that its withdrawal retires at once: ACTIVE, waiting for its owner alone, with no delay, no steer limit
and no child (R13, R17, R62). -/
def State.GoesAtOnce (s : State) (i : Slot) (r : Record) : Prop :=
  r.state = .active ∧ r.ownerRelease = false ∧ r.conds = [.ownerRelease] ∧ r.delay = 0 ∧ r.steer = none ∧ s.hasChild i = false

/-! ### The batch of an AMEND (R23 to R25) -/

/-- The entry is applied to the table given and leaves the record it names in its state: an ARMED one, or an ACTIVE one that still waits
for its owner. -/
def AmendEntry.Steady (w : Owner) (e : AmendEntry) (slots : Vector SlotEntry 32) : Prop :=
  ∃ h r, e.handle = some h ∧ slots[h.slot.val] = ⟨h.gen, some r⟩ ∧ r.owner = w ∧ e.change.accepted r = true ∧
    (r.state = .armed ∨ (r.state = .active ∧ r.ownerRelease = false ∧ Cond.ownerRelease ∈ (e.change.apply r).conds))

/-- The table with the entry's change in the record it names. -/
def AmendEntry.put (e : AmendEntry) (slots : Vector SlotEntry 32) : Vector SlotEntry 32 :=
  match e.handle with
  | some h => slots.set h.slot.val ⟨slots[h.slot.val].gen, slots[h.slot.val].record.map e.change.apply⟩
  | none => slots

/-- The entries' changes one after another. -/
def putEntries (es : List AmendEntry) (slots : Vector SlotEntry 32) : Vector SlotEntry 32 := es.foldl (fun x e => e.put x) slots

/-- Every entry of a batch is steady on the table that the ones before it have left. -/
def SteadyBatch (w : Owner) : List AmendEntry → Vector SlotEntry 32 → Prop
  | [], _ => True
  | e :: es, slots => e.Steady w slots ∧ SteadyBatch w es (e.put slots)

/-- The entry is refused on the table given (R23): its handle is stale, its record another owner's, or its change not accepted. -/
def AmendEntry.Refused (w : Owner) (e : AmendEntry) (slots : Vector SlotEntry 32) (st : Status) : Prop :=
  (st = .stale ∧ ∀ h, e.handle = some h → slots[h.slot.val].gen = h.gen → slots[h.slot.val].record = none) ∨
  ∃ h r, e.handle = some h ∧ slots[h.slot.val] = ⟨h.gen, some r⟩ ∧
    ((st = .notOwner ∧ r.owner ≠ w) ∨ (st = .badField ∧ r.owner = w ∧ e.change.accepted r = false))

/-! ### The degraded-sensor set (R61) -/

/-- A sensor of the corner is degraded: its brake pressure or bellows pressure is not VALID, or its height is STALE or declared. -/
def State.CornerDegraded (s : State) (c : Corner) : Prop :=
  (s.chamber c).state ≠ .valid ∨ (s.bellows c).state ≠ .valid ∨ s.heightRecord c = .stale ∨ (s.corner c).check = .degraded

/-- The degraded-sensor set has a member: a sensor of a corner, a pedal, the reservoir or an angle. -/
def State.SomeDegraded (s : State) : Prop :=
  (∃ c : Corner, s.CornerDegraded c) ∨ (s.sample 18).state ≠ .valid ∨ (s.sample 19).state ≠ .valid ∨ (s.sample 20).state ≠ .valid ∨
  ∃ a : Angle, (s.angle a).calibrated = false ∨ (s.angle a).valid = false

/-- The set as PLAUS last acted on it is the set as it stands (the field `degraded` is the model's, notes/assumptions/13.md). -/
def State.PlausCurrent (s : State) : Prop :=
  (∀ c : Corner, (s.degraded.getLsbD c.val = true ↔ (s.chamber c).state ≠ .valid) ∧
    (s.degraded.getLsbD (6 + c.val) = true ↔ (s.bellows c).state ≠ .valid) ∧
    (s.degraded.getLsbD (12 + c.val) = true ↔ s.heightRecord c = .stale ∨ (s.corner c).check = .degraded)) ∧
  (s.degraded.getLsbD 18 = true ↔ (s.sample 18).state ≠ .valid) ∧ (s.degraded.getLsbD 19 = true ↔ (s.sample 19).state ≠ .valid) ∧
  (s.degraded.getLsbD 20 = true ↔ (s.sample 20).state ≠ .valid) ∧
  (s.degraded.getLsbD 21 = true ↔ (s.angle .joint).calibrated = false ∨ (s.angle .joint).valid = false) ∧
  (s.degraded.getLsbD 22 = true ↔ (s.angle .actuator).calibrated = false ∨ (s.angle .actuator).valid = false)

/-- The scope is the set of corners with a degraded sensor (R28, R61). -/
def State.DegradedScope (s : State) (x : Scope) : Prop := ∀ c : Corner, x.has c = true ↔ s.CornerDegraded c

/-! ### Levelling -/

/-- The context of R100, from the flags and the vehicle speed as they stand. -/
def State.formedContext (s : State) : LevelContext :=
  match s.mc.stationary, s.mc.moving with
  | true, _ => .stationary
  | false, true => if 300 ≤ s.mc.speed then .fast else .slow
  | false, false => .slow

/-- A corner's record when it has taken up a source at `now` (R101): a timer source starts from then, and revolutions count from 0. -/
def CornerRecord.taking (now : Nat) (x : Source) (r : CornerRecord) : CornerRecord :=
  { r with
    source := x
    sourceAt := match x with
      | .timer50 => some (now + 50 * ms) | .timer1000 => some (now + 1000 * ms) | .axleRev16 | .none => none
    revs := 0 }

/-- The target of R104 for a phase: the ride height at a speed of 50 or more, and below it the halt height of a HALTED corner or the
ride height with the offset held. -/
def State.targetFor (s : State) (c : Corner) (phase : KneelPhase) : Int :=
  if 50 ≤ s.mc.speed then (s.hl.params.ride : Int)
  else if phase = .halted then (s.corner c).haltHeight else (s.hl.params.ride : Int) + (s.corner c).offset

/-- The band of R105 in a context. -/
def State.bandIn (s : State) (x : LevelContext) : Nat :=
  if x = .stationary then s.hl.params.bandStat else max s.hl.params.bandStat s.hl.params.bandMove

/-- The outcome of an error against a band (R105). -/
def judged (err : Int) (db : Nat) : LevelOutcome :=
  if (db : Int) < err then .fill else if err < -(db : Int) then .exhaust else .hold

/-- The program of R106 for a needed time in ms, as a generator takes it (R67). -/
def pulse (phase : KneelPhase) (source : Source) (need : Nat) : Program :=
  (if phase = .lowering ∨ phase = .rising then Program.train 80 40 ((need + 79) / 80)
   else .single (min need (if source = .timer50 then 40 else 800))).inRange

/-- R108's conditions for a command formed at once from the last height `h`. -/
def State.ActsAtOnce (s : State) (c : Corner) (h : Nat) : Prop :=
  s.mc.speed < 50 ∧ (s.corner c).check = .normal ∧ (s.corner c).last = some h ∧ (s.corner c).source ≠ .none

/-- The outcome of corner `c` stands at what the error `err` against the band `db` calls for, and its valves are at work on it at once
(R106 to R108): idle in HOLD, its exhaust on a fresh program in EXHAUST, and in FILL its fill on one under a grant, or its entry waiting
for a grant. -/
def State.Commanded (t : State) (c : Corner) (err : Int) (db : Nat) : Prop :=
  (t.corner c).outcome = some (judged err db) ∧
  (judged err db = .hold → (t.corner c).waiting = none ∧ (t.gen (.fill c)).prog = .idle ∧ (t.gen (.cornerExhaust c)).prog = .idle) ∧
  (judged err db = .exhaust → (t.corner c).waiting = none ∧ (t.gen (.fill c)).prog = .idle ∧
    (t.gen (.cornerExhaust c)).prog = pulse (t.corner c).phase (t.corner c).source (2 * err.natAbs)) ∧
  (judged err db = .fill → (t.gen (.cornerExhaust c)).prog = .idle ∧
    ((t.granted c = true ∧ (t.gen (.fill c)).prog = pulse (t.corner c).phase (t.corner c).source (3 * err.natAbs)) ∨
      ∃ w, (t.corner c).waiting = some w ∧ w.error = err ∧
        w.prog.inRange = pulse (t.corner c).phase (t.corner c).source (3 * err.natAbs)))

/-- Corner `c` is the next to be given a grant among the corners that wait with the errors given: none waits with a larger error, and none
of a lower index with the same (R110). -/
abbrev IsNext (error : Corner → Option Int) (c : Corner) : Prop :=
  (error c).isSome = true ∧
    ∀ d, error d = none ∨ (error d).getD 0 < (error c).getD 0 ∨ (error d = error c ∧ c ≤ d)

/-- The error a corner waits with (R109). -/
def State.waitError (s : State) (c : Corner) : Option Int := (s.corner c).waiting.map (·.error)

/-- Corner `c` holds a grant and waits no more; its FILL holds the program given, and its exhaust is IDLE (R72, R110). -/
def State.FillsWith (t : State) (c : Corner) (p : Program) : Prop :=
  t.granted c = true ∧ (t.corner c).waiting = none ∧ (t.gen (.fill c)).prog = p ∧ (t.gen (.cornerExhaust c)).prog = .idle

/-- From `s` to `t` corner `c` has neither left the waiting set nor got or lost a grant, and its pair is as it was. -/
def State.FillKept (s t : State) (c : Corner) : Prop :=
  (t.corner c).waiting = (s.corner c).waiting ∧ t.granted c = s.granted c ∧ t.valves.level[c.val] = s.valves.level[c.val]

/-- Corner `c` is frozen (R117): its valves are IDLE, it does not wait, and it has no samples and no last height. -/
def State.Frozen (t : State) (c : Corner) : Prop :=
  (t.gen (.fill c)).prog = .idle ∧ (t.gen (.cornerExhaust c)).prog = .idle ∧ (t.corner c).waiting = none ∧
  (t.corner c).sum = 0 ∧ (t.corner c).count = 0 ∧ (t.corner c).last = none

/-- The sensor-check state a corner in `was` comes to when its height record is met in state `x` (R117, R118, R123); `window`: does its
recovery window run? -/
def checkAfter (was : CheckState) (window : Bool) (x : SampleState) : CheckState :=
  match was, x with
  | .normal, .fault => if window then .degraded else .strobe
  | .normal, .stale => .degraded
  | .degraded, .valid => .normal
  | .normal, .valid | .degraded, .fault | .degraded, .stale | .strobe, _ | .wait, _ => was

/-- From `s` to `t` corner `c` has met its height record in state `x` (R117, R118, R123): leaving NORMAL it is frozen, with its strobe
active for 20 ms where it strobes; back in NORMAL its recovery window of 60000 ms runs and SENSOR is set; else its check is as it was. -/
def State.HeightMet (s t : State) (c : Corner) (x : SampleState) : Prop :=
  let was := (s.corner c).check
  let is := checkAfter was (s.corner c).recoveryAt.isSome x
  (t.corner c).check = is ∧
  (was = .normal → is ≠ .normal →
    t.Frozen c ∧ (t.corner c).recoveryAt = (s.corner c).recoveryAt ∧ (s.FillLaw → t.granted c = false)) ∧
  (was = .normal → is = .strobe → (t.corner c).strobe = true ∧ (t.corner c).checkAt = some (t.now + 20 * ms)) ∧
  (was = .normal → is = .degraded → (t.corner c).strobe = (s.corner c).strobe ∧ (t.corner c).checkAt = none) ∧
  (was = .degraded → is = .normal →
    (t.corner c).checkAt = none ∧ (t.corner c).recoveryAt = some (t.now + 60000 * ms) ∧ t.flag .sensor = true) ∧
  (is = was → (t.corner c).strobe = (s.corner c).strobe ∧ (t.corner c).checkAt = (s.corner c).checkAt ∧
    (t.corner c).recoveryAt = (s.corner c).recoveryAt)

/-! ### Comparators (R48) -/

/-- What a comparator that reads `was` reads after a good word of value `v` (R48): ABOVE it goes BELOW under its threshold, BELOW it goes
ABOVE at the threshold plus 20, and else it stays, which for ABOVE under a threshold above 1180 is the model's choice
(notes/assumptions/37.md). -/
def comparatorAfter (threshold v : Nat) (was : Level) : Level :=
  if was = .above ∧ v < threshold then .below else if was = .below ∧ threshold + 20 ≤ v then .above else was

/-! ### Parameters (R177) -/

/-- The range of a parameter's value, by its number and index, in R177's table; the reservoir thresholds and the source table are left
out, as other rules bound them too (R50, R119). -/
def paramRange : Nat → Nat → Option (Int × Int)
  | 1, 0 => some (1000, 4000)
  | 2, 0 => some (20, 200)
  | 4, i | 5, i | 6, i | 7, i => if i < 3 then some (0, 1000) else none
  | 8, 0 | 8, 2 | 8, 3 => some (1, 1000)
  | 8, 1 => some (0, 1000)
  | 8, 4 => some (1, 100)
  | 9, 0 => some (150, 350)
  | 10, 0 | 10, 1 => some (1, 50)
  | 12, i => if i < 8 then some (0, 1024) else none
  | 13, i | 14, i => if i < 8 then some (1, 600) else none
  | 15, i => if i < 8 then some (1, 255) else none
  | 16, i => if i < 8 then some (0, 7) else none
  | _, _ => none

/-- The stored value of a parameter, by its number and index in R177's table. -/
def Params.stored (p : Params) : Nat → Nat → Option Nat
  | 1, 0 => some p.circ
  | 2, 0 => some p.teeth
  | 3, 0 => some p.reserve | 3, 1 => some p.low | 3, 2 => some p.critical
  | 4, i => p.cmin[i]? | 5, i => p.cmax[i]? | 6, i => p.lempty[i]? | 7, i => p.lfull[i]?
  | 8, 0 => some p.slipIn | 8, 1 => some p.slipOut | 8, 2 => some p.relieve | 8, 3 => some p.reapply | 8, 4 => some p.holds
  | 9, 0 => some p.ride
  | 10, 0 => some p.bandStat | 10, 1 => some p.bandMove
  | 11, i => p.sources[i]?.map fun x => match x with | .timer50 => 0 | .timer1000 => 1 | .axleRev16 => 2 | .none => 3
  | 12, i => p.bands[i]?.map (·.gain) | 13, i => p.bands[i]?.map (·.warn) | 14, i => p.bands[i]?.map (·.limit)
  | 15, i => p.bands[i]?.map (·.omega) | 16, i => p.bands[i]?.map (·.damping)
  | _, _ => none

/-! ### Requests -/

/-- The request a command is: its code, the owners it accepts (the table of R172) and its frame. -/
def requestOfCommand : Instr → Option (Byte × Accepts × HostFrame)
  | .place f => some (0x01, .hosts, f)
  | .query f => some (0x02, .any, f)
  | .find f => some (0x03, .any, f)
  | .list f => some (0x04, .any, f)
  | .amend f => some (0x05, .hosts, f)
  | .retire f => some (0x06, .hosts, f)
  | .retireForce f => some (0x07, .any, f)
  | .readEnvelope f => some (0x10, .any, f)
  | .readBrake f => some (0x11, .any, f)
  | .readCorner f => some (0x12, .any, f)
  | .readJoint f => some (0x13, .any, f)
  | .readDoor f => some (0x14, .any, f)
  | .readSample f => some (0x15, .any, f)
  | .setDoorRelease f => some (0x20, .any, f)
  | .doorCommand f => some (0x21, .any, f)
  | .setMode f => some (0x22, .depot, f)
  | .heartbeat f => some (0x23, .any, f)
  | .ackAttention f => some (0x24, .any, f)
  | .setAttentionMask f => some (0x25, .any, f)
  | .lastStatus f => some (0x26, .any, f)
  | .writeParam f => some (0x30, .any, f)
  | .writeProfile f => some (0x31, .any, f)
  | .writeXlate f => some (0x32, .any, f)
  | .configDone f => some (0x33, .any, f)
  | .resetGroup f => some (0x40, .hosts, f)
  | .resetAll f => some (0x41, .hosts, f)
  | .powerOn | .resetInput | .frameCheckFail _ | .heartbeatTimerExpiry | .groupResetEnd _ | .sampleWord _ _ _
  | .sampleWordTimeout | .sampleAgeExpiry _ | .wheelPulse _ | .bucketTimerExpiry | .stationaryTimerExpiry
  | .phaseTransition _ _ | .illegalEntryExpiry _ | .centreMark _ | .armTimeout _ | .releaseStep _
  | .singlePeriodEnd _ | .trainPeriodEnd _ | .dutyOpenEnd _ | .dutyPeriodEnd _ | .deadTimeEnd _ | .brakeCycle
  | .cornerTimerExpiry _ | .strobeTimerExpiry _ | .waitTimerExpiry _ | .recoveryWindowExpiry _ | .haltTimerExpiry
  | .jsCycle | .doorWord _ _ _ _ | .doorWordClockStop _ | .inhibitMinEnd _ | .lossTimerExpiry _ | .sendStart _
  | .sendClockRelease _ | .sendAttemptEnd _ _ | .sendTimeout _ | .translateWord | .prefixTimerExpiry _
  | .doorStartBit _ => none

/-- The bytes that the seven leading optional values of a mask take (section 10.8): floor, ceiling, steer limit, offset, release delay,
swing distance and arm timeout. -/
def valuesLength (mask : Nat) : Nat :=
  let bit (n : Nat) : Nat := (mask.testBit n).toNat
  2 * bit 0 + 2 * bit 1 + bit 2 + bit 3 + 2 * bit 4 + 2 * bit 5 + 2 * bit 6

/-- The bytes of a field: a list that starts at byte `n`, its count and as many bytes, where the field is given. -/
def listLength (given : Bool) (n : Nat) (bytes : List Byte) : Nat := if given then 1 + (bytes.getD n 0).toNat else 0

/-- The bytes are `n` entries of AMEND: a handle, a change and a value of two bytes or of one. An entry whose change names no field is
the last that is read (notes/assumptions/24.md). -/
def EntriesFit : Nat → List Byte → Prop
  | 0, bytes => bytes = []
  | n + 1, bytes => ∃ (a b c : Byte) (value rest : List Byte), bytes = a :: b :: c :: (value ++ rest) ∧
      (8 < c.toNat ∨ (value.length = (if c.toNat ∈ [0, 1, 4, 5] then 2 else 1) ∧ EntriesFit n rest))

/-- The payload's length fits the fields that the request of a code carries (check 4 of R172; section 10.8). Where that section leaves a
width open, and a mask bit that names no field, notes/assumptions/21.md to 26.md say what is taken. -/
def PayloadFits (code : Byte) (payload : List Byte) : Prop :=
  match code.toNat with
  | 0x04 | 0x23 | 0x26 | 0x33 | 0x41 => payload.length = 0
  | 0x10 | 0x13 | 0x20 | 0x22 => payload.length = 1
  | 0x03 | 0x06 | 0x07 | 0x11 | 0x12 | 0x14 | 0x15 | 0x21 | 0x24 | 0x25 => payload.length = 2
  | 0x02 | 0x40 => payload.length = 3
  | 0x30 => payload.length = 4
  | 0x01 => ∃ (k x a b : Byte) (rest : List Byte) (m n : Nat), payload = k :: x :: a :: b :: rest ∧ m = readU16 a b ∧ m < 1024 ∧
      n = valuesLength m + (m.testBit 7).toNat ∧
      rest.length = n + listLength (m.testBit 8) n rest + 2 * (m.testBit 9).toNat
  | 0x31 => ∃ (k x a b : Byte) (rest : List Byte) (m n : Nat), payload = k :: x :: a :: b :: rest ∧ m = readU16 a b ∧ m < 512 ∧
      n = valuesLength m ∧ rest.length = n + listLength (m.testBit 7) n rest + (m.testBit 8).toNat
  | 0x05 => ∃ (n : Byte) (rest : List Byte), payload = n :: rest ∧ EntriesFit n.toNat rest
  | 0x32 => ∃ (row x n : Byte) (rest : List Byte), payload = row :: x :: n :: rest ∧ rest.length = 3 * n.toNat
  | _ => False

/-- The request codes of the table of R172. -/
def knownCodes : List Nat :=
  [0x01, 0x02, 0x03, 0x04, 0x05, 0x06, 0x07, 0x10, 0x11, 0x12, 0x13, 0x14, 0x15, 0x20, 0x21, 0x22, 0x23, 0x24, 0x25, 0x26,
   0x30, 0x31, 0x32, 0x33, 0x40, 0x41]

/-- What a request of a frame leaves when all it does is answer (R170, R173): the pending response shifted out and replaced by a
frame of the code, the status and the payload given, and the last status moved. -/
def answered (f : HostFrame) (code : Byte) (st : Status) (payload : List Byte) (s : State) : State :=
  { s with hl := { s.hl with
      shifted := shiftedOut s.hl.response (f.payload.length + 4 + f.extra)
      last := s.hl.current
      response := frameOf code st payload
      current := (code, st) } }

/-- The owner byte of the frame is one that R172 takes, and names `o`. -/
abbrev FrameOwner (f : HostFrame) (o : HostOwner) : Prop := readHostOwner f.owner = some o

/-! ### Reports and cells -/

/-- The bytes are a generator's report (R77): its program, its output, whether it is WAITING, the time left and a TRAIN's openings still
to come. The time left of a WAITING generator is free (notes/assumptions/30.md). -/
def IsReport (now : Nat) (g : Generator) (bytes : List Byte) : Prop :=
  ∃ left : Nat, (g.waiting = false → left = match g.endAt with | some e => (e - now) / 1000 | none => 0) ∧
    bytes =
      (match g.prog with
        | .idle => [0] | .single n => 1 :: u16 n | .train on off n => 2 :: (u16 on ++ u16 off ++ [b1 n]) | .duty n => [3, b1 n])
      ++ [if g.isOpen then 0 else 1, if g.waiting then 1 else 0] ++ u16 left
      ++ (match g.prog with | .train _ _ _ => [b1 g.toCome] | .idle | .single _ | .duty _ => [])

/-- A READ or QUERY of a page of the image answers with the 26 bytes of that page, or fewer at the image's end, or refuses a page there is
not (R182). -/
def ReadsPages (c : Instr) (code : Byte) (f : HostFrame) (s : State) (page : Nat) (image : List Byte) : Prop :=
  (page ≤ 3 → 26 * page < image.length → exec c s = .next (answered f code .ok ((image.drop (26 * page)).take 26) s)) ∧
  (3 < page ∨ image.length ≤ 26 * page → exec c s = .next (answered f code .badField [] s))

/-- The door state after a code of the module that no prefix went before (R144). -/
def reported (code : BitVec 7) (was : DoorState) : DoorState :=
  if code = 0x01 then .locked else if code = 0x02 then .closed else if code = 0x03 then .opening else if code = 0x04 then .open
  else if code = 0x05 then .closing else if code = 0x06 then .obstructed else if code = 0x07 then .fault else was

/-- The context of a word of door `d` (R158): SERVICE in SERVICE mode, else MOVING while the moving flag is set, else RELEASED while the
door is in the release set, else HELD. -/
def wordContext (s : State) (d : Door) : Context :=
  match s.hl.service, s.mc.moving, s.dt.releaseSet.getLsbD d.val with
  | true, _, _ => .service
  | false, true, _ => .moving
  | false, false, true => .released
  | false, false, false => .held

/-- The translator's next word is that of door `d`'s line and no prefix, its cell holds `actions`, and `u` is the state in which the cell
begins: the word taken, the prefix used, the line the one served last (R156 to R158). -/
def CellBegins (s : State) (d : Door) (actions : List Action) (u : State) : Prop :=
  ∃ (k : Door) (code : BitVec 7) (row : Fin 256),
    d = s.dt.lastServed + 1 + k ∧ (∀ j : Door, j < k → (s.line (s.dt.lastServed + 1 + j)).holding = none) ∧
    (s.line d).holding = some code ∧ ((s.line d).prefixPending = true ∨ code ≠ 0x7F) ∧
    row.val = (if (s.line d).prefixPending then 128 else 0) + code.toNat ∧ cellAt s row (wordContext s d) = actions ∧
    u = { s with
      dl := { s.dl with
        lines := s.dl.lines.set d.val { Line.taken s.now (s.inReset .doors) (s.line d) with prefixPending := false } }
      dt := { s.dt with lastServed := d } }

/-! ### Changes at one place -/

/-- The state at a moment of the model's clock. -/
def State.atTime (s : State) (now : Nat) : State := { s with now := now }

/-- The state with a door's line replaced. -/
def State.withLine (s : State) (d : Door) (l : Line) : State := { s with dl := { s.dl with lines := s.dl.lines.set d.val l } }

/-- The state with a corner's record replaced. -/
def State.withCorner (s : State) (c : Corner) (r : CornerRecord) : State :=
  { s with lc := { s.lc with corners := s.lc.corners.set c.val r } }

/-- The state with a channel's sample record replaced. -/
def State.withSample (s : State) (ch : Channel) (x : Sample) : State :=
  { s with sp := { s.sp with samples := s.sp.samples.set ch.val x } }

/-! ### What a command leaves alone -/

/-- Nothing but records, the envelope with its line and its sequence number, and the Host Link's flags, mode and responses
differs; the envelope is the one the records form, and no profile row differs. -/
def OnlyRecords (s t : State) : Prop :=
  t.pending = s.pending ∧ t.resetHeld = s.resetHeld ∧ t.sp = s.sp ∧ t.mc = s.mc ∧ t.valves = s.valves ∧ t.bc = s.bc ∧
  t.lc = s.lc ∧ t.js = s.js ∧ t.dl = s.dl ∧ t.dt = s.dt ∧ t.degraded = s.degraded ∧ t.rt.profiles = s.rt.profiles ∧
  t.hl.params = s.hl.params ∧ t.hl.configured = s.hl.configured ∧ t.hl.mask = s.hl.mask ∧ t.EnvelopeLaw

/-- Every block that a change of the records does not reach is as it was. -/
def BlocksKept (s t : State) : Prop :=
  t.pending = s.pending ∧ t.resetHeld = s.resetHeld ∧ t.sp = s.sp ∧ t.mc = s.mc ∧ t.bc = s.bc ∧ t.js = s.js ∧ t.dl = s.dl ∧
  t.dt = s.dt ∧ t.degraded = s.degraded

/-- The slot is FREE at its next generation, every other slot is as it was, and the change count has advanced by one (R18). -/
def FreesOnly (i : Slot) (s t : State) : Prop :=
  t.rt.slots = s.rt.slots.set i.val ⟨s.rt.slots[i.val].gen + 1, none⟩ ∧ t.rt.changeCount = s.rt.changeCount + 1

/-- The slot's record is `r` at the same generation, every other slot is as it was, and so is the change count. -/
def ChangesOnly (i : Slot) (r : Record) (s t : State) : Prop :=
  t.rt.slots = s.rt.slots.set i.val ⟨s.rt.slots[i.val].gen, some r⟩ ∧ t.rt.changeCount = s.rt.changeCount

/-- Every block but the Door Line Controller and the translator is as it was. -/
def OnlyDoors (s t : State) : Prop :=
  t.pending = s.pending ∧ t.resetHeld = s.resetHeld ∧ t.rt = s.rt ∧ t.eu = s.eu ∧ t.sp = s.sp ∧ t.mc = s.mc ∧
  t.valves = s.valves ∧ t.bc = s.bc ∧ t.lc = s.lc ∧ t.js = s.js ∧ t.degraded = s.degraded

/-! ### The values after a reset -/

/-- What the blocks hold after power-on and after RESET_ALL (R3, R29, R42, R64, R97, R121, R137, R153, R169, R181). -/
def State.ResetValues (cause : Cause) (t : State) : Prop :=
  (∀ i : Slot, t.rt.slots[i.val].gen = 0 ∧ (i ≠ 24 → t.recordAt i = none)) ∧
  (∃ r, t.recordAt 24 = some r ∧ r.kind = .startHold ∧ r.owner = .plaus ∧ r.state = .active ∧ r.mode = .latched ∧
    r.scope = allCorners ∧ r.floor = some 300 ∧ r.ceiling = some 0 ∧ r.steer = some 0 ∧ r.delay = 500 ∧
    r.conds = [.configDone, .allDoorsLocked] ∧ r.parent = none ∧ r.depth = 1 ∧ r.ownerRelease = false) ∧
  t.rt.changeCount = 0 ∧ t.rt.profiles = defaultProfiles ∧
  (t.eu.env.floors = #v[300, 300, 300] ∧ t.eu.env.ceiling = 0 ∧ t.eu.env.steer = 0 ∧
    t.eu.env.offsets = #v[0, 0, 0, 0, 0, 0] ∧ t.eu.env.damping = 0 ∧ t.eu.env.kneel = false ∧ t.eu.seq = 1 ∧
    t.eu.inhibit = true) ∧
  ((∀ ch : Channel, t.sample ch = ⟨0, .stale, none⟩) ∧ t.sp.discards = 0 ∧ t.sp.reserve = .below ∧ t.sp.low = .below ∧
    t.sp.critical = .below) ∧
  (t.mc.circ = 3140 ∧ t.mc.teeth = 80 ∧ (∀ c : Corner, t.mc.wheels[c.val] = ⟨0, #v[0, 0, 0, 0], 0⟩) ∧ t.mc.revs = #v[0, 0, 0] ∧
    t.mc.speed = 0 ∧ t.mc.moving = false ∧ t.mc.stationary = false ∧ t.mc.stationaryAt = some (t.now + 200 * ms) ∧
    t.mc.bucketAt = t.now + 10 * ms ∧ t.mc.remainder = 0 ∧ t.mc.trip = 0 ∧
    (∀ a : Angle, (t.angle a).count = 0 ∧ (t.angle a).calibrated = false ∧ (t.angle a).valid = true ∧
      (t.angle a).illegal = [] ∧ (t.angle a).illegalTotal = 0)) ∧
  (∀ g : GenId, (t.gen g).prog = .idle ∧ (t.gen g).isOpen = false ∧ (t.gen g).waiting = false) ∧
  ((∀ c : Corner, t.bc.channels[c.val].run = .held ∧ t.bc.channels[c.val].slip = .follow ∧
      t.bc.channels[c.val].target = none ∧ t.bc.channels[c.val].holdCount = 0 ∧ t.bc.channels[c.val].slipValue = 0 ∧
      t.bc.channels[c.val].command = .none) ∧
    (∀ a : Axle, t.bc.axles[a.val] =
      { load := 0, lastFree := none, latch := none, ceiling := 0, driver := 0, floor := 0, base := 0 }) ∧
    t.bc.demand = 0 ∧ t.bc.disagreement = false ∧ t.bc.cycleAt = t.now + 10 * ms) ∧
  ((∀ c : Corner, (t.corner c).phase = .level ∧ (t.corner c).offset = 0 ∧ (t.corner c).check = .normal ∧
      (t.corner c).recoveryAt = none ∧ (t.corner c).strobe = false ∧ (t.corner c).sum = 0 ∧ (t.corner c).count = 0 ∧
      (t.corner c).last = none ∧ (t.corner c).outcome = none ∧ (t.corner c).waiting = none ∧ t.granted c = false ∧
      (t.corner c).source = .timer1000 ∧ (t.corner c).sourceAt = some (t.now + 1000 * ms) ∧ (t.corner c).revs = 0) ∧
    t.lc.context = .slow ∧ t.lc.reserve = .below ∧ t.lc.haltAt = none ∧ t.lc.resumePending = false ∧ t.lc.strays = 0 ∧
    t.lc.rising = []) ∧
  (t.js.state = .normal ∧ t.js.clear = 0 ∧ t.js.previous = none ∧ t.js.band = 0 ∧ t.js.damping = 7 ∧ t.js.locked = true ∧
    t.js.target = 0 ∧ t.js.command = 0 ∧ t.js.engaged = true ∧ t.js.cycleAt = t.now + 10 * ms) ∧
  ((∀ d : Door, (t.line d).present = false ∧ (t.line d).loss = .stopped ∧ (t.line d).activity = .listening ∧
      (t.line d).holding = none ∧ (t.line d).prefixPending = false ∧ (t.line d).queue = [] ∧ (t.line d).attempts = 0 ∧
      (t.line d).sendWait = true ∧ (t.line d).errors = 0 ∧ (t.line d).door = .unknown ∧ (t.line d).dataLow = false ∧
      (t.line d).send = none) ∧ t.dl.ramp = .unknown) ∧
  (t.dt.cells = defaultCells ∧ t.dt.releaseSet = 0 ∧ t.dt.ignored = #v[0, 0, 0, 0] ∧
    t.dt.prefixAt = #v[none, none, none, none] ∧ t.dt.lastServed = 3) ∧
  (t.hl.configured = false ∧ t.hl.service = false ∧ (∀ fl : Flag, t.flag fl = true ↔ fl = .reset) ∧ t.hl.mask = 0x7FF ∧
    t.hl.cause = cause ∧ t.hl.supervised = true ∧ t.hl.runCount = 0 ∧ t.hl.heartAt = none ∧
    (∀ g : Group, t.inReset g = false) ∧ t.hl.params = defaultParams ∧
    t.hl.response = frameOf 0x00 .ok [b1 cause.code]) ∧
  t.resetHeld = false ∧ t.degraded = 0

/-- A reset that leaves `t` releases every clock but one whose 100 µs minimum still runs, which stays low to its end (R142). -/
def ClocksReleased (s t : State) : Prop :=
  ∀ d : Door,
    ((t.line d).clockLow = true ↔ (s.line d).clockLow = true ∧ ∃ e, (s.line d).minimumAt = some e ∧ s.now < e) ∧
    ((t.line d).clockLow = true → (t.line d).minimumAt = (s.line d).minimumAt) ∧
    ((t.line d).clockLow = false → (t.line d).minimumAt = none)

end Sys2Proof.Machine
end

