-- ==== Sys2Proof/Certificates/Slice0/Obligations.lean ====
section
/-! DEFINITION. The statements about the part that the provers are asked to prove. Each rests on the rules its docstring names; an
answer of `exec` is always written `exec c s = .next t` with what `t` holds.

Three choices of the model run through them and are no rules of the manual. A timer is the moment of its expiry on the model's clock
`now`, in µs, and an expiry command moves that clock to its timer's end (`max s.now e`; notes/assumptions/1.md). What a transaction
shifted out is kept in `shifted` (notes/assumptions/19.md). Where section 10.8 leaves a payload's width, sign or number open, a request's
bytes are laid out as notes/assumptions/21.md to 30.md say. A statement that shows any of these is 'derived' for that clause. -/

open Sys2Proof Sys2Proof.Machine

/-! ### The machine -/

/-- A step takes the command at the front of the queue and is exec of it on the state with the queue's rest; on an empty queue the part
idles and only the model's clock moves (the model's choice, notes/assumptions/3.md). -/
def Obligations.StepTakesTheFront : Prop :=
  (∀ (c : Instr) (rest : List Instr) (s : State),
    step { s with pending := c :: rest } = exec c { s with pending := rest }) ∧
  (∀ s : State, s.pending = [] → step s = .next { s with now := s.now + 1 })

/-- Every command completes, the queue of the commands that wait is no command's to change, and the model's clock never goes back; each
cycle's expiry, the bucket timer's and an illegal transition's bring it to their moment. The queue and the clock are the model's choice
(notes/assumptions/1.md, 3.md). -/
def Obligations.CommandsKeepTheQueue : Prop :=
  (∀ (c : Instr) (s : State), ∃ t, exec c s = .next t ∧ t.pending = s.pending ∧ s.now ≤ t.now) ∧
  ∀ s t : State, s.resetHeld = false →
    (exec .brakeCycle s = .next t → t.now = max s.now s.bc.cycleAt) ∧
    (exec .jsCycle s = .next t → t.now = max s.now s.js.cycleAt) ∧
    (exec .bucketTimerExpiry s = .next t → t.now = max s.now s.mc.bucketAt) ∧
    (∀ a e rest, (s.angle a).illegal = e :: rest → exec (.illegalEntryExpiry a) s = .next t →
      t.now = max s.now (e + 1000 * ms))

/-! ### Resets -/

/-- POWER_ON leaves every block the values that R3, R29, R42, R64, R76, R97, R121, R137, R153, R167, R169, R177 and R181 give, with no
generator ever closed and code 0x00 and OK as the last status (R173); State.reset is that state. That a clock whose 100 µs have not run
stays low to their end, the clause ClocksReleased, is the model's choice (notes/assumptions/19.md): R142 gives the minimum to every cause,
and no rule says whether POWER_ON cuts it short. -/
def Obligations.PowerOnValues : Prop :=
  (∀ s : State, ∃ t, exec .powerOn s = .next t ∧ t.ResetValues .powerOn ∧ t.now = s.now ∧
    (∀ g : GenId, (t.gen g).closedAt = none) ∧ ClocksReleased s t ∧ t.hl.last = (0x00, .ok)) ∧
  exec .powerOn State.reset = .next State.reset

/-- RESET_INPUT: every valve CLOSED (R76), the drive-inhibit line asserted (R42), the door clocks low and the data wires free (R153), the
solenoid de-energized (R134), the attention line inactive (R174), and nothing else changed. That the part's registers stand until the
reset ends, and that it takes no command meanwhile but the end of the reset, the input itself and the levels of its phase inputs, is the
model's reading (notes/assumptions/6.md). -/
def Obligations.ResetInputHolds : Prop :=
  (∀ (c : Instr) (s : State), s.resetHeld = true → c ≠ .powerOn → c ≠ .resetInput →
    (∀ a p, c ≠ .phaseTransition a p) → exec c s = .next s) ∧
  (∀ (a : Angle) (p : Phases) (s : State), s.resetHeld = true →
    ∃ t, exec (.phaseTransition a p) s = .next t ∧
      t = { s with mc := { s.mc with joint := t.mc.joint, actuator := t.mc.actuator } } ∧
      t.angle a = { s.angle a with phases := p } ∧ ∀ b : Angle, b ≠ a → t.angle b = s.angle b) ∧
  ∀ s : State, ∃ t, exec .resetInput s = .next t ∧
    t = { s with
      resetHeld := true
      valves := t.valves
      eu := { s.eu with inhibit := true }
      dl := { s.dl with lines := t.dl.lines }
      js := { s.js with engaged := true } } ∧
    (∀ g : GenId, t.gen g = { prog := .idle, isOpen := false, waiting := false, endAt := none, openEndAt := none, toCome := 0,
                              closedAt := if (s.gen g).isOpen then some s.now else (s.gen g).closedAt }) ∧
    (∀ d : Door, t.line d = { s.line d with
      clockLow := true
      dataLow := false
      minimumAt := if (s.line d).clockLow then (s.line d).minimumAt else some (s.now + 100)
      loss := if (s.line d).clockLow then (s.line d).loss else (s.line d).loss.pause s.now }) ∧
    t.attentionActive = false

/-- RESET_ALL below a speed of 10 leaves every block its reset values, with the reset response pending and its own code and OK as the last
status, and keeps each generator's moment of last closing (R76, R173, R181); at 10 or more it is refused. That it leaves a clock which it
finds low to run out its 100 µs, the clause ClocksReleased, is the model's choice (notes/assumptions/19.md): R181 gives the lines no
exception from their reset values, and R142 gives the minimum to every cause. What a transaction of it shifts out is the model's record
(notes/assumptions/19.md). -/
def Obligations.ResetAllTaken : Prop :=
  ∀ (s : State) (f : HostFrame) (o : HostOwner), s.resetHeld = false → FrameOwner f o → o ≠ .none → f.payload = [] →
    (s.mc.speed < 10 → ∃ t, exec (.resetAll f) s = .next t ∧ t.ResetValues .resetAll ∧ t.now = s.now ∧
      t.hl.last = (0x41, .ok) ∧ t.hl.current = (0x41, .ok) ∧ ClocksReleased s t ∧
      (∀ g : GenId, (t.gen g).closedAt = if (s.gen g).isOpen then some s.now else (s.gen g).closedAt)) ∧
    (10 ≤ s.mc.speed → exec (.resetAll f) s = .next (answered f 0x41 .badState [] s))

/-! ### The host link -/

/-- Every request of a sound frame is answered (R170, R172, R173): the pending response is shifted out, the code and status of the request
before become the last status, and the new pending response is a frame of its code, as long as its payload and four bytes, over which the
CRC of section 10.8 comes to 0. RESET_ALL taken is the exception. -/
def Obligations.EveryRequestIsAnswered : Prop :=
  ∀ (c : Instr) (code : Byte) (acc : Accepts) (f : HostFrame) (s : State),
    requestOfCommand c = some (code, acc, f) → s.resetHeld = false → f.wf = true →
    (code = 0x41 → 10 ≤ s.mc.speed) →
    ∃ t payload, exec c s = .next t ∧ t.hl.last = s.hl.current ∧ t.hl.current.1 = code ∧
      t.hl.shifted = shiftedOut s.hl.response (f.payload.length + 4 + f.extra) ∧
      t.hl.response = frameOf code t.hl.current.2 payload ∧
      t.hl.response.length = payload.length + 4 ∧ crc8 t.hl.response = 0

/-- R172, checks 1 to 4: a code that names no request is UNKNOWN, an owner byte above 2 BAD_FIELD, an owner the request does not accept
NOT_OWNER, and a payload whose length does not fit the fields of its request, for every one of the twenty-six, BAD_FIELD; nothing but the
response changes. Where section 10.8 leaves a field's width open, the lengths are the model's choice (notes/assumptions/21.md to 26.md).
R171: a transaction of too few bytes, of a length above 26, or with a wrong CRC is not carried out: CHECK with its code, and LINK is set.
That the command FRAME_CHECK_FAIL stands for a transaction given by its bytes, a sound frame of an unknown code among them, is the model's
choice (notes/assumptions/29.md). -/
def Obligations.FrameAndOwnerChecks : Prop :=
  (∀ (c : Instr) (code : Byte) (acc : Accepts) (f : HostFrame) (s : State),
    requestOfCommand c = some (code, acc, f) → s.resetHeld = false → f.wf = true →
    (2 < f.owner.toNat → exec c s = .next (answered f code .badField [] s)) ∧
    (∀ o, FrameOwner f o → acc.takes o = false → exec c s = .next (answered f code .notOwner [] s)) ∧
    (∀ o, FrameOwner f o → acc.takes o = true → ¬ PayloadFits code f.payload →
      exec c s = .next (answered f code .badField [] s))) ∧
  ∀ (bytes : List Byte) (code : Byte) (tail : List Byte) (s : State), s.resetHeld = false → bytes = code :: tail →
    ((bytes.length < 3 ∨
      (∃ o n rest, bytes = code :: o :: n :: rest ∧
        (26 < n.toNat ∨ rest.length < n.toNat + 1 ∨ rest[n.toNat]? ≠ some (crc8 (bytes.take (n.toNat + 3)))))) →
      ∃ t, exec (.frameCheckFail bytes) s = .next t ∧
        t = { s with hl := { s.hl with
          shifted := shiftedOut s.hl.response bytes.length
          last := s.hl.current
          response := frameOf code .check []
          current := (code, .check)
          flags := t.hl.flags } } ∧
        (∀ fl : Flag, t.flag fl = (decide (fl = .link) || s.flag fl))) ∧
    (∀ o n rest, bytes = code :: o :: n :: rest → n.toNat ≤ 26 →
      rest[n.toNat]? = some (crc8 (bytes.take (n.toNat + 3))) → knownCodes.contains code.toNat = false →
      exec (.frameCheckFail bytes) s = .next { s with hl := { s.hl with
        shifted := shiftedOut s.hl.response bytes.length
        last := s.hl.current
        response := frameOf code .unknown []
        current := (code, .unknown) } })

/-- R175: ACK_ATTENTION returns the flags as they stood, the mask and the cause, and clears the named flags alone; SET_ATTENTION_MASK
replaces the mask, changes no flag and returns the new mask. R173: LAST_STATUS returns the code and the status of the request taken just
before it. R178: SERVICE is taken from RUN when a SERVICE_LOCK is ACTIVE and the stationary flag is set and refused with BAD_STATE when
either fails; RUN is taken from SERVICE; the mode already held is answered ALREADY. R174: the attention line is active exactly while a
flag is both set and enabled and the reset input is not held. The byte of SET_MODE, 0 RUN and 1 SERVICE (notes/assumptions/25.md), and the
number of the reset cause (notes/assumptions/28.md) are the model's choices. -/
def Obligations.LinkStateRequests : Prop :=
  (∀ (s : State) (f : HostFrame) (o : HostOwner), s.resetHeld = false → FrameOwner f o →
    (∀ x : BitVec 11, f.payload = flagBytes x →
      exec (.ackAttention f) s =
        .next (answered f 0x24 .ok (flagBytes s.hl.flags ++ flagBytes s.hl.mask ++ u8 s.hl.cause.code)
          { s with hl := { s.hl with flags := s.hl.flags &&& ~~~ x } }) ∧
      exec (.setAttentionMask f) s =
        .next (answered f 0x25 .ok (flagBytes x) { s with hl := { s.hl with mask := x } })) ∧
    (f.payload = [] → exec (.lastStatus f) s = .next (answered f 0x26 .ok [s.hl.current.1, b1 s.hl.current.2.code] s))) ∧
  (∀ (s : State) (f : HostFrame), s.resetHeld = false → FrameOwner f .depot →
    (f.payload = [1] → s.hl.service = false → (∃ i r, s.recordAt i = some r ∧ r.kind = .serviceLock ∧ r.state = .active) →
      s.mc.stationary = true →
      exec (.setMode f) s = .next (answered f 0x22 .ok [] { s with hl := { s.hl with service := true } })) ∧
    (f.payload = [1] → s.hl.service = false →
      (s.mc.stationary = false ∨ ∀ i r, s.recordAt i = some r → r.kind = .serviceLock → r.state ≠ .active) →
      exec (.setMode f) s = .next (answered f 0x22 .badState [] s)) ∧
    (f.payload = [0] → s.hl.service = true →
      exec (.setMode f) s = .next (answered f 0x22 .ok [] { s with hl := { s.hl with service := false } })) ∧
    (f.payload = [if s.hl.service then 1 else 0] → exec (.setMode f) s = .next (answered f 0x22 .already [] s))) ∧
  ∀ s : State, s.attentionActive = true ↔
    s.resetHeld = false ∧ ∃ flag : Flag, s.hl.flags.getLsbD flag.bit = true ∧ s.hl.mask.getLsbD flag.bit = true

/-- R179: what a HEARTBEAT does in CONFIG and in each cell of the supervision table, and what it returns, the flags, the mask, the
supervision state, the configuration state and the device mode as they stood at its taking; and at the heartbeat timer's expiry the timer
stops and the run count is 0, and in state OK the state becomes LOST, PLAUS's SUPERVISION_LOST stands ACTIVE and the door release set is
empty (R165). That a HEARTBEAT in CONFIG starts no timer is the model's reading (notes/assumptions/18.md), and the numbering of the states
returned its choice (notes/assumptions/28.md). -/
def Obligations.Heartbeats : Prop :=
  (∀ (s : State) (f : HostFrame) (o : HostOwner) (bytes : List Byte), s.resetHeld = false → FrameOwner f o → f.payload = [] →
    bytes = u16 s.hl.flags.toNat ++ u16 s.hl.mask.toNat ++
      ([if s.hl.supervised then 0 else 1, if s.hl.configured then 1 else 0, if s.hl.service then 1 else 0] : List Byte) →
    (s.hl.configured = false → exec (.heartbeat f) s = .next (answered f 0x23 .ok bytes s)) ∧
    (s.hl.configured = true → s.hl.supervised = true →
      exec (.heartbeat f) s = .next (answered f 0x23 .ok bytes
        { s with hl := { s.hl with heartAt := some (s.now + 100 * ms) } })) ∧
    (s.hl.configured = true → s.hl.supervised = false → s.hl.heartAt = none →
      exec (.heartbeat f) s = .next (answered f 0x23 .ok bytes
        { s with hl := { s.hl with heartAt := some (s.now + 100 * ms), runCount := 0 } })) ∧
    (s.hl.configured = true → s.hl.supervised = false → s.hl.heartAt.isSome = true → s.hl.runCount < 9 →
      exec (.heartbeat f) s = .next (answered f 0x23 .ok bytes
        { s with hl := { s.hl with heartAt := some (s.now + 100 * ms), runCount := s.hl.runCount + 1 } })) ∧
    (s.hl.configured = true → s.hl.supervised = false → s.hl.heartAt.isSome = true → s.hl.runCount = 9 →
      ∃ t, exec (.heartbeat f) s = .next t ∧ t.hl.supervised = true ∧ t.hl.runCount = 0 ∧
        t.hl.heartAt = some (s.now + 100 * ms) ∧ t.hl.response = frameOf 0x23 .ok bytes ∧
        (s.find .supervisionLost .plaus = none → t.rt = s.rt) ∧
        ∀ i r, s.find .supervisionLost .plaus = some i → s.recordAt i = some r → s.GoesAtOnce i r → t.recordAt i = none)) ∧
  ∀ (s : State) (e : Nat), s.resetHeld = false → s.hl.heartAt = some e →
    (s.hl.supervised = false →
      exec .heartbeatTimerExpiry s = .next { s with now := max s.now e, hl := { s.hl with heartAt := none, runCount := 0 } }) ∧
    (s.hl.supervised = true → s.find .supervisionLost .plaus = none → (∃ i : Slot, 24 ≤ i.val ∧ s.recordAt i = none) →
      ProfileCond.fixed .ownerRelease ∈ (s.profile .supervisionLost).conds →
      ∃ t i r, exec .heartbeatTimerExpiry s = .next t ∧ t.hl.supervised = false ∧ t.hl.heartAt = none ∧ t.hl.runCount = 0 ∧
        t.recordAt i = some r ∧ r.FromRow .supervisionLost .plaus (s.profile .supervisionLost) ∧ t.dt.releaseSet = 0 ∧
        t.sp = s.sp ∧ t.mc = s.mc ∧ t.bc = s.bc ∧ t.js = s.js ∧ t.dl.ramp = s.dl.ramp)

/-! ### Configuration -/

/-- R176: CONFIG_DONE in CONFIGURED is answered ALREADY; in CONFIG it makes the part CONFIGURED, starts supervision, and sends a
START_HOLD that waits for nothing else to RELEASING. -/
def Obligations.ConfigDoneTaken : Prop :=
  ∀ (s : State) (f : HostFrame) (o : HostOwner), s.resetHeld = false → FrameOwner f o → f.payload = [] →
    (s.hl.configured = true → exec (.configDone f) s = .next (answered f 0x33 .already [] s)) ∧
    (s.hl.configured = false → ∃ t, exec (.configDone f) s = .next t ∧ t.hl.configured = true ∧ t.hl.supervised = true ∧
      t.hl.runCount = 0 ∧ t.hl.heartAt = some (s.now + 100 * ms) ∧ t.hl.response = frameOf 0x33 .ok [] ∧
      t.mc = s.mc ∧ t.sp = s.sp ∧ t.bc = s.bc ∧ t.js = s.js ∧ t.dl = s.dl ∧ t.dt = s.dt ∧
      (∀ i r, s.recordAt i = some r → r.kind = .startHold → r.state = .active → r.mode = .latched →
        r.conds = [.configDone, .allDoorsLocked] → (∀ d : Door, (s.line d).door = .locked) → s.hasChild i = false →
        0 < r.delay → ∃ q, t.recordAt i = some q ∧ q.state = .releasing ∧ q.releaseLeft = r.delay))

/-- WRITE_PARAM (R177): outside CONFIG and SERVICE it is BAD_STATE; a number or an index outside R177's table is BAD_FIELD; every value is
clamped to its range, stored and returned, CLAMPED when it had to be. R52: a write of circ or teeth sets the distance remainder and the
revolution counts to 0. R50: the reservoir thresholds are put in order, CLAMPED when that altered one, and a change is compared at once
with a VALID reservoir value. R119: a source outside 0 to 3 is BAD_FIELD, and a corner takes up a changed source of the context in hand.
That it does not in a LEVEL reset, whose end takes the sources up, is the model's reading (notes/assumptions/15.md). A comparator that
reads ABOVE under a threshold above 1180 (notes/assumptions/37.md) and the layout of the request and its response
(notes/assumptions/25.md) are the model's choices. -/
def Obligations.ParameterWrites : Prop :=
  ∀ (s : State) (f : HostFrame) (o : HostOwner) (n i a b : Byte) (v : Int), s.resetHeld = false → FrameOwner f o →
    f.payload = [n, i, a, b] → v = readS16 a b →
    (s.hl.configured = true → s.hl.service = false → exec (.writeParam f) s = .next (answered f 0x30 .badState [] s)) ∧
    (s.hl.configured = false ∨ s.hl.service = true →
      (∀ lo hi x, paramRange n.toNat i.toNat = some (lo, hi) → x = (clamp v lo hi).toNat →
        ∃ t, exec (.writeParam f) s = .next t ∧
          t = answered f 0x30 (if v < lo ∨ hi < v then .clamped else .ok) (u16 x) { s with
            hl := { s.hl with params := t.hl.params }
            mc := if n = 1 ∨ n = 2 then { s.mc with remainder := 0, revs := #v[0, 0, 0] } else s.mc } ∧
          ∀ m j, t.hl.params.stored m j = if m = n.toNat ∧ j = i.toNat then some x else s.hl.params.stored m j) ∧
      (paramRange n.toNat i.toNat = none → (n = 3 → 3 ≤ i.toNat) → (n = 11 → 18 ≤ i.toNat ∨ v < 0 ∨ 3 < v) →
        exec (.writeParam f) s = .next (answered f 0x30 .badField [] s)) ∧
      (∀ x r₀ l₀ c r l, n = 3 → i.toNat ≤ 2 → x = (clamp v 0 1200).toNat →
        r₀ = (if i = 0 then x else s.hl.params.reserve) → l₀ = (if i = 1 then x else s.hl.params.low) →
        c = (if i = 2 then x else s.hl.params.critical) → l = max l₀ c → r = max r₀ l →
        ∃ t, exec (.writeParam f) s = .next t ∧
          t.hl.response = frameOf 0x30 (if v < 0 ∨ 1200 < v ∨ l ≠ l₀ ∨ r ≠ r₀ then .clamped else .ok)
            (u16 r ++ u16 l ++ u16 c) ∧
          t.hl.params = { s.hl.params with reserve := r, low := l, critical := c } ∧ t.mc = s.mc ∧ t.bc = s.bc ∧
          t.js = s.js ∧ t.dl = s.dl ∧ t.dt = s.dt ∧
          (((s.sample 20).state ≠ .valid ∨ t.hl.params = s.hl.params) → t.sp = s.sp ∧ t.rt = s.rt ∧ t.lc = s.lc ∧
            t.hl.flags = s.hl.flags) ∧
          ((s.sample 20).state = .valid → t.hl.params ≠ s.hl.params →
            t.sp = { s.sp with reserve := comparatorAfter r (s.sample 20).value s.sp.reserve
                               low := comparatorAfter l (s.sample 20).value s.sp.low
                               critical := comparatorAfter c (s.sample 20).value s.sp.critical } ∧
            (t.flag .air = true ↔ s.flag .air = true ∨ t.sp ≠ s.sp))) ∧
      (∀ j : Fin 18, n = 11 → i.toNat = j.val → 0 ≤ v → v ≤ 3 →
        ∃ t x, exec (.writeParam f) s = .next t ∧
          x = (if v = 0 then Source.timer50 else if v = 1 then .timer1000 else if v = 2 then .axleRev16 else .none) ∧
          t = answered f 0x30 .ok (u16 v.toNat) { s with
            hl := { s.hl with params := { s.hl.params with sources := s.hl.params.sources.set j.val x } }
            lc := { s.lc with corners := t.lc.corners } } ∧
          (s.inReset .level = true → t.lc = s.lc) ∧
          (s.inReset .level = false → ∀ (c : Corner) (y : Source), y = sourceFor t c s.lc.context →
            t.corner c = if y = (s.corner c).source then s.corner c
              else { s.corner c with
                source := y
                sourceAt := match y with
                  | .timer50 => some (s.now + 50 * ms) | .timer1000 => some (s.now + 1000 * ms) | .axleRev16 | .none => none
                revs := 0 })))

/-- WRITE_PROFILE (R4) and WRITE_XLATE (R168): outside CONFIG and SERVICE both are BAD_STATE (R177). A profile write refuses a kind code
that is none, START_HOLD, a KNEEL variant that is none and a value the kind lacks with BAD_FIELD; else it clamps each value given and
changes that row alone, and of it the values given alone. A cell write refuses row 127, a context above 3, more than two actions and an
action that is none; else the cell named takes the actions given, in their order, and nothing else changes. That a scope written to KNEEL
with no variant named is the FRONT scope, and that the row of SENSOR_DEGRADE stores one, which PLAUS never uses, is the model's reading
(notes/assumptions/17.md). A kind code that is none, a variant byte of other kinds, and the payloads' layout are the model's choices
(notes/assumptions/23.md, 26.md). -/
def Obligations.ProfileAndCellWrites : Prop :=
  ∀ (s : State) (f : HostFrame) (o : HostOwner) (ready : Bool), s.resetHeld = false → FrameOwner f o → f.wf = true →
    ready = (!s.hl.configured || s.hl.service) →
    (∀ (kb xb a b : Byte) (rest : List Byte), f.payload = kb :: xb :: a :: b :: rest →
      (readProfileFields (readU16 a b) rest = none → exec (.writeProfile f) s = .next (answered f 0x31 .badField [] s)) ∧
      (∀ v, readProfileFields (readU16 a b) rest = some v →
        (ready = false → exec (.writeProfile f) s = .next (answered f 0x31 .badState [] s)) ∧
        (ready = true → readKind kb = none → exec (.writeProfile f) s = .next (answered f 0x31 .badField [] s)) ∧
        (∀ k, ready = true → readKind kb = some k →
          (k = .startHold ∨ (k = .kneel ∧ readVariant xb = none) ∨ suppliedOk (s.profile k) v = false →
            exec (.writeProfile f) s = .next (answered f 0x31 .badField [] s)) ∧
          (k ≠ .startHold → (k = .kneel → readVariant xb ≠ none) → suppliedOk (s.profile k) v = true →
            ∃ row side, exec (.writeProfile f) s = .next (answered f 0x31 (if anyClamped v then .clamped else .ok) []
                { s with rt := { s.rt with profiles := s.rt.profiles.set k.index.val row } }) ∧
              side = decide (k = .kneel ∧ readVariant xb = some (some .side)) ∧
              row.floor = (match v.floor with | some n => some (clamp n 0 800).toNat | none => (s.profile k).floor) ∧
              row.ceiling = (match v.ceiling with | some n => some (clamp n 0 800).toNat | none => (s.profile k).ceiling) ∧
              row.steer = (match v.steer with | some n => some (clamp n 0 140).toNat | none => (s.profile k).steer) ∧
              row.offset = (match v.offset with | some n => some (clamp n (-90) 0) | none => (s.profile k).offset) ∧
              row.delay = (match v.delay with | some n => (clamp n 0 5000).toNat | none => (s.profile k).delay) ∧
              row.swing = (match v.swing with | some n => some (clamp n 0 300).toNat | none => (s.profile k).swing) ∧
              row.armTimeout = (match v.armTimeout with | some n => (clamp n 0 60000).toNat | none => (s.profile k).armTimeout) ∧
              row.conds = (match v.conds with
                | some cs => ((mergeConds cs).getD []).map ProfileCond.fixed
                | none => (s.profile k).conds) ∧
              row.damping = (s.profile k).damping ∧
              row.scope = (if side then (s.profile k).scope else v.scope.getD (s.profile k).scope) ∧
              row.scopeSide = (if side then v.scope.getD (s.profile k).scopeSide else (s.profile k).scopeSide))))) ∧
    (∀ (row x n : Byte) (rest : List Byte), f.payload = row :: x :: n :: rest →
      (rest.length ≠ 3 * n.toNat → exec (.writeXlate f) s = .next (answered f 0x32 .badField [] s)) ∧
      (rest.length = 3 * n.toNat →
        (ready = false → exec (.writeXlate f) s = .next (answered f 0x32 .badState [] s)) ∧
        (ready = true → row = 127 ∨ 4 ≤ x.toNat ∨ 2 < n.toNat ∨ readActions rest = none →
          exec (.writeXlate f) s = .next (answered f 0x32 .badField [] s)) ∧
        (∀ (y : Context) (actions : List Action), ready = true → row ≠ 127 → x = b1 y.index.val → n.toNat ≤ 2 →
          readActions rest = some actions →
          ∃ t, exec (.writeXlate f) s = .next (answered f 0x32 .ok [] t) ∧
            t = { s with dt := { s.dt with cells := t.dt.cells } } ∧ cellAt t row.toFin y = actions ∧
            ∀ (r : Fin 256) (z : Context), (r ≠ row.toFin ∨ z ≠ y) → cellAt t r z = cellAt s r z)))

/-! ### Group resets -/

/-- The start of a BRAKE and of a JOINT reset (R98, R138, R75, R180); BRAKE at a speed of 10 or more is refused; and a group already in
reset has its count set anew and nothing else. The payload's layout is the model's choice (notes/assumptions/25.md). -/
def Obligations.ResetGroupStarts : Prop :=
  ∀ (s : State) (f : HostFrame) (o : HostOwner) (time : Nat), s.resetHeld = false → FrameOwner f o → o ≠ .none →
    1 ≤ time → time ≤ 255 →
    (f.payload = [0, 0, b1 time] → s.mc.speed < 10 → s.inReset .brake = false →
      ∃ t, exec (.resetGroup f) s = .next t ∧ t.hl.response = frameOf 0x40 .ok [] ∧
        t.hl.resets = s.hl.resets.set 0 (some (s.now + time * ms)) ∧
        (∀ c : Corner, t.bc.channels[c.val].run = .held ∧ t.bc.channels[c.val].slip = .follow ∧
          t.bc.channels[c.val].target = none ∧ t.bc.channels[c.val].holdCount = 0 ∧ t.bc.channels[c.val].slipValue = 0 ∧
          t.bc.channels[c.val].command = .none ∧ (t.gen (.apply c)).prog = .idle ∧ (t.gen (.apply c)).isOpen = false ∧
          (t.gen (.brakeExhaust c)).prog = .idle ∧ (t.gen (.brakeExhaust c)).isOpen = false) ∧
        (∀ a : Axle, t.bc.axles[a.val] = { s.bc.axles[a.val] with latch := none, lastFree := none }) ∧
        t.bc.disagreement = false ∧ t.bc.demand = s.bc.demand ∧ t.bc.cycleAt = s.bc.cycleAt ∧
        t.valves.level = s.valves.level ∧ t.valves.steer = s.valves.steer ∧ t.valves.damping = s.valves.damping ∧
        t.rt = s.rt ∧ t.eu = s.eu ∧ t.sp = s.sp ∧ t.mc = s.mc ∧ t.lc = s.lc ∧ t.js = s.js ∧ t.dl = s.dl ∧ t.dt = s.dt) ∧
    (f.payload = [0, 0, b1 time] → 10 ≤ s.mc.speed → exec (.resetGroup f) s = .next (answered f 0x40 .badState [] s)) ∧
    (f.payload = [2, 0, b1 time] → s.inReset .joint = false →
      ∃ t, exec (.resetGroup f) s = .next t ∧ t.hl.response = frameOf 0x40 .ok [] ∧
        t.hl.resets = s.hl.resets.set 2 (some (s.now + time * ms)) ∧
        t.js.target = 0 ∧ t.js.command = 0 ∧ t.js.locked = true ∧ t.js.engaged = true ∧ t.js.previous = none ∧
        t.js.state = s.js.state ∧ t.js.clear = s.js.clear ∧ t.js.damping = s.js.damping ∧
        (t.gen .kerbward).prog = .idle ∧ (t.gen .offward).prog = .idle ∧ (t.gen .damping).prog = .idle ∧
        t.valves.brake = s.valves.brake ∧ t.valves.level = s.valves.level ∧
        t.rt = s.rt ∧ t.eu = s.eu ∧ t.sp = s.sp ∧ t.mc = s.mc ∧ t.bc = s.bc ∧ t.lc = s.lc ∧ t.dl = s.dl ∧ t.dt = s.dt) ∧
    (∀ g : Group, f.payload = [b1 (Group.index g).val, 0, b1 time] → s.inReset g = true → (g = .brake → s.mc.speed < 10) →
      exec (.resetGroup f) s = .next (answered f 0x40 .ok []
        { s with hl := { s.hl with resets := s.hl.resets.set (Group.index g).val (some (s.now + time * ms)) } }))

/-- The starts of a DOORS, a LEVEL and a SENSE reset (R154, R122, R65): what each block of the group sets, and that the other blocks' work
is left. A door that was not UNKNOWN sets DOOR and asserts the drive-inhibit line. LEVEL keeps the phases and the recovery windows, as
R122 has it (notes/assumptions/38.md). SENSE is shown before CONFIG_DONE. The payload's layout is the model's choice
(notes/assumptions/25.md). -/
def Obligations.DoorsLevelSenseResetsStart : Prop :=
  ∀ (s : State) (f : HostFrame) (o : HostOwner) (time : Nat), s.resetHeld = false → FrameOwner f o → o ≠ .none →
    1 ≤ time → time ≤ 255 →
    (f.payload = [3, 0, b1 time] → s.inReset .doors = false →
      ∃ t, exec (.resetGroup f) s = .next t ∧ t.hl.response = frameOf 0x40 .ok [] ∧ t.inReset .doors = true ∧
        (∀ d : Door, (t.line d).present = (s.line d).present ∧ (t.line d).activity = .listening ∧
          (t.line d).holding = none ∧ (t.line d).prefixPending = false ∧ (t.line d).queue = [] ∧ (t.line d).attempts = 0 ∧
          (t.line d).sendWait = false ∧ (t.line d).errors = 0 ∧ (t.line d).door = .unknown ∧ (t.line d).clockLow = true ∧
          (t.line d).dataLow = false ∧ (t.line d).send = none ∧ t.dt.prefixAt[d.val] = none) ∧
        t.dl.ramp = .unknown ∧ t.dt.releaseSet = s.dt.releaseSet ∧ t.dt.ignored = s.dt.ignored ∧ t.dt.cells = s.dt.cells ∧
        ((∃ d : Door, (s.line d).door ≠ .unknown) → t.eu.inhibit = true ∧ t.flag .door = true) ∧
        t.sp = s.sp ∧ t.mc = s.mc ∧ t.bc = s.bc ∧ t.js = s.js) ∧
    (f.payload = [1, 0, b1 time] → s.inReset .level = false →
      ∃ t, exec (.resetGroup f) s = .next t ∧ t.hl.response = frameOf 0x40 .ok [] ∧ t.inReset .level = true ∧
        (∀ c : Corner, t.granted c = false ∧ (t.corner c).waiting = none ∧ (t.corner c).sum = 0 ∧ (t.corner c).count = 0 ∧
          (t.corner c).last = none ∧ (t.corner c).sourceAt = none ∧ (t.corner c).revs = 0 ∧ (t.corner c).strobe = false ∧
          (t.corner c).phase = (s.corner c).phase ∧ (t.corner c).recoveryAt = (s.corner c).recoveryAt ∧
          (t.corner c).check = (if (s.corner c).check = .degraded then .degraded else .normal) ∧
          (t.gen (.fill c)).prog = .idle ∧ (t.gen (.fill c)).isOpen = false ∧
          (t.gen (.cornerExhaust c)).prog = .idle ∧ (t.gen (.cornerExhaust c)).isOpen = false) ∧
        t.lc.haltAt = none ∧ t.lc.resumePending = false ∧ t.lc.rising = s.lc.rising ∧
        t.valves.brake = s.valves.brake ∧ t.valves.steer = s.valves.steer ∧ t.valves.damping = s.valves.damping ∧
        t.rt = s.rt ∧ t.eu = s.eu ∧ t.sp = s.sp ∧ t.mc = s.mc ∧ t.bc = s.bc ∧ t.js = s.js ∧ t.dl = s.dl ∧ t.dt = s.dt) ∧
    (f.payload = [4, 0, b1 time] → s.inReset .sense = false → s.hl.configured = false →
      ∃ t, exec (.resetGroup f) s = .next t ∧ t.hl.response = frameOf 0x40 .ok [] ∧ t.inReset .sense = true ∧
        (∀ ch : Channel, t.sample ch = ⟨0, .stale, none⟩) ∧ t.sp.discards = 0 ∧ t.sp.reserve = .below ∧
        t.sp.low = .below ∧ t.sp.critical = .below ∧
        (∀ a : Angle, (t.angle a).count = 0 ∧ (t.angle a).calibrated = false ∧ (t.angle a).valid = true ∧
          (t.angle a).illegal = [] ∧ (t.angle a).illegalTotal = 0) ∧
        (t.mc.wheels = s.mc.wheels ∧ t.mc.speed = s.mc.speed ∧ t.mc.moving = s.mc.moving ∧
          t.mc.stationary = s.mc.stationary ∧ t.mc.trip = s.mc.trip) ∧
        t.rt = s.rt ∧ t.eu = s.eu ∧ t.bc = s.bc ∧ t.js = s.js ∧ t.dl = s.dl ∧ t.dt = s.dt)

/-- R180: at the end of its count a group's reset ends. BRAKE, JOINT and SENSE leave all else as it is; DOORS releases every clock and
queues each module's permission and QUERY_STATE (R155, R166). LEVEL takes phases and offsets from the envelope, forms its context, starts
every corner's source of it, settles every sensor check against the corner's height record, and reports risen every entry of the rising
list whose corners are all LEVEL (R123, R116), which marks its record risen, or retires it when its release has run out. The phases and
the reports are shown where PLAUS has nothing to act on, before CONFIG_DONE or at an unchanged degraded-sensor set. -/
def Obligations.GroupResetEnds : Prop :=
  ∀ (s : State) (e : Nat), s.resetHeld = false →
    (∀ g : Group, g = .brake ∨ g = .joint ∨ g = .sense → s.hl.resets[(Group.index g).val] = some e →
      exec (.groupResetEnd g) s = .next { s with
        now := max s.now e
        hl := { s.hl with resets := s.hl.resets.set (Group.index g).val none } }) ∧
    (s.hl.resets[3] = some e → (∀ d : Door, (s.line d).activity = .listening ∧ (s.line d).queue = [] ∧
        (s.line d).minimumAt = none) →
      ∃ t, exec (.groupResetEnd .doors) s = .next t ∧ t.inReset .doors = false ∧ OnlyDoors s t ∧
        (∀ d : Door, (t.line d).clockLow = false ∧
          (t.line d).queue = [if s.isReleased d then .permit else .withhold, .queryState] ∧
          (t.line d).door = (s.line d).door ∧ (t.line d).present = (s.line d).present) ∧ t.dt = s.dt) ∧
    (∀ x : LevelContext, x = s.formedContext → s.hl.resets[1] = some e →
      ∃ t, exec (.groupResetEnd .level) s = .next t ∧ t.now = max s.now e ∧ t.inReset .level = false ∧
        t.sp = s.sp ∧ t.mc = s.mc ∧ t.bc = s.bc ∧ t.js = s.js ∧ t.dl = s.dl ∧ t.dt = s.dt ∧
        t.lc.context = x ∧
        (∀ c : Corner, (t.corner c).source = sourceFor s c x ∧ (t.corner c).revs = 0 ∧
          (t.corner c).sourceAt = (match sourceFor s c x with
            | .timer50 => some (t.now + 50 * ms) | .timer1000 => some (t.now + 1000 * ms) | .axleRev16 | .none => none) ∧
          (t.corner c).offset = t.eu.env.offsets[c.val] ∧ s.HeightMet t c (s.heightRecord c)) ∧
        (s.hl.configured = false ∨
            (s.PlausCurrent ∧ ∀ c : Corner,
              checkAfter (s.corner c).check (s.corner c).recoveryAt.isSome (s.heightRecord c) = (s.corner c).check) →
          ∀ (low : Corner → Bool) (risen : List RisingEntry),
            (∀ c, low c = true ↔ s.eu.env.offsets[c.val] ≠ 0) →
            risen = (s.lc.rising.filter fun entry => (List.finRange 6).all fun c => !entry.scope.has c || !low c) →
            ((s.lc.rising.map (·.handle)).Nodup → (∀ entry ∈ risen, ∃ r, s.names entry.handle = true ∧ s.recordAt entry.handle.slot = some r ∧ r.state = .releasing ∧
                (0 < r.releaseLeft ∨ (0 < r.distLeft ∧ r.steer ≠ none))) →
              t.eu = s.eu ∧ t.rt.changeCount = s.rt.changeCount ∧
              t.lc.rising = s.lc.rising.filter (fun entry => entry ∉ risen) ∧
              (∀ c, (t.corner c).phase = if low c then .lowering else .level) ∧
              (∀ i : Slot, t.rt.slots[i.val].gen = s.rt.slots[i.val].gen ∧
                t.recordAt i = (s.recordAt i).map fun r =>
                  if ∃ entry ∈ risen, entry.handle = s.handleAt i then { r with risen := true } else r)) ∧
            (∀ entry r, s.lc.rising = [entry] → risen = [entry] → s.names entry.handle = true →
              s.recordAt entry.handle.slot = some r → r.state = .releasing → r.releaseLeft = 0 → r.distLeft = 0 ∨ r.steer = none →
              r.parent = none → (∀ j q, s.recordAt j = some q → Cond.noKneel ∉ q.conds) →
              t.lc.rising = [] ∧ FreesOnly entry.handle.slot s t ∧ t.flag .record = true ∧
                (s.EnvelopeLaw → ∀ c, (t.corner c).phase = if low c then .lowering else .level))))

/-! ### Records -/

/-- R7, R10: a placement that passes R5 creates a record in the lowest free slot of its owner's class, with the values given or the
profile's, ARMED or ACTIVE by its trigger, and answers its handle. A record that lists OWNER_RELEASE stays as placed. Placed under a
parent, it returns a RELEASING parent to ACTIVE and leaves an ACTIVE one as it is (R9). One that is no KNEEL and has no parent changes no
other record and no block but the envelope. How a payload is read where section 10.8 leaves it open is the model's choice
(notes/assumptions/21.md to 23.md). -/
def Obligations.PlaceCreatesRecord : Prop :=
  ∀ (s : State) (f : HostFrame) (o : HostOwner) (w : Owner) (k : Kind) (x a b : Byte) (rest : List Byte) (v : Supplied)
    (parent : Option (Option Handle)) (ph : Option Handle) (depth : Nat) (p : Placement) (i : Slot),
    s.resetHeld = false → f.wf = true → FrameOwner f o → o.record = some w →
    f.payload = b1 k.code :: x :: a :: b :: rest → readPlaceFields (readU16 a b) rest = some (v, parent) →
    (k = .kneel → readVariant x ≠ none) →
    p = { kind := k, owner := w, variant := (readVariant x).getD none, supplied := v, parent := parent } →
    k.permits w = true → suppliedOk (s.profile k) v = true → s.find k w = none → checkParent s parent = .ok (ph, depth) →
    freeSlotFor s w = some i → Cond.ownerRelease ∈ placedConds (s.profile k) p →
    ∃ t r, exec (.place f) s = .next t ∧
      t.hl.response = frameOf 0x01 (if anyClamped v then .clamped else .ok) [b1 (i.val + 1), b1 s.rt.slots[i.val].gen.toNat] ∧
      t.recordAt i = some r ∧ t.rt.slots[i.val].gen = s.rt.slots[i.val].gen ∧
      (r.kind = k ∧ r.owner = w ∧ r.mode = k.mode ∧ r.trigger = k.trigger ∧ r.parent = ph ∧ r.depth = depth ∧
        r.ownerRelease = false) ∧
      r.state = (if k.trigger = .stationary ∧ s.mc.stationary = false then .armed else .active) ∧
      r.floor = (match v.floor with | some n => some (clamp n 0 800).toNat | none => (s.profile k).floor) ∧
      r.ceiling = (match v.ceiling with | some n => some (clamp n 0 800).toNat | none => (s.profile k).ceiling) ∧
      r.steer = (match v.steer with | some n => some (clamp n 0 140).toNat | none => (s.profile k).steer) ∧
      r.offset = (match v.offset with | some n => some (clamp n (-90) 0) | none => (s.profile k).offset) ∧
      r.delay = (match v.delay with | some n => (clamp n 0 5000).toNat | none => (s.profile k).delay) ∧
      r.swing = (match v.swing with | some n => some (clamp n 0 300).toNat | none => (s.profile k).swing) ∧
      r.armTimeout = (match v.armTimeout with | some n => (clamp n 0 60000).toNat | none => (s.profile k).armTimeout) ∧
      r.scope = (match v.scope with
        | some y => y
        | none => if k = .kneel ∧ readVariant x = some (some .side) then (s.profile k).scopeSide else (s.profile k).scope) ∧
      r.conds = placedConds (s.profile k) p ∧
      (r.state = .armed → r.armTimeout ≠ 0 → r.armAt = some (s.now + r.armTimeout * ms)) ∧
      BlocksKept s t ∧ t.EnvelopeLaw ∧
      (∀ h q, ph = some h → s.recordAt h.slot = some q → q.state ≠ .armed →
        t.recordAt h.slot = some (if q.state = .releasing then q.returned else q)) ∧
      (k ≠ .kneel → ph = none → s.EnvelopeLaw → ChangesOnly i r s t ∧ OnlyRecords s t)

/-- R5 and R6: the placements that create nothing. A kind or a KNEEL variant that is none is BAD_FIELD, an owner the kind does not permit
NOT_OWNER, a value the kind lacks BAD_FIELD; a live record of the kind and owner answers ALREADY, or is revived when RELEASING; a parent
handle that is stale is STALE, an ARMED parent BAD_STATE, one of JOINT or PLAUS NOT_OWNER and one of depth 4 DEPTH; and with no slot of
the class free it is FULL. Payloads are read as notes/assumptions/22.md and 23.md say (the model's choice). -/
def Obligations.PlaceMeetsLiveRecord : Prop :=
  ∀ (s : State) (f : HostFrame) (o : HostOwner) (w : Owner) (c x a b : Byte) (rest : List Byte) (v : Supplied)
    (parent : Option (Option Handle)),
    s.resetHeld = false → f.wf = true → FrameOwner f o → o.record = some w →
    f.payload = c :: x :: a :: b :: rest → readPlaceFields (readU16 a b) rest = some (v, parent) →
    (readKind c = none → exec (.place f) s = .next (answered f 0x01 .badField [] s)) ∧
    (∀ k, readKind c = some k →
      (k.permits w = false → exec (.place f) s = .next (answered f 0x01 .notOwner [] s)) ∧
      (k.permits w = true → k = .kneel → readVariant x = none → exec (.place f) s = .next (answered f 0x01 .badField [] s)) ∧
      (k.permits w = true → (k = .kneel → readVariant x ≠ none) →
        (suppliedOk (s.profile k) v = false → exec (.place f) s = .next (answered f 0x01 .badField [] s)) ∧
        (∀ ph, suppliedOk (s.profile k) v = true → s.find k w = none → parent = some ph →
          ((∀ h, ph = some h → s.names h = false) → exec (.place f) s = .next (answered f 0x01 .stale [] s)) ∧
          (∀ h q, ph = some h → s.names h = true → s.recordAt h.slot = some q →
            (q.state = .armed → exec (.place f) s = .next (answered f 0x01 .badState [] s)) ∧
            (q.state ≠ .armed → q.owner = .joint ∨ q.owner = .plaus →
              exec (.place f) s = .next (answered f 0x01 .notOwner [] s)) ∧
            (q.state ≠ .armed → q.owner ≠ .joint → q.owner ≠ .plaus → 4 ≤ q.depth →
              exec (.place f) s = .next (answered f 0x01 .depth [] s)))) ∧
        (suppliedOk (s.profile k) v = true → s.find k w = none →
          (parent = none ∨ ∃ h q, parent = some (some h) ∧ s.names h = true ∧ s.recordAt h.slot = some q ∧ q.state ≠ .armed ∧
            q.owner ≠ .joint ∧ q.owner ≠ .plaus ∧ q.depth ≤ 3) →
          (∀ j : Slot, j.val < 24 → s.recordAt j ≠ none) → exec (.place f) s = .next (answered f 0x01 .full [] s)) ∧
        (∀ i r, suppliedOk (s.profile k) v = true → s.find k w = some i → s.recordAt i = some r →
          (r.state ≠ .releasing →
            exec (.place f) s = .next (answered f 0x01 .already [b1 (i.val + 1), b1 s.rt.slots[i.val].gen.toNat] s)) ∧
          (r.state = .releasing → Cond.ownerRelease ∈ r.conds →
            ∃ t q, exec (.place f) s = .next t ∧
              t.hl.response = frameOf 0x01 .revived [b1 (i.val + 1), b1 s.rt.slots[i.val].gen.toNat] ∧
              q = { r with state := .active, ownerRelease := false, releaseLeft := 0, distLeft := 0, risen := false,
                           stepAt := none } ∧
              t.recordAt i = some q ∧ BlocksKept s t ∧ t.EnvelopeLaw ∧
              (k ≠ .kneel → s.EnvelopeLaw → ChangesOnly i q s t ∧ t.valves = s.valves)))))

/-- R26, R182 and section 10.8: QUERY returns a page of the record image of the handle's record, of 34 bytes, each field of which is
spelled out, or STALE; FIND the handle of the live record of a kind and an owner, or handle 0; LIST the state of every slot, two bits
each, and the change count. None changes anything. (An arm time left, rounded down to ms: notes/assumptions/30.md. FIND of a code that is
no kind or owner: notes/assumptions/25.md.) -/
def Obligations.TableReads : Prop :=
  ∀ (s : State) (f : HostFrame) (o : HostOwner), s.resetHeld = false → FrameOwner f o →
    (∀ a b page i r, f.payload = [a, b, page] → named s a b = some (i, r) →
      ∃ image : List Byte,
        image = [b1 (i.val + 1), b1 s.rt.slots[i.val].gen.toNat, b1 r.kind.code,
            (match r.owner with
              | .driver => 1 | .depot => 2 | .door d => b1 (d.val + 3) | .joint => 7 | .plaus => 8),
            (match r.state with | .armed => 1 | .active => 2 | .releasing => 3),
            b1 ((if r.mode = .latched then 1 else 0) + (if r.trigger = .stationary then 2 else 0) +
              (if r.ownerRelease then 4 else 0) + (if r.risen then 8 else 0)),
            b1 ((if r.floor = none then 0 else 1) + (if r.ceiling = none then 0 else 2) + (if r.steer = none then 0 else 4) +
              (if r.offset = none then 0 else 8) + (if r.damping = none then 0 else 16) + (if r.swing = none then 0 else 32) +
              (if r.parent = none then 0 else 64)),
            r.scope.setWidth 8]
          ++ u16 (r.floor.getD 0) ++ u16 (r.ceiling.getD 0)
          ++ ([b1 (r.steer.getD 0), BitVec.ofInt 8 (r.offset.getD 0), b1 (r.damping.getD 0)] : List Byte)
          ++ u16 r.delay ++ u16 (r.swing.getD 0) ++ u16 r.armTimeout
          ++ (r.conds.map fun c => (match c with
            | .ownerRelease => 1 | .allDoorsLocked => 2 | .rampStowed => 3 | .noKneel => 4 | .configDone => 5
            | .doorLocked d => b1 (0x11 + d.val) : Byte))
          ++ List.replicate (4 - r.conds.length) (0 : Byte)
          ++ ((match r.parent with | some h => [b1 (h.slot.val + 1), b1 h.gen.toNat] | none => [0, 0]) : List Byte)
          ++ [b1 r.depth] ++ u16 (match r.armAt with | some e => (e - s.now) / 1000 | none => 0)
          ++ u16 r.releaseLeft ++ u16 r.distLeft ∧
        (r.conds.length ≤ 4 → image.length = 34) ∧
        (page.toNat ≤ 3 → 26 * page.toNat < image.length →
          exec (.query f) s = .next (answered f 0x02 .ok ((image.drop (26 * page.toNat)).take 26) s)) ∧
        (3 < page.toNat ∨ image.length ≤ 26 * page.toNat → exec (.query f) s = .next (answered f 0x02 .badField [] s))) ∧
    (∀ a b page, f.payload = [a, b, page] → named s a b = none →
      exec (.query f) s = .next (answered f 0x02 .stale [] s)) ∧
    (∀ k w, f.payload = [b1 k.code, b1 w.code] →
      (∀ i, s.find k w = some i →
        exec (.find f) s = .next (answered f 0x03 .ok [b1 (i.val + 1), b1 s.rt.slots[i.val].gen.toNat] s)) ∧
      (s.find k w = none → exec (.find f) s = .next (answered f 0x03 .ok [0, 0] s))) ∧
    (f.payload = [] → ∃ states, states.length = 8 ∧
      exec (.list f) s = .next (answered f 0x04 .ok (states ++ [b1 (s.rt.changeCount.toNat / 256), b1 s.rt.changeCount.toNat]) s) ∧
      ∀ i : Slot, ∃ y, states[i.val / 4]? = some y ∧ y.toNat / 4 ^ (i.val % 4) % 4 =
        (match s.recordAt i with | none => 0 | some r => match r.state with | .armed => 1 | .active => 2 | .releasing => 3))

/-- R23 to R25: AMEND. Each change is accepted of a record that holds the field, and changes that one field, in its range; in RELEASING a
new delay and a new swing distance bound what is left to run. A batch whose entries all leave their records in their state, ARMED or
waiting for their owner, is applied entry by entry, each on the table the ones before have left; a refused entry stops it, and the entries
before it stand. An ACTIVE record stays so while a condition of it fails, and goes to RELEASING when the change leaves every one holding;
a RELEASING record that is given a condition that fails returns to ACTIVE when it is FOLLOWING, for OWNER_RELEASE too, which is the
model's reading (notes/assumptions/12.md); one that has nothing left to run retires. Shown for single entries and no KNEEL where a record
leaves its state. A batch of no entry or of more than four is BAD_FIELD. The layout of the batch and of its response is the model's choice
(notes/assumptions/24.md). -/
def Obligations.AmendOwnRecord : Prop :=
  (∀ r : Record,
    (∀ v, (Change.floor v).accepted r = r.floor.isSome ∧
      (Change.floor v).apply r = { r with floor := some (clamp v 0 800).toNat }) ∧
    (∀ v, (Change.ceiling v).accepted r = r.ceiling.isSome ∧
      (Change.ceiling v).apply r = { r with ceiling := some (clamp v 0 800).toNat }) ∧
    (∀ v, (Change.steer v).accepted r = r.steer.isSome ∧
      (Change.steer v).apply r = { r with steer := some (clamp v 0 140).toNat }) ∧
    (∀ v, (Change.offset v).accepted r = r.offset.isSome ∧
      (Change.offset v).apply r = { r with offset := some (clamp v (-90) 0) }) ∧
    (∀ v n, n = (clamp v 0 5000).toNat → (Change.delay v).accepted r = true ∧
      (Change.delay v).apply r = { r with
        delay := n, releaseLeft := if r.state = .releasing then min r.releaseLeft n else r.releaseLeft }) ∧
    (∀ v n, n = (clamp v 0 300).toNat → (Change.swing v).accepted r = r.swing.isSome ∧
      (Change.swing v).apply r = { r with
        swing := some n, distLeft := if r.state = .releasing then min r.distLeft (100 * n) else r.distLeft }) ∧
    (∀ x, (Change.scope x).accepted r = true ∧ (Change.scope x).apply r = { r with scope := x }) ∧
    (∀ c, ((Change.add (some c)).accepted r = true ↔ c ∈ r.conds ∨ r.conds.length < 4) ∧
      (Change.add (some c)).apply r = { r with conds := if c ∈ r.conds then r.conds else r.conds ++ [c] }) ∧
    (∀ c, ((Change.remove (some c)).accepted r = true ↔ c ∈ r.conds) ∧
      (Change.remove (some c)).apply r = { r with conds := r.conds.filter fun x => decide (x ≠ c) }) ∧
    (Change.add none).accepted r = false ∧ (Change.remove none).accepted r = false ∧ Change.unknown.accepted r = false) ∧
  ∀ (s : State) (f : HostFrame) (o : HostOwner) (w : Owner) (n : Byte) (rest : List Byte) (es : List AmendEntry),
    s.resetHeld = false → f.wf = true → FrameOwner f o → o.record = some w → f.payload = n :: rest →
    readEntries n.toNat rest = some es →
    (n = 0 ∨ 4 < n.toNat → exec (.amend f) s = .next (answered f 0x05 .badField [0, 0xFF] s)) ∧
    (n ≠ 0 → n.toNat ≤ 4 →
      (SteadyBatch w es s.rt.slots → ∃ t, exec (.amend f) s = .next t ∧
        t.hl.response = frameOf 0x05 (if ∃ e ∈ es, e.change.clamped = true then .clamped else .ok) [n, 0xFF] ∧
        t.rt = { s.rt with slots := putEntries es s.rt.slots } ∧ BlocksKept s t ∧ t.EnvelopeLaw) ∧
      (∀ pre e post st, es = pre ++ e :: post → SteadyBatch w pre s.rt.slots →
        e.Refused w (putEntries pre s.rt.slots) st → ∃ t, exec (.amend f) s = .next t ∧
          t.hl.response = frameOf 0x05 st [b1 pre.length, b1 pre.length] ∧
          t.rt = { s.rt with slots := putEntries pre s.rt.slots } ∧ BlocksKept s t ∧ (s.EnvelopeLaw → t.EnvelopeLaw) ∧
          (pre = [] → t = answered f 0x05 st [0, 0] s)) ∧
      (∀ e h r q, es = [e] → e.handle = some h → s.names h = true → s.recordAt h.slot = some r → r.owner = w →
        e.change.accepted r = true → q = e.change.apply r → r.kind ≠ .kneel →
        ∃ t, exec (.amend f) s = .next t ∧ BlocksKept s t ∧ t.EnvelopeLaw ∧
          t.hl.response = frameOf 0x05 (if e.change.clamped then .clamped else .ok) [1, 0xFF] ∧
          (r.state = .active → (∀ c ∈ q.conds, condHolds s h.slot q c = true) → s.hasChild h.slot = false →
            (q.Lingers → ChangesOnly h.slot (q.released s.now) s t) ∧
            (¬ q.Lingers → r.parent = none → FreesOnly h.slot s t ∧ t.flag .record = true)) ∧
          (r.state = .active → (∃ c ∈ q.conds, condHolds s h.slot q c = false) ∨ s.hasChild h.slot = true →
            ChangesOnly h.slot q s t) ∧
          (∀ c, r.state = .releasing → r.mode = .following → e.change = .add (some c) → c ∉ r.conds →
            condHolds s h.slot r c = false → ChangesOnly h.slot q.returned s t) ∧
          (r.state = .releasing →
            (∀ c, r.mode = .following → e.change = .add (some c) → c ∈ r.conds ∨ condHolds s h.slot r c = true) →
            (q.releaseLeft = 0 → q.distLeft = 0 ∨ q.steer = none → r.parent = none →
              FreesOnly h.slot s t ∧ t.flag .record = true) ∧
            (0 < q.releaseLeft ∨ (0 < q.distLeft ∧ q.steer ≠ none) → ChangesOnly h.slot q s t))))

/-- R21: what RETIRE does with an owner's record by its state, and whom it refuses. An ACTIVE record that is no KNEEL and waits for
nothing else enters RELEASING, where one with no delay and no distance to wait for, and no parent, retires within the request (R13, R17,
R18). -/
def Obligations.RetireRequest : Prop :=
  ∀ (s : State) (f : HostFrame) (o : HostOwner) (a b : Byte), s.resetHeld = false → FrameOwner f o → o ≠ .none →
    f.payload = [a, b] →
    (named s a b = none → exec (.retire f) s = .next (answered f 0x06 .stale [] s)) ∧
    (∀ i r, named s a b = some (i, r) →
      (some r.owner ≠ o.record → exec (.retire f) s = .next (answered f 0x06 .notOwner [] s)) ∧
      (some r.owner = o.record → (r.state = .releasing ∨ (r.state = .active ∧ r.ownerRelease = true)) →
        exec (.retire f) s = .next (answered f 0x06 .already [] s)) ∧
      (some r.owner = o.record → r.state = .active → r.ownerRelease = false →
        (∃ d : Door, (s.line d).door ≠ .locked ∧ (Cond.doorLocked d ∈ r.conds ∨ Cond.allDoorsLocked ∈ r.conds)) →
        exec (.retire f) s = .next (answered f 0x06 .ok [] { s with rt := { s.rt with
          slots := s.rt.slots.set i.val ⟨s.rt.slots[i.val].gen, some { r with ownerRelease := true }⟩ } })) ∧
      (some r.owner = o.record → r.state = .active → r.ownerRelease = false → r.kind ≠ .kneel →
        (∀ c ∈ r.conds, c = .ownerRelease ∨ condHolds s i r c = true) → s.hasChild i = false →
        ∃ t, exec (.retire f) s = .next t ∧ t.hl.response = frameOf 0x06 .ok [] ∧ BlocksKept s t ∧ t.EnvelopeLaw ∧
          (r.Lingers → ChangesOnly i ({ r with ownerRelease := true }.released s.now) s t ∧ (s.EnvelopeLaw → OnlyRecords s t)) ∧
          (¬ r.Lingers → r.parent = none → FreesOnly i s t ∧ t.flag .record = true)) ∧
      (some r.owner = o.record → r.state = .armed → r.kind ≠ .kneel → r.parent = none →
        ∃ t, exec (.retire f) s = .next t ∧ t.hl.response = frameOf 0x06 .ok [] ∧ FreesOnly i s t ∧ BlocksKept s t ∧
          t.EnvelopeLaw ∧ t.flag .record = true))

/-- R22: RETIRE_FORCE by DEPOT in SERVICE retires a record of an external owner and its descendants at once, whatever their conditions,
shown where no KNEEL is among them and the record named has no parent; other owners are NOT_OWNER, RUN is BAD_STATE, a stale handle STALE,
and a record of JOINT or PLAUS NOT_OWNER. That the owner and the mode refuse before a stale handle does is the model's choice
(notes/assumptions/35.md). -/
def Obligations.RetireForceRequest : Prop :=
  ∀ (s : State) (f : HostFrame) (o : HostOwner) (a b : Byte), s.resetHeld = false → FrameOwner f o → f.payload = [a, b] →
    (o ≠ .depot → exec (.retireForce f) s = .next (answered f 0x07 .notOwner [] s)) ∧
    (o = .depot → s.hl.service = false → exec (.retireForce f) s = .next (answered f 0x07 .badState [] s)) ∧
    (o = .depot → s.hl.service = true → named s a b = none →
      exec (.retireForce f) s = .next (answered f 0x07 .stale [] s)) ∧
    (∀ i r, o = .depot → s.hl.service = true → named s a b = some (i, r) →
      (r.owner = .joint ∨ r.owner = .plaus → exec (.retireForce f) s = .next (answered f 0x07 .notOwner [] s)) ∧
      (r.owner ≠ .joint → r.owner ≠ .plaus → r.parent = none →
        (∀ j q, s.under i j = true → s.recordAt j = some q → q.kind ≠ .kneel) →
        ∃ t, exec (.retireForce f) s = .next t ∧ t.hl.response = frameOf 0x07 .ok [] ∧
          (∀ j : Slot, t.rt.slots[j.val] =
            if s.under i j = true then ⟨s.rt.slots[j.val].gen + 1, none⟩ else s.rt.slots[j.val]) ∧
          t.rt.changeCount = s.rt.changeCount + BitVec.ofNat 16 (allSlots.filter (s.under i)).length ∧
          BlocksKept s t ∧ t.EnvelopeLaw ∧ t.flag .record = true ∧
          (t.hl.service = true ↔ ∀ j q, s.under i j = true → s.recordAt j = some q → q.kind ≠ .serviceLock) ∧
          (s.EnvelopeLaw → t.valves = s.valves)))

/-- R14 and R11: a release step of a record that has more than 50 ms to run lowers its release remaining and starts its timer again; the
last step of one that waits for no distance retires it (R17, R18); an arm timer's expiry retires the ARMED record and sets RECORD_TIMEOUT.
Shown for records that are no KNEEL and, where they retire, have no parent. -/
def Obligations.RecordTimers : Prop :=
  ∀ (s : State) (i : Slot) (r : Record) (e : Nat), s.resetHeld = false → s.recordAt i = some r → r.kind ≠ .kneel →
    (r.state = .releasing → r.stepAt = some e →
      (50 < r.releaseLeft → s.EnvelopeLaw → ∃ t, exec (.releaseStep i) s = .next t ∧ t.now = max s.now e ∧
        OnlyRecords s t ∧ t.hl = s.hl ∧
        ChangesOnly i { r with releaseLeft := r.releaseLeft - 50, stepAt := some (t.now + 50 * ms) } s t) ∧
      (r.releaseLeft ≤ 50 → (r.distLeft = 0 ∨ r.steer = none) → r.parent = none →
        ∃ t, exec (.releaseStep i) s = .next t ∧ t.now = max s.now e ∧ FreesOnly i s t ∧ BlocksKept s t ∧ t.EnvelopeLaw ∧
          t.flag .record = true) ∧
      (r.releaseLeft ≤ 50 → 0 < r.distLeft → r.steer ≠ none → s.EnvelopeLaw →
        ∃ t, exec (.releaseStep i) s = .next t ∧ t.now = max s.now e ∧ OnlyRecords s t ∧
          ChangesOnly i { r with releaseLeft := 0, stepAt := none } s t)) ∧
    (r.state = .armed → r.armAt = some e → r.parent = none →
      ∃ t, exec (.armTimeout i) s = .next t ∧ t.now = max s.now e ∧ FreesOnly i s t ∧ BlocksKept s t ∧ t.EnvelopeLaw ∧
        t.flag .record = true ∧ t.flag .recordTimeout = true)

/-- R19: when a door's lock is lost with its line, a RELEASING record that lists that door or all doors returns to ACTIVE when it is
FOLLOWING and goes on when it is LATCHED. R18: when a child retires, at its arm timer or at its last release step, its ACTIVE parent is
evaluated: it stays ACTIVE while a condition fails or another child lives, and goes to RELEASING when none does. Shown for a child and a
parent that are no KNEEL and a parent that has a delay or a distance to run. -/
def Obligations.ConditionsAndParents : Prop :=
  (∀ (s : State) (d : Door) (i : Slot) (r : Record) (e : Nat), s.resetHeld = false → (s.line d).loss = .running e →
    (s.line d).door = .locked → s.recordAt i = some r → r.state = .releasing →
    (Cond.doorLocked d ∈ r.conds ∨ Cond.allDoorsLocked ∈ r.conds) →
    ∃ t, exec (.lossTimerExpiry d) s = .next t ∧
      t.recordAt i = some (match r.mode with | .following => r.returned | .latched => r)) ∧
  (∀ (s : State) (d : Door) (i : Slot) (r : Record) (e : Nat), s.resetHeld = false → (s.line d).loss = .running e →
    s.recordAt i = some r → r.state = .active → (Cond.doorLocked d ∈ r.conds ∨ Cond.allDoorsLocked ∈ r.conds) →
    (s.line d).door = .locked → ∃ t, exec (.lossTimerExpiry d) s = .next t ∧ t.recordAt i = some r) ∧
  ∀ (s : State) (c : Instr) (i : Slot) (r : Record) (h : Handle) (p : Record) (e : Nat), s.resetHeld = false →
    s.recordAt i = some r → r.kind ≠ .kneel → r.parent = some h → s.names h = true → s.recordAt h.slot = some p →
    p.state = .active → p.kind ≠ .kneel → p.Lingers →
    ((c = .armTimeout i ∧ r.state = .armed ∧ r.armAt = some e) ∨
      (c = .releaseStep i ∧ r.state = .releasing ∧ r.stepAt = some e ∧ r.releaseLeft ≤ 50 ∧ (r.distLeft = 0 ∨ r.steer = none))) →
    ∃ t, exec c s = .next t ∧ t.now = max s.now e ∧ BlocksKept s t ∧ t.EnvelopeLaw ∧
      t.rt.slots[i.val] = ⟨s.rt.slots[i.val].gen + 1, none⟩ ∧ t.rt.changeCount = s.rt.changeCount + 1 ∧
      (∀ j : Slot, j ≠ i → j ≠ h.slot → t.rt.slots[j.val] = s.rt.slots[j.val]) ∧
      ((∃ x ∈ p.conds, condHolds s h.slot p x = false) → t.recordAt h.slot = some p) ∧
      ((∃ k q, k ≠ i ∧ s.recordAt k = some q ∧ q.parent = some h) → t.recordAt h.slot = some p) ∧
      ((∀ x ∈ p.conds, condHolds s h.slot p x = true) → (∀ k q, k ≠ i → s.recordAt k = some q → q.parent ≠ some h) →
        t.recordAt h.slot = some (p.released t.now))

/-- R28, R51, R61, R62: PLAUS in CONFIGURED. At a word, an age or a mark that changes the degraded-sensor set, shown for the samples of
brake and bellows pressures and the pedals and for the centre marks, SENSOR_DEGRADE is placed from its profile row with the degraded
corners as its scope when the set was empty, has its scope amended when it was not, and is withdrawn when the set becomes empty. A
reservoir word that changes a comparator sets AIR, and one that changes CRITICAL places or withdraws AIR_CRITICAL. Before CONFIG_DONE
PLAUS places and withdraws nothing, and at its first taking it acts on both as they stand. The field `degraded`, which holds the set as
PLAUS last acted on it, is the model's own (notes/assumptions/13.md). -/
def Obligations.PlausFollows : Prop :=
  (∀ (s t : State) (c : Instr), s.resetHeld = false → s.inReset .sense = false → exec c s = .next t →
    ((∃ (ch : Channel) (fault : Bool) (v : BitVec 11), (ch.val < 12 ∨ ch = 18 ∨ ch = 19) ∧
        (c = .sampleWord (BitVec.ofNat 5 ch.val) fault v ∨ c = .sampleAgeExpiry ch)) ∨ ∃ a, c = .centreMark a) →
    (s.hl.configured = false → t.rt = s.rt ∧ t.degraded = s.degraded) ∧
    (s.hl.configured = true → s.PlausCurrent →
      t.PlausCurrent ∧
      (¬ s.SomeDegraded → ¬ t.SomeDegraded → t.rt = s.rt) ∧
      (¬ s.SomeDegraded → t.SomeDegraded → s.find .sensorDegrade .plaus = none →
        (∃ i : Slot, 24 ≤ i.val ∧ s.recordAt i = none) →
        ProfileCond.fixed .ownerRelease ∈ (s.profile .sensorDegrade).conds →
        ∃ i r, t.recordAt i = some r ∧ r.FromRow .sensorDegrade .plaus (s.profile .sensorDegrade) ∧ t.DegradedScope r.scope ∧
          t.EnvelopeLaw) ∧
      (∀ i r, s.find .sensorDegrade .plaus = some i → s.recordAt i = some r →
        (s.SomeDegraded → t.SomeDegraded → s.DegradedScope r.scope → r.state = .active → r.ownerRelease = false →
          Cond.ownerRelease ∈ r.conds →
          ∃ x, t.DegradedScope x ∧ t.recordAt i = some { r with scope := x } ∧ (x = r.scope → t.rt = s.rt)) ∧
        (s.SomeDegraded → ¬ t.SomeDegraded → s.GoesAtOnce i r → t.recordAt i = none ∧ t.EnvelopeLaw)))) ∧
  (∀ (s t : State) (v : BitVec 11), s.resetHeld = false → s.inReset .sense = false → (s.sample 20).state = .valid →
    exec (.sampleWord 20 false v) s = .next t →
    (t.flag .air = true ↔ s.flag .air = true ∨ t.sp.reserve ≠ s.sp.reserve ∨ t.sp.low ≠ s.sp.low ∨
      t.sp.critical ≠ s.sp.critical) ∧ t.lc.reserve = (if t.sp.reserve = s.sp.reserve then s.lc.reserve else t.sp.reserve) ∧
    (s.hl.configured = false ∨ t.sp.critical = s.sp.critical → t.rt = s.rt) ∧
    (s.hl.configured = true → t.sp.critical = .below → s.sp.critical = .above → s.find .airCritical .plaus = none →
      (∃ i : Slot, 24 ≤ i.val ∧ s.recordAt i = none) → ProfileCond.fixed .ownerRelease ∈ (s.profile .airCritical).conds →
      ∃ i r, t.recordAt i = some r ∧ r.FromRow .airCritical .plaus (s.profile .airCritical) ∧ t.EnvelopeLaw) ∧
    (s.hl.configured = true → t.sp.critical = .above → s.sp.critical = .below →
      ∀ i r, s.find .airCritical .plaus = some i → s.recordAt i = some r → s.GoesAtOnce i r →
        t.recordAt i = none ∧ t.EnvelopeLaw)) ∧
  ∀ (s t : State) (f : HostFrame) (o : HostOwner) (i j : Slot), s.resetHeld = false → s.hl.configured = false →
    s.degraded = 0 → FrameOwner f o → f.payload = [] → exec (.configDone f) s = .next t →
    24 ≤ i.val → 24 ≤ j.val → i ≠ j → s.recordAt i = none → s.recordAt j = none →
    t.PlausCurrent ∧
    (s.SomeDegraded → s.find .sensorDegrade .plaus = none →
      ProfileCond.fixed .ownerRelease ∈ (s.profile .sensorDegrade).conds →
      ∃ k r, t.recordAt k = some r ∧ r.FromRow .sensorDegrade .plaus (s.profile .sensorDegrade) ∧ t.DegradedScope r.scope) ∧
    (s.sp.critical = .below → s.find .airCritical .plaus = none →
      ProfileCond.fixed .ownerRelease ∈ (s.profile .airCritical).conds →
      ∃ k r, t.recordAt k = some r ∧ r.FromRow .airCritical .plaus (s.profile .airCritical))

/-- The items of the envelope of a table (R31 to R36): each floor is the largest contribution to its axle and each other item the extreme
one of the records that contribute to it, or its neutral value; kneel presence is whether a KNEEL lives. -/
def Obligations.EnvelopeItems : Prop :=
  ∀ (slots : Vector SlotEntry 32) (e : Envelope), e = envelopeOf slots →
    (∀ r ∈ liveRecords slots, r.state = .active →
      (∀ x, r.ceiling = some x → e.ceiling ≤ x) ∧ (∀ x, r.steer = some x → e.steer ≤ x) ∧
      (∀ x a, r.floor = some x → r.scope.touches a = true → x ≤ e.floors[a.val]) ∧
      (∀ x c, r.kind = .kneel → r.offset = some x → r.scope.has c = true → e.offsets[c.val] ≤ x)) ∧
    (∀ r ∈ liveRecords slots, r.state = .releasing →
      (∀ x, r.steer = some x → 0 < r.distLeft → e.steer ≤ x) ∧
      (∀ x a, r.floor = some x → r.scope.touches a = true → 0 < r.delay → x * r.releaseLeft / r.delay ≤ e.floors[a.val])) ∧
    (∀ r ∈ liveRecords slots, r.state ≠ .armed → r.kind = .jointLimit → ∀ x, r.damping = some x → x ≤ e.damping) ∧
    (e.ceiling = 800 ∨ ∃ r ∈ liveRecords slots, r.state = .active ∧ r.ceiling = some e.ceiling) ∧
    (e.steer = 140 ∨ ∃ r ∈ liveRecords slots, r.steer = some e.steer ∧
      (r.state = .active ∨ (r.state = .releasing ∧ 0 < r.distLeft))) ∧
    (∀ a : Axle, e.floors[a.val] = 0 ∨ ∃ r ∈ liveRecords slots, ∃ x, r.floor = some x ∧ r.scope.touches a = true ∧
      ((r.state = .active ∧ e.floors[a.val] = x) ∨
        (r.state = .releasing ∧ r.delay ≠ 0 ∧ e.floors[a.val] = x * r.releaseLeft / r.delay))) ∧
    (∀ c : Corner, e.offsets[c.val] = 0 ∨ ∃ r ∈ liveRecords slots, r.kind = .kneel ∧ r.state = .active ∧
      r.scope.has c = true ∧ r.offset = some e.offsets[c.val]) ∧
    (e.damping = 0 ∨ ∃ r ∈ liveRecords slots, r.kind = .jointLimit ∧ r.state ≠ .armed ∧ r.damping = some e.damping) ∧
    (e.kneel = true ↔ ∃ r ∈ liveRecords slots, r.kind = .kneel)

/-! ### Reading -/

/-- R182, and R43, R63, R96, R120, R136 and R152: each READ returns the page named of its image, BAD_FIELD for a page there is not and for
an index out of range, and changes nothing; and what READ_ENVELOPE's one page holds. The numbering of a yes or no and of the drive-inhibit
line's level is the model's choice (notes/assumptions/28.md). -/
def Obligations.ReadRequests : Prop :=
  ∀ (s : State) (f : HostFrame) (o : HostOwner) (page : Byte), s.resetHeld = false → FrameOwner f o →
    (f.payload = [page] →
      ReadsPages (.readEnvelope f) 0x10 f s page.toNat
        (u16 s.eu.env.floors[0] ++ u16 s.eu.env.floors[1] ++ u16 s.eu.env.floors[2] ++ u16 s.eu.env.ceiling
          ++ [b1 s.eu.env.steer] ++ s.eu.env.offsets.toList.map (BitVec.ofInt 8) ++ [b1 s.eu.env.damping]
          ++ [if s.eu.env.kneel then 0 else 1] ++ u16 s.eu.seq.toNat ++ [if s.eu.inhibit then 1 else 0]) ∧
      ReadsPages (.readJoint f) 0x13 f s page.toNat (jointImage s)) ∧
    (∀ n : Byte, f.payload = [n, page] →
      (∀ c : Corner, n = b1 c.val →
        ReadsPages (.readBrake f) 0x11 f s page.toNat (brakeImage s c) ∧
        ReadsPages (.readCorner f) 0x12 f s page.toNat (cornerImage s c)) ∧
      (6 ≤ n.toNat → exec (.readBrake f) s = .next (answered f 0x11 .badField [] s) ∧
        exec (.readCorner f) s = .next (answered f 0x12 .badField [] s)) ∧
      (∀ d : Door, n = b1 (d.val + 1) → ReadsPages (.readDoor f) 0x14 f s page.toNat (doorImage s d)) ∧
      (n = 0 ∨ 5 ≤ n.toNat → exec (.readDoor f) s = .next (answered f 0x14 .badField [] s)) ∧
      (∀ ch : Channel, n = b1 ch.val → ReadsPages (.readSample f) 0x15 f s page.toNat (sampleImage s ch)) ∧
      (21 ≤ n.toNat → exec (.readSample f) s = .next (answered f 0x15 .badField [] s)))

/-- R63, R77, R96, R120, R136, R152: what the images of READ_BRAKE, READ_CORNER, READ_JOINT, READ_DOOR and READ_SAMPLE hold, field by
field, the group reset in progress last (R180). The widths, the order, the numbers of the states and the rounding of a time left are the
model's choices (notes/assumptions/21.md, 27.md, 28.md, 30.md), and so is the form of the halt timer, its time left as the recovery
window's (27.md). -/
def Obligations.ReadImages : Prop :=
  ∀ s : State,
    (∀ (c : Corner) (x : BrakeChannel) (a : BrakeAxle), x = s.bc.channels[c.val] → a = s.bc.axles[(axleOf c).val] →
      ∃ apply exhaust, IsReport s.now (s.gen (.apply c)) apply ∧ IsReport s.now (s.gen (.brakeExhaust c)) exhaust ∧
        brakeImage s c =
          ([match x.run with | .running => 0 | .degraded => 1 | .held => 2,
           match x.slip with | .follow => 0 | .relieve => 1 | .hold => 2 | .reapply => 3] : List Byte)
          ++ (match x.target with | some n => u16 n | none => u16 0x8000) ++ [b1 x.holdCount] ++ u16 x.slipValue
          ++ ((match x.command with | .none => 0 :: u16 0xFFFF | .apply n => 1 :: u16 n | .exhaust n => 2 :: u16 n) : List Byte)
          ++ u16 x.wheelUsed ++ u16 x.sampleUsed ++ ([match x.sampleState with | .valid => 0 | .stale => 1 | .fault => 2] : List Byte)
          ++ apply ++ exhaust
          ++ u16 a.load ++ (match a.latch with | some n => 1 :: u16 n | none => 0 :: u16 0x8000)
          ++ u16 a.ceiling ++ u16 a.driver ++ u16 a.floor ++ u16 a.base
          ++ u16 s.bc.demand ++ ([if s.bc.disagreement then 1 else 0] : List Byte) ++ u16 s.bc.speedUsed
          ++ ([if s.inReset .brake then 1 else 0] : List Byte)) ∧
    (∀ (c : Corner) (r : CornerRecord) (source : Source → Byte) (held : Option Corner → Byte) (entry : Corner → List Byte),
      r = s.corner c → (∀ y, source y = match y with | .timer50 => 0 | .timer1000 => 1 | .axleRev16 => 2 | .none => 3) →
      (∀ g, held g = match g with | some d => b1 d.val | none => 0xFF) →
      (∀ d, entry d = match (s.corner d).waiting with | some w => b1 d.val :: s16 w.error | none => []) →
      ∃ fill exhaust, IsReport s.now (s.gen (.fill c)) fill ∧ IsReport s.now (s.gen (.cornerExhaust c)) exhaust ∧
        cornerImage s c =
          [source r.source, source (sourceFor s c .stationary), source (sourceFor s c .slow), source (sourceFor s c .fast)]
          ++ u16 r.count ++ (match r.last with | some h => u16 h | none => u16 0x8000) ++ [BitVec.ofInt 8 r.offset]
          ++ s16 (s.targetFor c r.phase)
          ++ ([match r.phase with | .level => 0 | .lowering => 1 | .kneeled => 2 | .rising => 3 | .halted => 4] : List Byte)
          ++ (if r.phase = .halted then s16 r.haltHeight else u16 0x8000)
          ++ ([match r.outcome with | some .fill => 0 | some .exhaust => 1 | some .hold => 2 | none => 0xFF,
              match r.check with | .normal => 0 | .strobe => 1 | .wait => 2 | .degraded => 3] : List Byte)
          ++ (match r.recoveryAt with | some e => u16 ((e - s.now) / 1000) | none => u16 0xFFFF)
          ++ (match r.waiting with | some w => 1 :: s16 w.error | none => 0 :: u16 0x8000)
          ++ ([if s.granted c then 1 else 0] : List Byte) ++ fill ++ exhaust
          ++ ([match s.lc.context with | .stationary => 0 | .slow => 1 | .fast => 2,
              match s.lc.reserve with | .above => 0 | .below => 1, held s.lc.grants[0], held s.lc.grants[1],
              b1 ((List.finRange 6).filter fun d : Corner => (s.corner d).waiting.isSome).length] : List Byte)
          ++ entry 0 ++ entry 1 ++ entry 2 ++ entry 3 ++ entry 4 ++ entry 5
          ++ (match s.lc.haltAt with | some e => u16 ((e - s.now) / 1000) | none => u16 0xFFFF)
          ++ ([if s.lc.resumePending then 1 else 0, b1 s.lc.strays, b1 s.lc.rising.length] : List Byte)
          ++ u16 s.hl.params.ride ++ u16 s.hl.params.bandStat ++ u16 s.hl.params.bandMove
          ++ ([if s.inReset .level then 1 else 0] : List Byte)) ∧
    (∃ kerbward offward damping, IsReport s.now (s.gen .kerbward) kerbward ∧ IsReport s.now (s.gen .offward) offward ∧
      IsReport s.now (s.gen .damping) damping ∧
      jointImage s =
        u16 s.js.speedUsed ++ [b1 s.js.band.val]
        ++ s16 s.mc.joint.count ++ ([if s.mc.joint.calibrated then 1 else 0, if s.mc.joint.valid then 0 else 1] : List Byte)
        ++ u16 s.mc.joint.illegalTotal
        ++ s16 s.mc.actuator.count ++ ([if s.mc.actuator.calibrated then 1 else 0, if s.mc.actuator.valid then 0 else 1] : List Byte)
        ++ u16 s.mc.actuator.illegalTotal ++ s16 s.js.rate
        ++ ([match s.js.state with | .normal => 0 | .watch => 1 | .limit => 2, b1 s.js.clear, b1 s.js.damping,
            b1 s.js.steerUsed, b1 s.js.dampingUsed] : List Byte)
        ++ s16 s.js.bound ++ ([if s.js.locked then 1 else 0] : List Byte) ++ s16 s.js.target ++ s16 s.js.command ++ s16 s.js.error
        ++ ([if s.js.engaged then 1 else 0] : List Byte) ++ kerbward ++ offward ++ damping ++ ([if s.inReset .joint then 1 else 0] : List Byte)) ∧
    (∀ (d : Door) (l : Line), l = s.line d →
      doorImage s d =
        ([if l.present then 0 else 1, match l.activity with | .listening => 0 | .receiving => 1 | .held => 2 | .sending => 3] : List Byte)
        ++ (match l.loss with
          | .stopped => u16 0xFFFF | .running e => u16 ((e - s.now) / 1000) | .paused left => u16 (left / 1000))
        ++ ([match l.door with
            | .locked => 0 | .closed => 1 | .opening => 2 | .open => 3 | .closing => 4 | .obstructed => 5 | .fault => 6
            | .unknown => 7,
            if d = 1 then (match s.dl.ramp with | .out => 0 | .stowed => 1 | .unknown => 2) else 0xFF,
            match l.holding with | some code => code.setWidth 8 | none => 0xFF,
            if l.prefixPending then 1 else 0, b1 l.queue.length] : List Byte)
        ++ l.queue.map (fun x => (match x with
          | .permit => 0x41 | .withhold => 0x42 | .close => 0x43 | .lock => 0x44 | .unlock => 0x45 | .chimeShort => 0x48
          | .chimeLong => 0x49 | .queryState => 0x4F : Byte))
        ++ ([b1 l.attempts, if l.sendWait then 1 else 0, b1 l.errors, b1 s.dt.ignored[d.val],
            if s.dt.releaseSet.getLsbD d.val then 1 else 0, if s.inReset .doors then 1 else 0] : List Byte)) ∧
    (∀ (ch : Channel) (level : Level → Byte), (∀ y, level y = match y with | .above => 0 | .below => 1) →
      sampleImage s ch =
        u16 (s.sample ch).value
        ++ ([match (s.sample ch).state with | .valid => 0 | .stale => 1 | .fault => 2,
            level s.sp.reserve, level s.sp.low, level s.sp.critical] : List Byte)
        ++ u16 s.hl.params.reserve ++ u16 s.hl.params.low ++ u16 s.hl.params.critical ++ u16 s.mc.speed
        ++ ([if s.mc.stationary then 1 else 0, if s.mc.moving then 1 else 0] : List Byte)
        ++ u16 (s.mc.trip.toNat / 100 / 65536) ++ u16 (s.mc.trip.toNat / 100)
        ++ u16 s.sp.discards ++ ([if s.inReset .sense then 1 else 0] : List Byte))

/-! ### Doors and the release set -/

/-- R163: SET_DOOR_RELEASE replaces the release set, queues PERMIT for each door that enters it and WITHHOLD for each that leaves it, and
returns the set; without an owner it is NOT_OWNER, with a door outside 1 to 4 BAD_FIELD, and with a door to add BAD_STATE while the moving
flag is set or a SUPERVISION_LOST is ACTIVE. R151: DOOR_COMMAND queues a command on a door's line (R146) and changes nothing else; without
an owner it is NOT_OWNER, with a door outside 1 to 4 or a code that is no command BAD_FIELD, and in a DOORS reset, or for PERMIT while the
moving flag is set, BAD_STATE. That bits 4 to 7 of a door set name doors outside 1 to 4 (notes/assumptions/22.md), that a door is named by
its number (notes/assumptions/25.md), and the order of the refusals where two fit (notes/assumptions/35.md) are the model's choices. -/
def Obligations.DoorRequests : Prop :=
  (∀ (s : State) (f : HostFrame) (o : HostOwner) (x : Byte), s.resetHeld = false → FrameOwner f o → f.payload = [x] →
    (o = .none → exec (.setDoorRelease f) s = .next (answered f 0x20 .notOwner [] s)) ∧
    (o ≠ .none → 16 ≤ x.toNat → exec (.setDoorRelease f) s = .next (answered f 0x20 .badField [] s)) ∧
    (o ≠ .none → x.toNat < 16 → (∃ d : Door, x.getLsbD d.val = true ∧ s.isReleased d = false) →
      (s.mc.moving = true ∨ ∃ i r, s.recordAt i = some r ∧ r.kind = .supervisionLost ∧ r.state = .active) →
      exec (.setDoorRelease f) s = .next (answered f 0x20 .badState [] s)) ∧
    (o ≠ .none → x.toNat < 16 →
      ((∀ d : Door, x.getLsbD d.val = true → s.isReleased d = true) ∨
        (s.mc.moving = false ∧ ∀ i r, s.recordAt i = some r → r.kind = .supervisionLost → r.state ≠ .active)) →
      ∃ t, exec (.setDoorRelease f) s = .next t ∧ t.hl.response = frameOf 0x20 .ok [x] ∧
        t.dt = { s.dt with releaseSet := x.setWidth 4 } ∧ OnlyDoors s t ∧ t.dl.ramp = s.dl.ramp ∧
        (∀ d : Door, t.line d =
          if s.inReset .doors = true ∨ x.getLsbD d.val = s.isReleased d then s.line d
          else Line.queued (if x.getLsbD d.val then .permit else .withhold) (s.line d)))) ∧
  (∀ (s : State) (f : HostFrame) (o : HostOwner) (a b : Byte), s.resetHeld = false → FrameOwner f o → f.payload = [a, b] →
    (o = .none → exec (.doorCommand f) s = .next (answered f 0x21 .notOwner [] s)) ∧
    (o ≠ .none → a = 0 ∨ 4 < a.toNat ∨ (∀ c : Command, b ≠ b1 c.code) →
      exec (.doorCommand f) s = .next (answered f 0x21 .badField [] s))) ∧
  ∀ (s : State) (f : HostFrame) (o : HostOwner) (d : Door) (c : Command), s.resetHeld = false → FrameOwner f o →
    f.payload = [b1 (d.val + 1), b1 c.code] →
    (o ≠ .none → (s.inReset .doors = true ∨ (c = .permit ∧ s.mc.moving = true)) →
      exec (.doorCommand f) s = .next (answered f 0x21 .badState [] s)) ∧
    (o ≠ .none → s.inReset .doors = false → (c = .permit → s.mc.moving = false) →
      exec (.doorCommand f) s = .next (answered f 0x21 .ok [] (s.withLine d (Line.queued c (s.line d)))))

/-- R146: a command takes the place of the queued one of its class, in the same position, and is appended where there is none; no two
commands of a queue are of one class; the attempt count, which is the head's, becomes 0 when the head is replaced; and CLEAR_QUEUE empties
the queue and sets it to 0. R149: a send under way whose head was left alone till then is told when its head is replaced, and of nothing
else that is queued; a CLEAR_QUEUE is told to it whatever came before, and stays. -/
def Obligations.QueueHoldsOnePerClass : Prop :=
  ∀ (c : Command) (l : Line) (q : Line), q = Line.queued c l →
    ((∀ x ∈ l.queue, x.class ≠ c.class) → q.queue = l.queue ++ [c] ∧ q.attempts = l.attempts ∧ q.send = l.send) ∧
    (∀ pre x post, l.queue = pre ++ x :: post → (∀ y ∈ pre, y.class ≠ c.class) → x.class = c.class →
      q.queue = pre ++ c :: post ∧ q.attempts = (if pre = [] then 0 else l.attempts) ∧
      q.send = (if pre = [] then l.send.map fun x => { x with fate := if x.fate = .alone then .replaced else x.fate } else l.send)) ∧
    ((l.queue.map Command.class).Nodup → (q.queue.map Command.class).Nodup ∧ q.queue.length ≤ 4) ∧
    q = { l with queue := q.queue, attempts := q.attempts, send := q.send } ∧
    Line.cleared l = { l with queue := [], attempts := 0, send := l.send.map fun x => { x with fate := .emptied } }

/-! ### Sensing -/

/-- R44, R45, R47, R48, R102: what a sample word does to its channel's record, and for a good word of the reservoir to the comparators and
of a height to its corner's accumulator; a channel above 20 is discarded and counted; in a SENSE reset every word is discarded (R65). A
corner whose source is NONE adds its words too, which is the model's reading (notes/assumptions/38.md). R46, R49, R183: an age timer's
expiry makes a VALID record STALE, with SENSOR set, and leaves a FAULT record FAULT, in both cases stopping the timer and keeping the
value; the reservoir's, and a fault word for it, takes RESERVE to BELOW, with AIR set if it read ABOVE, and keeps LOW and CRITICAL; and a
word that stops short is discarded and counted, but in a SENSE reset. R117, R118: a change of a height record reaches its corner, but in a
LEVEL reset (R122): to FAULT or STALE it freezes a NORMAL one, which strobes or is DEGRADED, and to VALID it returns a DEGRADED one to
NORMAL. R110, R111: RESERVE going ABOVE gives both grants to the waiting corners of the largest errors, among equal ones to the lower
index, and going BELOW it cuts every fill and keeps the waiting set; shown for good words that move no CRITICAL, and for the reservoir's
fault word and age timer, the waiting set there while PLAUS places its SENSOR_DEGRADE or does not act. A comparator that reads ABOVE under
a threshold above 1180 is the model's choice (notes/assumptions/37.md). -/
def Obligations.SampleEvents : Prop :=
  (∀ (s : State) (v : BitVec 11) (fault : Bool), s.resetHeld = false →
    (∀ channel : BitVec 5, s.inReset .sense = true → exec (.sampleWord channel fault v) s = .next s) ∧
    (∀ channel : BitVec 5, s.inReset .sense = false → 21 ≤ channel.toNat →
      exec (.sampleWord channel fault v) s = .next { s with sp := { s.sp with discards := bump 65535 s.sp.discards } }) ∧
    (∀ ch : Channel, s.inReset .sense = false →
      ∃ t, exec (.sampleWord (BitVec.ofNat 5 ch.val) fault v) s = .next t ∧
        t.sample ch = (if fault then ⟨(s.sample ch).value, .fault, some (s.now + 30 * ms)⟩
                       else ⟨min v.toNat (channelTop ch), .valid, some (s.now + 30 * ms)⟩) ∧
        (∀ y : Channel, y ≠ ch → t.sample y = s.sample y) ∧ t.sp.discards = s.sp.discards ∧
        ((s.sample ch).state ≠ (t.sample ch).state → t.flag .sensor = true) ∧
        t.mc = s.mc ∧ t.bc = s.bc ∧ t.js = s.js ∧ t.dl = s.dl ∧ t.dt = s.dt ∧
        (ch ≠ 20 → t.sp.reserve = s.sp.reserve ∧ t.sp.low = s.sp.low ∧ t.sp.critical = s.sp.critical) ∧
        (ch = 20 → fault = false →
          t.sp.reserve = comparatorAfter s.hl.params.reserve (min v.toNat 1200) s.sp.reserve ∧
          t.sp.low = comparatorAfter s.hl.params.low (min v.toNat 1200) s.sp.low ∧
          t.sp.critical = comparatorAfter s.hl.params.critical (min v.toNat 1200) s.sp.critical) ∧
        (ch = 20 → fault = true → t.sp.low = s.sp.low ∧ t.sp.critical = s.sp.critical ∧
          ((s.sample ch).state ≠ .fault → t.sp.reserve = .below) ∧
          ((s.sample ch).state = .fault → t.sp.reserve = s.sp.reserve))) ∧
    (∀ ch : Channel, s.inReset .sense = false → (ch.val < 12 ∨ ch = 18 ∨ ch = 19) → (s.sample ch).state = .valid →
      exec (.sampleWord (BitVec.ofNat 5 ch.val) false v) s =
        .next (s.withSample ch ⟨min v.toNat 1000, .valid, some (s.now + 30 * ms)⟩)) ∧
    (∀ (c : Corner) (ch : Channel), ch.val = 12 + c.val → s.inReset .sense = false → s.inReset .level = false →
      (s.corner c).check = .normal → (s.corner c).count < 4095 →
      ∃ t, exec (.sampleWord (BitVec.ofNat 5 ch.val) false v) s = .next t ∧
        (t.corner c).sum = (s.corner c).sum + min v.toNat 400 ∧ (t.corner c).count = (s.corner c).count + 1) ∧
    (∀ (c : Corner) (ch : Channel) (x : SampleState), ch.val = 12 + c.val → s.inReset .sense = false →
      x = (if fault then .fault else .valid) → (s.sample ch).state ≠ x →
      ∃ t, exec (.sampleWord (BitVec.ofNat 5 ch.val) fault v) s = .next t ∧
        (s.inReset .level = false → s.HeightMet t c x) ∧
        (s.inReset .level = true → (t.corner c).check = (s.corner c).check))) ∧
  (∀ (s t : State) (v : BitVec 11) (p : Nat), s.resetHeld = false → s.inReset .sense = false → s.inReset .level = false →
    p = min v.toNat 1200 → (s.sample 20).state = .valid →
    comparatorAfter s.hl.params.critical p s.sp.critical = s.sp.critical → exec (.sampleWord 20 false v) s = .next t →
    (s.sp.reserve = .below → s.hl.params.reserve + 20 ≤ p → s.lc.grants = #v[none, none] →
      t.lc.reserve = .above ∧ t.flag .air = true ∧
      (∀ c w, IsNext s.waitError c → (s.corner c).waiting = some w → w.prog.inRange.completes = true →
        t.FillsWith c w.prog.inRange) ∧
      (∀ c d w, IsNext s.waitError d → IsNext (fun k => if k = d then none else s.waitError k) c →
        (s.corner c).waiting = some w → w.prog.inRange.completes = true → t.FillsWith c w.prog.inRange) ∧
      (∀ c, ¬ IsNext s.waitError c →
        (∀ d, IsNext s.waitError d → ¬ IsNext (fun k => if k = d then none else s.waitError k) c) → s.FillKept t c)) ∧
    (s.sp.reserve = .above → p < s.hl.params.reserve → s.FillLaw →
      t.lc.reserve = .below ∧ t.flag .air = true ∧
      ∀ c : Corner, t.granted c = false ∧ (t.gen (.fill c)).prog = .idle ∧
        (s.granted c = true → (t.gen (.fill c)).isOpen = false) ∧
        t.corner c = s.corner c ∧ t.gen (.cornerExhaust c) = s.gen (.cornerExhaust c))) ∧
  (∀ (s : State) (c : Instr) (e : Nat), s.resetHeld = false → (s.sample 20).state = .valid → s.sp.reserve = .above →
    ((s.inReset .sense = false ∧ ∃ v, c = .sampleWord 20 true v) ∨ ((s.sample 20).ageAt = some e ∧ c = .sampleAgeExpiry 20)) →
    ∃ t, exec c s = .next t ∧ t.sp.reserve = .below ∧ t.sp.low = s.sp.low ∧ t.sp.critical = s.sp.critical ∧
      t.lc.reserve = .below ∧ t.flag .air = true ∧
      (s.FillLaw → ∀ k : Corner, t.granted k = false ∧ (t.gen (.fill k)).prog = .idle ∧
        (s.granted k = true → (t.gen (.fill k)).isOpen = false) ∧
        (s.hl.configured = false ∨ (s.EnvelopeLaw ∧ s.find .sensorDegrade .plaus = none) →
          t.corner k = s.corner k ∧ t.gen (.cornerExhaust k) = s.gen (.cornerExhaust k)))) ∧
  ∀ (s : State) (ch : Channel) (e : Nat), s.resetHeld = false →
    (s.inReset .sense = false →
      exec .sampleWordTimeout s = .next { s with sp := { s.sp with discards := bump 65535 s.sp.discards } }) ∧
    (s.inReset .sense = true → exec .sampleWordTimeout s = .next s) ∧
    ((s.sample ch).ageAt = some e → (s.sample ch).state ≠ .valid →
      exec (.sampleAgeExpiry ch) s = .next ((s.atTime (max s.now e)).withSample ch { s.sample ch with ageAt := none })) ∧
    ((s.sample ch).ageAt = some e → (s.sample ch).state = .valid →
      ∃ t, exec (.sampleAgeExpiry ch) s = .next t ∧ t.now = max s.now e ∧
        t.sample ch = ⟨(s.sample ch).value, .stale, none⟩ ∧ (∀ y : Channel, y ≠ ch → t.sample y = s.sample y) ∧
        t.flag .sensor = true ∧ t.sp.low = s.sp.low ∧ t.sp.critical = s.sp.critical ∧
        t.sp.reserve = (if ch = 20 then .below else s.sp.reserve) ∧
        (∀ c : Corner, ch.val = 12 + c.val →
          (s.inReset .level = false → s.HeightMet t c .stale) ∧
          (s.inReset .level = true → (t.corner c).check = (s.corner c).check)) ∧
        t.mc = s.mc ∧ t.bc = s.bc ∧ t.js = s.js ∧ t.dl = s.dl ∧ t.dt = s.dt)

/-- R52, R55, R15: a pulse adds one to its wheel's open bucket; one of B-K moves the remainder, the trip distance and every RELEASING
record's distance remaining by the increment; and one of a kerb wheel moves its revolution count, which goes back to 0 at `teeth`. An
increment that takes one record's distance to 0 has the envelope formed, and retires the record when its release has run out (R15, R17);
shown for one that is no KNEEL and has no parent. R101: the full revolution reaches the two corners of the axle, of which those that count
revolutions count it, and at the sixteenth the count is 0 again and a NORMAL corner with samples takes their average and judges it; in a
LEVEL reset none is counted (R122). That is shown while the context stays and no record is in the rising list, so that the order of the
two corners, which is the model's choice (notes/assumptions/36.md), does not show. circ and teeth are the values in use, which a written
value becomes at the next expiry of the bucket timer; that the remainder and the counts go on over that change is the model's choice
(notes/assumptions/33.md). -/
def Obligations.WheelPulses : Prop :=
  ∀ (s : State) (w : Corner), s.resetHeld = false →
    ∀ wheels, wheels = s.mc.wheels.set w.val { s.mc.wheels[w.val] with bucket := min 255 (s.mc.wheels[w.val].bucket + 1) } →
    (w.val % 2 = 1 → exec (.wheelPulse w) s = .next { s with mc := { s.mc with wheels := wheels } }) ∧
    (∀ a : Axle, w.val = 2 * a.val → a ≠ 1 → s.mc.revs[a.val] + 1 < s.mc.teeth →
      exec (.wheelPulse w) s = .next { s with mc := { s.mc with
        wheels := wheels, revs := s.mc.revs.set a.val (s.mc.revs[a.val] + 1) } }) ∧
    (∀ inc mc, w = 2 → s.mc.revs[1] + 1 < s.mc.teeth → inc = (s.mc.remainder + s.mc.circ) / s.mc.teeth →
      mc = { s.mc with
        wheels := wheels
        remainder := s.mc.remainder + s.mc.circ - inc * s.mc.teeth
        trip := s.mc.trip + BitVec.ofNat 32 inc
        revs := s.mc.revs.set 1 (s.mc.revs[1] + 1) } →
      ((∀ i r, s.recordAt i = some r → r.state = .releasing → 0 < r.distLeft → inc < r.distLeft) →
        ∃ t, exec (.wheelPulse w) s = .next t ∧
          t = { s with mc := mc, rt := { s.rt with slots := t.rt.slots } } ∧
          (∀ i : Slot, t.rt.slots[i.val].gen = s.rt.slots[i.val].gen ∧
            t.recordAt i = (s.recordAt i).map fun r =>
              if r.state = .releasing then { r with distLeft := r.distLeft - inc } else r)) ∧
      (∀ k q, s.recordAt k = some q → q.state = .releasing → 0 < q.distLeft → q.distLeft ≤ inc → q.kind ≠ .kneel → q.parent = none →
        (∀ i r, i ≠ k → s.recordAt i = some r → r.state = .releasing → 0 < r.distLeft → inc < r.distLeft) →
        ∃ t, exec (.wheelPulse w) s = .next t ∧ t.mc = mc ∧ t.sp = s.sp ∧ t.bc = s.bc ∧ t.js = s.js ∧ t.dl = s.dl ∧
          t.dt = s.dt ∧ t.EnvelopeLaw ∧
          (∀ i : Slot, i ≠ k → t.rt.slots[i.val].gen = s.rt.slots[i.val].gen ∧
            t.recordAt i = (s.recordAt i).map fun r =>
              if r.state = .releasing then { r with distLeft := r.distLeft - inc } else r) ∧
          (q.releaseLeft = 0 → t.rt.slots[k.val] = ⟨s.rt.slots[k.val].gen + 1, none⟩ ∧
            t.rt.changeCount = s.rt.changeCount + 1 ∧ t.flag .record = true) ∧
          (0 < q.releaseLeft → t.rt.slots[k.val] = ⟨s.rt.slots[k.val].gen, some { q with distLeft := 0 }⟩ ∧
            t.rt.changeCount = s.rt.changeCount))) ∧
    (∀ a : Axle, w.val = 2 * a.val → s.mc.teeth ≤ s.mc.revs[a.val] + 1 →
      ∃ t, exec (.wheelPulse w) s = .next t ∧ t.mc.revs = s.mc.revs.set a.val 0 ∧ t.mc.wheels = wheels ∧
        t.mc.speed = s.mc.speed ∧ t.sp = s.sp ∧ t.bc = s.bc ∧ t.js = s.js ∧ t.dl = s.dl ∧ t.dt = s.dt ∧
        ((a = 1 → ∀ i r, s.recordAt i = some r → r.state = .releasing → 0 < r.distLeft →
            (s.mc.remainder + s.mc.circ) / s.mc.teeth < r.distLeft) →
          (s.inReset .level = true → t.lc = s.lc) ∧
          (s.inReset .level = false → s.formedContext = s.lc.context → s.lc.rising = [] →
            ∀ (c : Corner) (was is : CornerRecord), was = s.corner c →
              is = { t.corner c with waiting := was.waiting } →
              (c.val / 2 ≠ a.val ∨ was.source ≠ .axleRev16 → is = was) ∧
              (c.val / 2 = a.val → was.source = .axleRev16 → was.revs < 15 → is = { was with revs := was.revs + 1 }) ∧
              (c.val / 2 = a.val → was.source = .axleRev16 → 15 ≤ was.revs →
                (was.check ≠ .normal ∨ was.count = 0 → is = { was with revs := 0 }) ∧
                (was.check = .normal → 0 < was.count → ∀ err : Int,
                  err = t.targetFor c is.phase - ((was.sum / was.count : Nat) : Int) →
                  is = { was with revs := 0, last := some (was.sum / was.count), sum := 0, count := 0, phase := is.phase,
                                  outcome := some (judged err (s.bandIn s.lc.context)) })))))

/-- R52 to R54, R41, R165: the bucket timer's expiry closes every bucket, figures the wheel speeds and the largest of them as the vehicle
speed, and at a change of speed evaluates the drive-inhibit line and the flags; the stationary timer follows the flag and the speed; a
moving flag that becomes set empties the release set. R100, R101: a change of either flag has the Levelling Controller form its context,
but in a LEVEL reset (R122), and at a changed context each corner whose entry of the source table differs from its source in use takes the
new one up; a change of speed alone does not. That the moving flag's change is sent first where both change is the model's choice
(notes/assumptions/9.md); the corners are shown where the context of a bus with the stationary flag set is STATIONARY, so that it does not
show. Written values of circ and teeth are in use from here on, this expiry's speeds included; that the remainder and the counts go on is
the model's choice (notes/assumptions/33.md). -/
def Obligations.BucketTimerExpires : Prop :=
  ∀ s : State, s.resetHeld = false → ∃ t, exec .bucketTimerExpiry s = .next t ∧
    t.mc.bucketAt = t.now + 10 * ms ∧ t.mc.circ = s.hl.params.circ ∧ t.mc.teeth = s.hl.params.teeth ∧
    (∀ w : Corner, ∃ x n, x = s.mc.wheels[w.val] ∧ n = x.closed[1] + x.closed[2] + x.closed[3] + x.bucket ∧
      t.mc.wheels[w.val] = ⟨0, #v[x.closed[1], x.closed[2], x.closed[3], x.bucket],
        min 1500 (n * s.hl.params.circ * 9 / (s.hl.params.teeth * 10))⟩) ∧
    (∀ w : Corner, t.mc.wheels[w.val].speed ≤ t.mc.speed) ∧ (∃ w : Corner, t.mc.speed = t.mc.wheels[w.val].speed) ∧
    (t.mc.speed ≠ s.mc.speed →
      t.mc.moving = (if 30 ≤ t.mc.speed then true else if t.mc.speed < 20 then false else s.mc.moving) ∧
      t.mc.stationary = (if 10 ≤ t.mc.speed then false else s.mc.stationary) ∧
      (t.eu.inhibit = true ↔ (∃ d : Door, (s.line d).door ≠ .locked) ∨ s.eu.env.ceiling = 0 ∨
        s.eu.env.ceiling < t.mc.speed + 20)) ∧
    (t.mc.speed = s.mc.speed → t.mc.moving = s.mc.moving ∧ t.mc.stationary = s.mc.stationary ∧
      t.eu.inhibit = s.eu.inhibit ∧ t.lc = s.lc ∧ t.dl = s.dl ∧ t.dt = s.dt) ∧
    t.mc.stationaryAt = (if t.mc.stationary ∨ 5 ≤ t.mc.speed then none
      else match s.mc.stationaryAt with | some e => some e | none => some (t.now + 200 * ms)) ∧
    (s.mc.moving = false → t.mc.moving = true → t.dt.releaseSet = 0) ∧
    (s.inReset .level = true ∨ (t.mc.moving = s.mc.moving ∧ t.mc.stationary = s.mc.stationary) → t.lc = s.lc) ∧
    (s.inReset .level = false → t.mc.moving ≠ s.mc.moving ∨ t.mc.stationary ≠ s.mc.stationary →
      t.lc = { s.lc with context := t.formedContext, corners := t.lc.corners } ∧
      ((s.mc.stationary = true → s.lc.context = .stationary) → ∀ (c : Corner) (y : Source), y = sourceFor s c t.formedContext →
        t.corner c = (if t.formedContext = s.lc.context ∨ y = (s.corner c).source then s.corner c
          else (s.corner c).taking t.now y))) ∧
    t.valves = s.valves ∧ t.mc.trip = s.mc.trip ∧ t.mc.remainder = s.mc.remainder ∧ t.mc.revs = s.mc.revs ∧ t.mc.joint = s.mc.joint ∧
    t.mc.actuator = s.mc.actuator ∧ t.rt = s.rt ∧ t.eu.env = s.eu.env ∧ t.sp = s.sp ∧ t.bc = s.bc ∧ t.js = s.js

/-- R54, R10: the stationary timer's expiry sets the flag, and no ARMED record is left; one that waits for its owner is ACTIVE. R100,
R101: the context is STATIONARY, but in a LEVEL reset (R122), and where it was another each corner whose entry of the source table differs
from its source in use takes the new one up; every other source runs on. -/
def Obligations.StationaryTimerExpires : Prop :=
  ∀ (s : State) (e : Nat), s.resetHeld = false → s.mc.stationaryAt = some e → s.mc.stationary = false →
    ∃ t, exec .stationaryTimerExpiry s = .next t ∧ t.now = max s.now e ∧
      t.mc = { s.mc with stationary := true, stationaryAt := none } ∧
      (∀ i r, t.recordAt i = some r → r.state ≠ .armed) ∧
      (∀ i r, s.recordAt i = some r → r.state = .armed → r.ownerRelease = false → Cond.ownerRelease ∈ r.conds →
        t.recordAt i = some { r with state := .active, armAt := none }) ∧
      t.lc.context = (if s.inReset .level then s.lc.context else .stationary) ∧
      (∀ (c : Corner) (y : Source) (r : CornerRecord), y = sourceFor s c .stationary →
        r = (if s.inReset .level = true ∨ s.lc.context = .stationary ∨ y = (s.corner c).source then s.corner c
          else (s.corner c).taking t.now y) →
        (t.corner c).source = r.source ∧ (t.corner c).sourceAt = r.sourceAt ∧ (t.corner c).revs = r.revs) ∧
      (s.EnvelopeLaw → t.EnvelopeLaw) ∧ t.sp = s.sp ∧ t.bc = s.bc ∧ t.js = s.js ∧ t.dl = s.dl ∧ t.dt = s.dt

/-- R56 to R59, R65: what a change of a counter's phase inputs, an entry's leaving of its illegal list, and a mark do to the counter, and
that the other counter keeps its state. R65 has transitions disregarded during a SENSE reset; that the inputs move all the same is the
model's choice (notes/assumptions/5.md). -/
def Obligations.AngleCounters : Prop :=
  ∀ (s : State) (a : Angle) (p : Phases) (x : AngleCounter), s.resetHeld = false → x = s.angle a →
    (∃ t, exec (.phaseTransition a p) s = .next t ∧ (t.angle a).phases = p ∧ (∀ b, b ≠ a → t.angle b = s.angle b) ∧
      (s.inReset .sense = true ∨ p = x.phases → t.angle a = { x with phases := p } ∧ t.hl = s.hl ∧ t.rt = s.rt) ∧
      (s.inReset .sense = false → p = nextPhases x.phases →
        (t.angle a).count = (if 600 < x.count + 1 then 600 else if x.count + 1 < -600 then -600 else x.count + 1) ∧
        ((t.angle a).valid = true ↔ x.valid = true ∧ (t.angle a).count ≠ 600 ∧ (t.angle a).count ≠ -600) ∧
        (t.angle a).illegal = x.illegal ∧ (t.angle a).calibrated = x.calibrated) ∧
      (s.inReset .sense = false → nextPhases p = x.phases →
        (t.angle a).count = (if 600 < x.count - 1 then 600 else if x.count - 1 < -600 then -600 else x.count - 1) ∧
        ((t.angle a).valid = true ↔ x.valid = true ∧ (t.angle a).count ≠ 600 ∧ (t.angle a).count ≠ -600) ∧
        (t.angle a).illegal = x.illegal ∧ (t.angle a).calibrated = x.calibrated) ∧
      (s.inReset .sense = false → p = nextPhases (nextPhases x.phases) →
        (t.angle a).count = x.count ∧ (t.angle a).illegalTotal = min 65535 (x.illegalTotal + 1) ∧
        (x.illegal.length < 15 → (t.angle a).illegal = x.illegal ++ [s.now] ∧ (t.angle a).valid = x.valid) ∧
        (15 ≤ x.illegal.length → (t.angle a).illegal = [] ∧ (t.angle a).valid = false)) ∧
      ((t.angle a).valid ≠ x.valid → t.flag .sensor = true) ∧
      t.mc.wheels = s.mc.wheels ∧ t.mc.speed = s.mc.speed ∧ t.sp = s.sp ∧ t.bc = s.bc ∧ t.js = s.js ∧
      t.dl = s.dl ∧ t.dt = s.dt) ∧
    (∃ t, exec (.centreMark a) s = .next t ∧ (∀ b, b ≠ a → t.angle b = s.angle b) ∧
      (s.inReset .sense = true → t = s) ∧
      (s.inReset .sense = false →
        t.angle a = { x with count := 0, calibrated := true, valid := true, illegal := [] } ∧
        (x.calibrated = false ∨ x.valid = false → t.flag .sensor = true)) ∧
      t.sp = s.sp ∧ t.bc = s.bc ∧ t.js = s.js ∧ t.dl = s.dl ∧ t.dt = s.dt) ∧
    (∀ e rest, x.illegal = e :: rest → ∃ t, exec (.illegalEntryExpiry a) s = .next t ∧
      t.angle a = { x with illegal := rest } ∧ (∀ b, b ≠ a → t.angle b = s.angle b) ∧ t = { s with now := t.now, mc := t.mc })

/-! ### Valves -/

/-- R67, R71 to R73: handing IDLE to a member of a pair ends what it runs and leaves its partner alone; handing it any other program
forces the partner IDLE and CLOSED, and the member opens at once, or waits until 2 ms after the partner's last closing; a TRAIN's openings
still to come are all but the first (R69). -/
def Obligations.PairInterlock : Prop :=
  ∀ (now : Nat) (side : Side) (p : Program) (x y : Pair), y = x.hand now side p →
    (p.inRange = .idle → (y.at side).prog = .idle ∧ (y.at side).isOpen = false ∧ (y.at side).waiting = false ∧
      y.at side.other = x.at side.other) ∧
    (p.inRange ≠ .idle → (y.at side.other).prog = .idle ∧ (y.at side.other).isOpen = false ∧
      (y.at side.other).waiting = false ∧ (y.at side).prog = p.inRange ∧
      ∃ last, last = (if (x.at side.other).isOpen then some now else (x.at side.other).closedAt) ∧
        (y.at side.other).closedAt = last ∧
        (∀ t, last = some t → now < t + 2 * ms →
          (y.at side).isOpen = false ∧ (y.at side).waiting = true ∧ (y.at side).endAt = some (t + 2 * ms)) ∧
        (last = none ∨ (∃ t, last = some t ∧ t + 2 * ms ≤ now) → (y.at side).isOpen = true ∧ (y.at side).waiting = false)) ∧
    (∀ on off n, p.inRange = .train on off n → (y.at side).toCome = n - 1) ∧
    (∀ t, p = .single t → p.inRange = if t = 0 then .idle else .single (min t 1000)) ∧
    (∀ d, p = .duty d → p.inRange = if d = 0 then .idle else .duty (min d 100)) ∧
    (∀ on off n, p = .train on off n →
      p.inRange = if on = 0 ∨ n = 0 then .idle else .train (min on 1000) (max 1 (min off 1000)) (min n 255))

/-- R68 to R71, R73, R110: what the end of each of a generator's periods does to it, every other generator and block kept; the run-out of
a FILL returns its corner's grant as well, which goes to the waiting corner of the largest error, among equal ones to the lower index, in
states that meet the fill law. -/
def Obligations.GeneratorPeriods : Prop :=
  ∀ (s : State) (g : GenId) (x : Generator) (e : Nat), s.resetHeld = false → x = s.gen g →
    (∀ n, x.prog = .single n → x.waiting = false → x.endAt = some e →
      (∀ c d : Corner, g = .fill c → (s.corner d).waiting = none) →
      ∃ t, exec (.singlePeriodEnd g) s = .next t ∧ t.now = max s.now e ∧
        (t.gen g).prog = .idle ∧ (t.gen g).isOpen = false ∧
        (t.gen g).closedAt = (if x.isOpen then some t.now else x.closedAt) ∧ (∀ h, h ≠ g → t.gen h = s.gen h) ∧
        t = { s with now := t.now, valves := t.valves, lc := { s.lc with grants := t.lc.grants } } ∧
        (∀ c : Corner, t.granted c = (s.granted c && decide (g ≠ .fill c)))) ∧
    (∀ on off n, x.prog = .train on off n → x.waiting = false → x.endAt = some e →
      (∀ c d : Corner, g = .fill c → (s.corner d).waiting = none) →
      ∃ t, exec (.trainPeriodEnd g) s = .next t ∧ t.now = max s.now e ∧ (∀ h, h ≠ g → t.gen h = s.gen h) ∧
        t = { s with now := t.now, valves := t.valves, lc := { s.lc with grants := t.lc.grants } } ∧
        (x.isOpen = false → t.gen g = { x with isOpen := true, endAt := some (t.now + on * ms), toCome := x.toCome - 1 } ∧
          t.lc = s.lc) ∧
        (x.isOpen = true → 0 < x.toCome →
          t.gen g = { x with isOpen := false, endAt := some (t.now + off * ms), closedAt := some t.now } ∧ t.lc = s.lc) ∧
        (x.isOpen = true → x.toCome = 0 → (t.gen g).prog = .idle ∧ (t.gen g).isOpen = false ∧
          (t.gen g).closedAt = some t.now ∧ ∀ c : Corner, t.granted c = (s.granted c && decide (g ≠ .fill c)))) ∧
    (∀ (command : Instr) (c d : Corner) (w : WaitEntry), g = .fill c → x.waiting = false → x.endAt = some e → s.FillLaw →
      ((∃ n, x.prog = .single n) ∧ command = .singlePeriodEnd g) ∨
        ((∃ on off n, x.prog = .train on off n) ∧ x.isOpen = true ∧ x.toCome = 0 ∧ command = .trainPeriodEnd g) →
      IsNext s.waitError d → (s.corner d).waiting = some w →
      ∃ t, exec command s = .next t ∧ (t.gen g).prog = .idle ∧ t.granted c = false ∧ t.FillsWith d w.prog.inRange ∧
        ∀ k, k ≠ c → k ≠ d → s.FillKept t k) ∧
    (∀ d, x.prog = .duty d → x.waiting = false →
      (x.openEndAt = some e → ∃ t, exec (.dutyOpenEnd g) s = .next t ∧ t.now = max s.now e ∧
        t.gen g = { x with isOpen := false, openEndAt := none,
                           closedAt := if x.isOpen then some t.now else x.closedAt } ∧
        (∀ h, h ≠ g → t.gen h = s.gen h) ∧ t = { s with now := t.now, valves := t.valves }) ∧
      (x.endAt = some e → ∃ t, exec (.dutyPeriodEnd g) s = .next t ∧ t.now = max s.now e ∧
        t.gen g = { x with isOpen := true, endAt := some (t.now + 5 * ms), toCome := 0,
                           openEndAt := if d < 100 then some (t.now + d * 50) else none } ∧
        (∀ h, h ≠ g → t.gen h = s.gen h) ∧ t = { s with now := t.now, valves := t.valves })) ∧
    (x.waiting = true → x.endAt = some e → x.prog ≠ .idle →
      ∃ t, exec (.deadTimeEnd g) s = .next t ∧ t.now = max s.now e ∧ (t.gen g).prog = x.prog ∧ (t.gen g).isOpen = true ∧
        (t.gen g).waiting = false ∧ (∀ n, x.prog = .single n → (t.gen g).endAt = some (t.now + n * ms)) ∧
        (∀ h, h ≠ g → t.gen h = s.gen h) ∧ t = { s with now := t.now, valves := t.valves })

/-! ### The brakes -/

/-- R78 to R85, R99: a brake cycle starts its timer again; in a BRAKE reset it does nothing else; otherwise it judges the pedals and forms
the pedal demand and each axle's load index, latch, ceiling, floor and base target, and touches no block but the Brake Controller, its
valves and the flags PEDAL and SLIP. The driver pressure is D × Cx ÷ 1000 to the nearest, a half up: a full pedal gives the load ceiling,
no pedal more, none at all 0; and R84's worked example. -/
def Obligations.BrakeCycleAxles : Prop :=
  ∀ s : State, s.resetHeld = false → ∃ t, exec .brakeCycle s = .next t ∧
    t.bc.cycleAt = t.now + 10 * ms ∧
    (s.inReset .brake = true → t = { s with now := t.now, bc := { s.bc with cycleAt := t.bc.cycleAt } }) ∧
    (s.inReset .brake = false →
      t = { s with now := t.now, bc := t.bc, valves := { s.valves with brake := t.valves.brake },
                   hl := { s.hl with flags := t.hl.flags } } ∧
      (∀ fl : Flag, fl ≠ .pedal → fl ≠ .slip → t.flag fl = s.flag fl) ∧
      t.bc.demand = (match (s.sample 18).state, (s.sample 19).state with
        | .valid, .valid => max (s.sample 18).value (s.sample 19).value
        | .valid, _ => (s.sample 18).value
        | _, .valid => (s.sample 19).value
        | _, _ => 0) ∧
      t.bc.disagreement = (if (s.sample 18).state = .valid ∧ (s.sample 19).state = .valid
        then decide (120 < (((s.sample 18).value : Int) - ((s.sample 19).value : Int)).natAbs) else s.bc.disagreement) ∧
      t.flag .pedal = (s.flag .pedal || (!s.bc.disagreement && t.bc.disagreement)) ∧
      (∀ (a : Axle) (y : BrakeAxle) (free : Nat), y = t.bc.axles[a.val] →
        free = (match (s.bellows (kerbOf a)).state, (s.bellows (offsideOf a)).state with
          | .valid, .valid => ((s.bellows (kerbOf a)).value + (s.bellows (offsideOf a)).value) / 2
          | .valid, _ => (s.bellows (kerbOf a)).value
          | _, .valid => (s.bellows (offsideOf a)).value
          | _, _ => s.hl.params.lfull[a.val]) →
        ((s.corner (kerbOf a)).phase = .level → (s.corner (offsideOf a)).phase = .level →
          y.latch = none ∧ y.lastFree = some y.load ∧ y.load = free) ∧
        ((s.corner (kerbOf a)).phase ≠ .level ∨ (s.corner (offsideOf a)).phase ≠ .level →
          y.latch = some y.load ∧ y.lastFree = s.bc.axles[a.val].lastFree ∧
          (∀ v, s.bc.axles[a.val].latch = some v → y.load = v) ∧
          (∀ v, s.bc.axles[a.val].latch = none → s.bc.axles[a.val].lastFree = some v → y.load = v) ∧
          (s.bc.axles[a.val].latch = none → s.bc.axles[a.val].lastFree = none → y.load = free)) ∧
        (s.hl.params.lfull[a.val] ≤ s.hl.params.lempty[a.val] → y.ceiling = s.hl.params.cmax[a.val]) ∧
        (s.hl.params.lempty[a.val] < s.hl.params.lfull[a.val] → s.hl.params.cmax[a.val] < s.hl.params.cmin[a.val] →
          y.ceiling = s.hl.params.cmax[a.val]) ∧
        (s.hl.params.lempty[a.val] < s.hl.params.lfull[a.val] → s.hl.params.cmin[a.val] ≤ s.hl.params.cmax[a.val] →
          y.ceiling = s.hl.params.cmin[a.val] + (s.hl.params.cmax[a.val] - s.hl.params.cmin[a.val])
            * min (y.load - s.hl.params.lempty[a.val]) (s.hl.params.lfull[a.val] - s.hl.params.lempty[a.val])
            / (s.hl.params.lfull[a.val] - s.hl.params.lempty[a.val])) ∧
        (y.driver = (t.bc.demand * y.ceiling + 500) / 1000 ∧
          2 * (t.bc.demand * y.ceiling) < 2 * (1000 * y.driver) + 1000 ∧
          2 * (1000 * y.driver) ≤ 2 * (t.bc.demand * y.ceiling) + 1000 ∧ (t.bc.demand = 1000 → y.driver = y.ceiling) ∧
          (t.bc.demand ≤ 1000 → y.driver ≤ y.ceiling) ∧ (t.bc.demand = 0 → y.driver = 0)) ∧
        y.floor = s.eu.env.floors[a.val] ∧ y.base = min 1000 (max y.driver y.floor))) ∧
    driverPressure 333 455 = 152

/-- R86 to R88, R90 to R94: each channel after a brake cycle. One without a VALID pressure is DEGRADED and takes its base target with its
valves IDLE; any other is RUNNING and commands its valves by the deadband; and SLIP is set exactly when a channel enters RELIEVE. -/
def Obligations.BrakeCycleChannels : Prop :=
  ∀ (s t : State) (c : Corner) (x y : BrakeChannel) (base p : Nat), s.resetHeld = false → s.inReset .brake = false →
    exec .brakeCycle s = .next t → x = s.bc.channels[c.val] → y = t.bc.channels[c.val] → base = (t.brakeAxle c).base →
    p = (s.chamber c).value →
    ((s.chamber c).state ≠ .valid → y.run = .degraded ∧ y.slip = .follow ∧ y.holdCount = 0 ∧ y.slipValue = 0 ∧
      y.target = some base ∧ y.command = .none) ∧
    ((s.chamber c).state = .valid → y.run = .running ∧
      y.slipValue = (if s.mc.speed < 30 then 0 else (s.mc.speed - s.mc.wheels[c.val].speed) * 1000 / s.mc.speed) ∧
      (base = 0 ∨ s.mc.speed < 30 → y.slip = .follow) ∧
      (base ≠ 0 → 30 ≤ s.mc.speed →
        (s.hl.params.slipIn ≤ y.slipValue → x.slip ≠ .relieve → y.slip = .relieve) ∧
        (x.slip = .follow → y.slipValue < s.hl.params.slipIn → y.slip = .follow) ∧
        (x.slip = .relieve → y.slip = if y.slipValue < min s.hl.params.slipOut s.hl.params.slipIn then .hold else .relieve) ∧
        (x.slip = .hold → y.slipValue < s.hl.params.slipIn →
          y.slip = if s.hl.params.holds ≤ x.holdCount then .reapply else .hold) ∧
        (x.slip = .reapply → y.slipValue < s.hl.params.slipIn →
          y.slip = if base ≤ x.target.getD 0 then .follow else .reapply)) ∧
      y.holdCount = (if y.slip = .hold then (if x.slip = .hold then x.holdCount + 1 else 1) else 0) ∧
      y.target = some (match y.slip with
        | .follow => base
        | .relieve => min base ((if x.slip = .relieve then x.target.getD 0 else p) - s.hl.params.relieve)
        | .hold => min base (x.target.getD 0)
        | .reapply => min base (x.target.getD 0 + s.hl.params.reapply)) ∧
      (∀ err : Int, err = ((y.target.getD 0 : Nat) : Int) - (p : Int) →
        (15 < err → y.command = .apply (clamp (err / 8) 1 10).toNat) ∧
        (err < -15 → y.command = .exhaust (clamp (-err / 8) 1 10).toNat) ∧
        (-15 ≤ err → err ≤ 15 → y.command = .none))) ∧
    (y.slip = .relieve → x.slip ≠ .relieve → t.flag .slip = true) ∧
    (t.flag .slip = true → s.flag .slip = true ∨
      ∃ d : Corner, t.bc.channels[d.val].slip = .relieve ∧ s.bc.channels[d.val].slip ≠ .relieve) ∧
    (∀ n, y.command = .apply n → (t.gen (.apply c)).prog = .single n ∧ (t.gen (.brakeExhaust c)).prog = .idle) ∧
    (∀ n, y.command = .exhaust n → (t.gen (.brakeExhaust c)).prog = .single n ∧ (t.gen (.apply c)).prog = .idle) ∧
    (y.command = .none → (t.gen (.apply c)).prog = .idle ∧ (t.gen (.brakeExhaust c)).prog = .idle)

/-! ### Levelling -/

/-- R101, R103 to R107: a corner's timer source expires. In the context in hand and with no samples it only starts again; a NORMAL corner
with samples takes their average as its last height, empties its accumulator, and keeps the outcome of the error against the band. At a
speed of 50 or more the error is against the ride height. In HOLD its valves are IDLE and it does not wait; in EXHAUST its exhaust keeps
its program or is handed one of the needed time, and it does not wait; in FILL it keeps its fill under its grant, or is handed one of the
needed time with a grant, or waits for one. R110: of the corners that wait, itself among them when it joins, the one of the largest error,
and among equal errors the one of the lower index, is given a free grant at the join, and the grant of a fill that is cut. The programs
and the grants are shown while no record is in the rising list. -/
def Obligations.CornerTimerJudges : Prop :=
  ∀ (s : State) (c : Corner) (e : Nat), s.resetHeld = false → s.inReset .level = false → (s.corner c).sourceAt = some e →
    (s.formedContext = s.lc.context → (s.corner c).check ≠ .normal ∨ (s.corner c).count = 0 →
      ∃ t, exec (.cornerTimerExpiry c) s = .next t ∧ t.now = max s.now e ∧
        t = (s.atTime t.now).withCorner c
          { s.corner c with sourceAt := (s.corner c).source.period.map (t.now + ·) }) ∧
    ((s.corner c).check = .normal → 0 < (s.corner c).count →
      ∃ t err db, exec (.cornerTimerExpiry c) s = .next t ∧ t.now = max s.now e ∧ t.lc.context = s.formedContext ∧
        (t.corner c).last = some ((s.corner c).sum / (s.corner c).count) ∧ (t.corner c).sum = 0 ∧ (t.corner c).count = 0 ∧
        err = t.targetFor c (t.corner c).phase - (((s.corner c).sum / (s.corner c).count : Nat) : Int) ∧
        (50 ≤ s.mc.speed → err = s.hl.params.ride - (((s.corner c).sum / (s.corner c).count : Nat) : Int)) ∧
        db = s.bandIn (s.formedContext) ∧ (t.corner c).outcome = some (judged err db) ∧
        ((t.corner c).outcome = some .hold → (t.corner c).waiting = none ∧ (t.gen (.fill c)).prog = .idle ∧
          (t.gen (.cornerExhaust c)).prog = .idle) ∧
        ((t.corner c).outcome = some .exhaust → (t.corner c).waiting = none ∧ (t.gen (.cornerExhaust c)).prog ≠ .idle) ∧
        ((t.corner c).outcome = some .fill → t.granted c = true ∨ (t.corner c).waiting.isSome = true) ∧
        (s.lc.rising = [] → judged err db = .exhaust → (t.gen (.cornerExhaust c)).prog =
          (if (s.gen (.cornerExhaust c)).prog = .idle then pulse (t.corner c).phase (t.corner c).source (2 * err.natAbs)
           else (s.gen (.cornerExhaust c)).prog)) ∧
        (s.lc.rising = [] → judged err db = .fill →
          (s.granted c = true → t.gen (.fill c) = s.gen (.fill c)) ∧
          (s.granted c = false → (t.gen (.cornerExhaust c)).prog = .idle ∧
            ((t.granted c = true ∧ (t.gen (.fill c)).prog = pulse (t.corner c).phase (t.corner c).source (3 * err.natAbs)) ∨
              ∃ w, (t.corner c).waiting = some w ∧ w.error = err ∧
                w.prog.inRange = pulse (t.corner c).phase (t.corner c).source (3 * err.natAbs))) ∧
          (s.granted c = false → s.lc.reserve = .below ∨ (s.lc.grants[0] ≠ none ∧ s.lc.grants[1] ≠ none) →
            t.lc.grants = s.lc.grants ∧ (t.corner c).waiting.isSome = true ∧ ∀ d, d ≠ c → s.FillKept t d) ∧
          (s.granted c = false → s.lc.reserve = .above → s.lc.grants[0] = none ∨ s.lc.grants[1] = none →
            ∀ error : Corner → Option Int, error = (fun k => if k = c then some err else s.waitError k) →
              (IsNext error c → t.FillsWith c (pulse (t.corner c).phase (t.corner c).source (3 * err.natAbs))) ∧
              (∀ d w, d ≠ c → IsNext error d → (s.corner d).waiting = some w → w.prog.inRange.completes = true →
                t.FillsWith d w.prog.inRange))) ∧
        (s.lc.rising = [] → judged err db ≠ .fill → s.granted c = true → s.FillLaw → s.InterlockLaw →
          t.granted c = false ∧
          ∀ d w, IsNext s.waitError d → (s.corner d).waiting = some w → t.FillsWith d w.prog.inRange) ∧
        t.sp = s.sp ∧ t.mc = s.mc ∧ t.bc = s.bc ∧ t.js = s.js ∧ t.dl = s.dl ∧ t.dt = s.dt)

/-- R115, R117, R118: the strobe's end starts the wait; the wait's end takes the height record as it stands; a recovery window ends; and
the halt timer's end lets a waiting resume act. -/
def Obligations.CornerCheckTimers : Prop :=
  ∀ (s : State) (c : Corner) (e : Nat), s.resetHeld = false →
    ((s.corner c).check = .strobe → (s.corner c).checkAt = some e →
      exec (.strobeTimerExpiry c) s = .next ((s.atTime (max s.now e)).withCorner c
        { s.corner c with check := .wait, strobe := false, checkAt := some (max s.now e + 100 * ms) })) ∧
    ((s.corner c).check = .wait → (s.corner c).checkAt = some e →
      ∃ t, exec (.waitTimerExpiry c) s = .next t ∧ t.now = max s.now e ∧ (t.corner c).checkAt = none ∧
        (s.heightRecord c = .valid → (t.corner c).check = .normal ∧
          (t.corner c).recoveryAt = some (t.now + 60000 * ms) ∧ t.flag .sensor = true) ∧
        (s.heightRecord c ≠ .valid → (t.corner c).check = .degraded ∧ (t.corner c).recoveryAt = (s.corner c).recoveryAt) ∧
        t.sp = s.sp ∧ t.mc = s.mc ∧ t.bc = s.bc ∧ t.js = s.js ∧ t.dl = s.dl ∧ t.dt = s.dt) ∧
    ((s.corner c).recoveryAt = some e →
      exec (.recoveryWindowExpiry c) s =
        .next ((s.atTime (max s.now e)).withCorner c { s.corner c with recoveryAt := none })) ∧
    (s.lc.haltAt = some e →
      (s.lc.resumePending = false →
        exec .haltTimerExpiry s = .next { s with now := max s.now e, lc := { s.lc with haltAt := none } }) ∧
      (s.lc.resumePending = true → ∃ t, exec .haltTimerExpiry s = .next t ∧ t.now = max s.now e ∧ t.lc.haltAt = none ∧
        t.lc.resumePending = false ∧
        (∀ d : Corner, (t.corner d).phase = if (s.corner d).phase = .halted then .lowering else (s.corner d).phase) ∧
        t.rt = s.rt ∧ t.eu = s.eu ∧ t.sp = s.sp ∧ t.mc = s.mc ∧ t.bc = s.bc ∧ t.js = s.js ∧ t.dl = s.dl ∧ t.dt = s.dt))

/-- R108, R112: at a forming of the envelope each corner whose offset changed holds the new one, takes its phase by R112's table, and, at
a speed below 50 with its check NORMAL, a last height and a source, forms its command at once; the heights stay. R112: when the last
HALTED corner has left HALTED the halt timer stops and a pending resume is dropped. R113: at a control event a LOWERING corner within the
band about its kneel depth is KNEELED, with KNEEL set when every corner with an offset is, and a RISING one within the band about the ride
height is LEVEL. R16, R116: a KNEEL that enters RELEASING over a corner that is not LEVEL is listed as rising, and is reported risen when
the last corner of its scope becomes LEVEL; shown for a rising list of one entry. The commands are shown in states that meet the fill law
(R110, R111). A KNEEL let go with a delay of 0 starts no release step timer and waits for the report alone, and one with an empty scope is
risen at its entry (R16) and, with nothing left to run, retires there. That a command formed at once sets the corner's last outcome is the
model's reading (notes/assumptions/15.md), and the order of the corners its choice (notes/assumptions/36.md). -/
def Obligations.KneelPhases : Prop :=
  (∀ (s t : State) (c : Corner) (x : Int), s.inReset .level = false → t = formEnvelope s →
    x = (envelopeOf s.rt.slots).offsets[c.val] →
    ((t.corner c).last = (s.corner c).last ∧ (t.corner c).sum = (s.corner c).sum ∧ (t.corner c).count = (s.corner c).count ∧
      (t.corner c).check = (s.corner c).check ∧ (t.corner c).source = (s.corner c).source) ∧
    (x = s.eu.env.offsets[c.val] → (t.corner c).offset = (s.corner c).offset ∧ (t.corner c).phase = (s.corner c).phase) ∧
    (x ≠ s.eu.env.offsets[c.val] → (t.corner c).offset = x ∧
      (t.corner c).phase =
        (if x = 0 then (match (s.corner c).phase with
          | .level => .level | .lowering => .rising | .kneeled => .rising | .halted => .rising | .rising => .rising)
         else (match (s.corner c).phase with
          | .level => .lowering | .lowering => .lowering | .kneeled => .kneeled | .halted => .halted
          | .rising => .lowering)) ∧
      (∀ h, s.resetHeld = false → s.FillLaw → s.ActsAtOnce c h →
        t.Commanded c (t.targetFor c (t.corner c).phase - (h : Int)) (s.bandIn s.lc.context))) ∧
    t.lc.haltAt = (if (∃ d, (s.corner d).phase = .halted) ∧ ∀ d, (t.corner d).phase ≠ .halted then none else s.lc.haltAt) ∧
    t.lc.resumePending = (s.lc.resumePending &&
      !decide ((∃ d, (s.corner d).phase = .halted) ∧ ∀ d, (t.corner d).phase ≠ .halted))) ∧
  (∀ (s t : State) (c : Corner) (e : Nat) (h db : Int), s.resetHeld = false → s.inReset .level = false →
    (s.corner c).sourceAt = some e → (s.corner c).check = .normal → 0 < (s.corner c).count →
    h = ((s.corner c).sum / (s.corner c).count : Nat) → db = (s.bandIn (s.formedContext) : Nat) →
    exec (.cornerTimerExpiry c) s = .next t →
    ((s.corner c).phase = .level ∨ (s.corner c).phase = .kneeled ∨ (s.corner c).phase = .halted →
      (t.corner c).phase = (s.corner c).phase) ∧
    ((s.corner c).phase = .lowering →
      (t.corner c).phase =
        (if -db ≤ s.hl.params.ride + (s.corner c).offset - h ∧ s.hl.params.ride + (s.corner c).offset - h ≤ db
         then .kneeled else .lowering) ∧
      (t.flag .kneel = true ↔ s.flag .kneel = true ∨
        ((t.corner c).phase = .kneeled ∧ ∀ d, (t.corner d).offset ≠ 0 → (t.corner d).phase = .kneeled))) ∧
    ((s.corner c).phase = .rising →
      (¬ (-db ≤ s.hl.params.ride - h ∧ s.hl.params.ride - h ≤ db) →
        (t.corner c).phase = .rising ∧ t.lc.rising = s.lc.rising ∧ t.rt = s.rt) ∧
      (-db ≤ s.hl.params.ride - h → s.hl.params.ride - h ≤ db →
        (s.lc.rising = [] → (t.corner c).phase = .level ∧ t.lc.rising = [] ∧ t.rt = s.rt) ∧
        (∀ entry r, s.lc.rising = [entry] → s.names entry.handle = true → s.recordAt entry.handle.slot = some r →
          r.state = .releasing →
          ((∃ d, entry.scope.has d = true ∧ d ≠ c ∧ (s.corner d).phase ≠ .level) →
            (t.corner c).phase = .level ∧ t.lc.rising = s.lc.rising ∧ t.rt = s.rt) ∧
          ((∀ d, entry.scope.has d = true → d ≠ c → (s.corner d).phase = .level) →
            (0 < r.releaseLeft ∨ (0 < r.distLeft ∧ r.steer ≠ none) →
              (t.corner c).phase = .level ∧ t.lc.rising = [] ∧ ChangesOnly entry.handle.slot { r with risen := true } s t) ∧
            (r.releaseLeft = 0 → r.distLeft = 0 ∨ r.steer = none → r.parent = none →
              (∀ j q, s.recordAt j = some q → Cond.noKneel ∉ q.conds) →
              t.lc.rising = [] ∧ FreesOnly entry.handle.slot s t ∧ t.flag .record = true ∧
                (s.EnvelopeLaw → (t.corner c).phase = .level))))))) ∧
  ∀ (s : State) (f : HostFrame) (o : HostOwner) (a b : Byte) (i : Slot) (r : Record), s.resetHeld = false → FrameOwner f o →
    o ≠ .none → f.payload = [a, b] → named s a b = some (i, r) → r.kind = .kneel → some r.owner = o.record → r.state = .active →
    r.ownerRelease = false → (∀ c ∈ r.conds, c = .ownerRelease ∨ condHolds s i r c = true) → s.hasChild i = false →
    (∀ j q, s.recordAt j = some q → Cond.noKneel ∉ q.conds) →
    ∃ t, exec (.retire f) s = .next t ∧ t.hl.response = frameOf 0x06 .ok [] ∧ BlocksKept s t ∧ t.EnvelopeLaw ∧
      ((∃ d : Corner, r.scope.has d = true ∧ (s.corner d).phase ≠ .level) →
        ChangesOnly i ({ r with ownerRelease := true }.released s.now) s t ∧
        t.lc.rising = (s.lc.rising.filter fun e => e.handle != s.handleAt i) ++ [⟨s.handleAt i, r.scope⟩]) ∧
      (r.scope = 0 →
        t.lc.rising = (s.lc.rising.filter fun e => e.handle != s.handleAt i) ∧
        (r.Lingers → ChangesOnly i { ({ r with ownerRelease := true }.released s.now) with risen := true } s t) ∧
        (¬ r.Lingers → r.parent = none → FreesOnly i s t ∧ t.flag .record = true))

/-- R114, R115, R161, R162: HALT_KNEEL and RESUME_KNEEL, which the translator sends while a KNEEL lives and else counts as ignored. A halt
makes every LOWERING corner HALTED 20 mm above its last height, at the ride height at most, with its exhaust IDLE, and starts the halt
timer for 1000 ms; a resume before its end waits for it, and one after it makes every HALTED corner LOWERING, each forming its command at
once as at an offset event. One that finds no such corner, and either in a LEVEL reset (R122), is a stray. The commands are shown in
states that meet the fill law (R110, R111). That a command formed at a resume sets the corner's last outcome is the model's reading
(notes/assumptions/15.md), and the order of the corners' commands its choice (notes/assumptions/36.md). -/
def Obligations.KneelHalts : Prop :=
  ∀ (s : State) (d : Door),
    (∀ a : Action, a = .haltKneel ∨ a = .resumeKneel →
      act d false a s = { s with dt := { s.dt with ignored := s.dt.ignored.set d.val (bump 255 s.dt.ignored[d.val]) } }) ∧
    (∀ t, t = act d true .haltKneel s →
      (s.inReset .level = true ∨ (∀ c, (s.corner c).phase ≠ .lowering) →
        t = { s with lc := { s.lc with strays := bump 255 s.lc.strays } }) ∧
      (s.inReset .level = false → (∃ c, (s.corner c).phase = .lowering) →
        t = { s with
          lc := { s.lc with corners := t.lc.corners, haltAt := some (s.now + 1000 * ms), resumePending := false }
          valves := { s.valves with level := t.valves.level } } ∧
        ∀ c : Corner,
          ((s.corner c).phase ≠ .lowering → t.corner c = s.corner c ∧ t.valves.level[c.val] = s.valves.level[c.val]) ∧
          ((s.corner c).phase = .lowering →
            t.corner c = { s.corner c with
              phase := .halted
              haltHeight := match (s.corner c).last with
                | some h => min (s.hl.params.ride : Int) ((h : Int) + 20) | none => s.hl.params.ride } ∧
            (t.gen (.cornerExhaust c)).prog = .idle ∧ (t.gen (.cornerExhaust c)).isOpen = false ∧
            t.gen (.fill c) = s.gen (.fill c)))) ∧
    (∀ t, t = act d true .resumeKneel s →
      (s.inReset .level = true ∨ (∀ c, (s.corner c).phase ≠ .halted) →
        t = { s with lc := { s.lc with strays := bump 255 s.lc.strays } }) ∧
      (s.inReset .level = false → (∃ c, (s.corner c).phase = .halted) →
        (s.lc.haltAt.isSome = true → t = { s with lc := { s.lc with resumePending := true } }) ∧
        (s.lc.haltAt = none →
          t = { s with lc := t.lc, valves := { s.valves with level := t.valves.level } } ∧ t.lc.resumePending = false ∧
          t.lc.haltAt = none ∧ t.lc.strays = s.lc.strays ∧ t.lc.rising = s.lc.rising ∧
          ∀ c : Corner,
            (t.corner c).phase = (if (s.corner c).phase = .halted then .lowering else (s.corner c).phase) ∧
            (t.corner c).last = (s.corner c).last ∧ (t.corner c).sum = (s.corner c).sum ∧
            (t.corner c).count = (s.corner c).count ∧ (t.corner c).offset = (s.corner c).offset ∧
            ((s.corner c).phase ≠ .halted → (t.corner c).outcome = (s.corner c).outcome) ∧
            (∀ h, (s.corner c).phase = .halted → s.resetHeld = false → s.FillLaw → s.ActsAtOnce c h →
              t.Commanded c (s.targetFor c .lowering - (h : Int)) (s.bandIn s.lc.context)))))

/-! ### The joint -/

/-- R124 to R133, R138: a JS cycle. In a JOINT reset it keeps the lock engaged and does nothing else. With an angle not usable the steer
is locked, at a command of 0 with its valves IDLE, and without θ the damping is 7. Otherwise the target follows the joint inside the steer
limit, the command follows the target by at most 4 and rises to no value above the limit, and the valves follow the error; and the joint
enters LIMIT, with JOINT set, exactly by the limit condition: JOINT_LIMIT is then placed from its profile row, revived when RELEASING and
else left (R128), and at a leaving of LIMIT it is withdrawn. -/
def Obligations.JointCycle : Prop :=
  ∀ s : State, s.resetHeld = false → ∃ t, exec .jsCycle s = .next t ∧
    t.js.cycleAt = t.now + 10 * ms ∧ t.sp = s.sp ∧ t.mc = s.mc ∧ t.bc = s.bc ∧ t.dl = s.dl ∧ t.dt = s.dt ∧
    (s.inReset .joint = true →
      t = { s with now := t.now, js := { s.js with cycleAt := t.js.cycleAt, engaged := true } }) ∧
    (s.inReset .joint = false → ∀ row, row = s.hl.params.bands[(bandOf s.mc.speed).val] →
      ((s.js.state = .limit ↔ t.js.state = .limit) → t.rt = s.rt ∧ t.eu = s.eu ∧ t.lc = s.lc ∧ t.hl = s.hl) ∧
      (t.js.state = .limit → s.js.state ≠ .limit → t.flag .joint = true ∧
        (s.find .jointLimit .joint = none → (∃ i : Slot, 24 ≤ i.val ∧ s.recordAt i = none) →
          ProfileCond.fixed .ownerRelease ∈ (s.profile .jointLimit).conds →
          ∃ i r, t.recordAt i = some r ∧ r.FromRow .jointLimit .joint (s.profile .jointLimit) ∧
            r.scope = (s.profile .jointLimit).scope ∧ t.EnvelopeLaw) ∧
        (∀ i r, s.find .jointLimit .joint = some i → s.recordAt i = some r →
          (r.state = .releasing → Cond.ownerRelease ∈ r.conds →
            t.recordAt i = some { r.returned with ownerRelease := false } ∧ t.EnvelopeLaw) ∧
          (r.state ≠ .releasing → t.rt = s.rt))) ∧
      (s.js.state = .limit → t.js.state ≠ .limit →
        (s.find .jointLimit .joint = none → t.rt = s.rt) ∧
        (∀ i r, s.find .jointLimit .joint = some i → s.recordAt i = some r →
          (r.state ≠ .active ∨ r.ownerRelease = true → r.state ≠ .armed → t.rt = s.rt) ∧
          (s.GoesAtOnce i r → t.recordAt i = none ∧ t.EnvelopeLaw) ∧
          (r.state = .active → r.ownerRelease = false → r.conds = [.ownerRelease] → r.Lingers → s.hasChild i = false →
            t.recordAt i = some ({ r with ownerRelease := true }.released t.now) ∧ t.EnvelopeLaw))) ∧
      (s.mc.joint.usable = false ∨ s.mc.actuator.usable = false → t.js.locked = true ∧ t.js.target = 0 ∧
        t.js.command = 0 ∧ t.js.engaged = true ∧ (t.gen .kerbward).prog = .idle ∧ (t.gen .offward).prog = .idle) ∧
      (s.mc.joint.usable = false → t.js.damping = 7 ∧ t.js.state = s.js.state ∧ t.js.clear = 0 ∧ t.js.previous = none ∧
        t.js.rate = 0) ∧
      (t.gen .damping).prog = (if t.js.damping = 0 then .idle else .duty (min 100 (t.js.damping * 14))) ∧
      (s.mc.joint.usable = true →
        t.js.previous = some s.mc.joint.count ∧
        t.js.rate = (match s.js.previous with | some was => s.mc.joint.count - was | none => 0) ∧
        t.js.damping = max s.eu.env.damping
          (match t.js.state with | .normal => row.damping | .watch => min 7 (row.damping + 2) | .limit => 7) ∧
        (s.js.state ≠ .limit → (t.js.state = .limit ↔ 50 ≤ s.mc.speed ∧
          (row.limit ≤ s.mc.joint.count.natAbs ∨ row.omega ≤ t.js.rate.natAbs)) ∧
          (t.js.state = .limit → t.js.clear = 0) ∧
          (t.js.state ≠ .limit → t.js.clear = s.js.clear ∧
            t.js.state = if min row.warn row.limit ≤ s.mc.joint.count.natAbs then .watch else .normal)) ∧
        (s.js.state = .limit →
          (min row.warn row.limit ≤ s.mc.joint.count.natAbs → t.js.state = .limit ∧ t.js.clear = 0) ∧
          (s.mc.joint.count.natAbs < min row.warn row.limit → s.js.clear < 99 →
            t.js.state = .limit ∧ t.js.clear = s.js.clear + 1) ∧
          (s.mc.joint.count.natAbs < min row.warn row.limit → 99 ≤ s.js.clear → t.js.state = .normal ∧ t.js.clear = 0))) ∧
      (s.mc.joint.usable = true → s.mc.actuator.usable = true →
        t.js.locked = false ∧
        t.js.target = (if row.gain = 0 then 0
          else clamp ((-(s.mc.joint.count * (row.gain : Int))).tdiv 1024) (-140) (min 140 s.eu.env.steer : Nat)) ∧
        (t.js.command - s.js.command).natAbs ≤ 4 ∧ (s.js.command < t.js.command → t.js.command ≤ s.eu.env.steer) ∧
        ((t.js.target - s.js.command).natAbs ≤ 4 → t.js.command = t.js.target) ∧
        (s.js.command + 4 < t.js.target → t.js.command = s.js.command + 4) ∧
        (t.js.target < s.js.command - 4 → t.js.command = s.js.command - 4) ∧
        (t.js.engaged = true ↔ row.gain = 0 ∧ t.js.target = 0 ∧ t.js.command = 0) ∧
        (t.js.engaged = false → t.js.error = t.js.command - s.mc.actuator.count ∧
          (2 < t.js.error → (t.gen .kerbward).prog = .duty (min 100 (t.js.error.natAbs * 8)) ∧ (t.gen .offward).prog = .idle) ∧
          (t.js.error < -2 → (t.gen .offward).prog = .duty (min 100 (t.js.error.natAbs * 8)) ∧ (t.gen .kerbward).prog = .idle) ∧
          (-2 ≤ t.js.error → t.js.error ≤ 2 → (t.gen .kerbward).prog = .idle ∧ (t.gen .offward).prog = .idle)) ∧
        (t.js.engaged = true → (t.gen .kerbward).prog = .idle ∧ (t.gen .offward).prog = .idle)))

/-! ### Door lines -/

/-- R140 to R142, R144, R145, R157, R166: a good word on a line whose clock is free fills the holding word and holds the line; the line is
PRESENT with its loss timer standing at 250 ms; a state code sets the door's state, but behind a prefix it sets none; a line that was LOST
is queued its permission and QUERY_STATE; no other line is touched. That a word may come whole to a LISTENING line, with no start bit told
before it, is the model's reading (notes/assumptions/8.md). -/
def Obligations.DoorWordTaken : Prop :=
  ∀ (s : State) (d : Door) (code : BitVec 7) (parity : Bool) (stop : StopBit) (l : Line), s.resetHeld = false →
    s.inReset .doors = false → l = s.line d → l.activity = .listening ∨ l.activity = .receiving → l.clockLow = false →
    oddOnes code parity = true → stop ≠ .low →
    ∃ t, exec (.doorWord d code parity stop) s = .next t ∧ t.now = s.now ∧
      (t.line d).holding = some code ∧ (t.line d).activity = .held ∧ (t.line d).clockLow = true ∧
      (t.line d).minimumAt = some (s.now + 100) ∧ (t.line d).present = true ∧ (t.line d).sendWait = false ∧
      (t.line d).loss = .paused (250 * ms) ∧ (t.line d).errors = l.errors ∧ (t.line d).prefixPending = l.prefixPending ∧
      (l.present = true → (t.line d).queue = l.queue) ∧
      (l.present = false →
        (t.line d).queue = enqueue .queryState (enqueue (if s.isReleased d then .permit else .withhold) l.queue)) ∧
      (l.prefixPending = true → (t.line d).door = l.door ∧ t.dl.ramp = s.dl.ramp ∧ t.dt.prefixAt[d.val] = none ∧ t.rt = s.rt) ∧
      (l.prefixPending = false →
        (t.line d).door = reported code l.door ∧
        t.dl.ramp = (if d = 1 ∧ code = 0x15 then .out else if d = 1 ∧ code = 0x16 then .stowed else s.dl.ramp) ∧
        t.dt = s.dt ∧ ((t.line d).door ≠ l.door ∨ t.dl.ramp ≠ s.dl.ramp → t.flag .door = true) ∧
        ((t.line d).door = l.door → t.dl.ramp = s.dl.ramp → t.rt = s.rt ∧ t.eu = s.eu ∧ t.hl = s.hl)) ∧
      (∀ b : Door, b ≠ d → t.line b = s.line b) ∧ t.sp = s.sp ∧ t.mc = s.mc ∧ t.bc = s.bc ∧ t.js = s.js

/-- R140, R141: a word with an even count of ones or a low stop bit, and one whose clock stops, is discarded and counted; a start bit
makes a LISTENING line RECEIVING. Nothing else changes. That a word may be discarded on a LISTENING line, with no start bit told before
it, is the model's reading (notes/assumptions/8.md), and that a stopped clock is told 200 µs after its last edge its choice
(notes/assumptions/31.md). -/
def Obligations.DoorWordsDiscarded : Prop :=
  ∀ (s : State) (d : Door) (l : Line), s.resetHeld = false → l = s.line d → l.clockLow = false →
    (∀ code parity stop, s.inReset .doors = false → l.activity = .listening ∨ l.activity = .receiving →
      oddOnes code parity = false ∨ stop = .low →
      exec (.doorWord d code parity stop) s =
        .next (s.withLine d { l with errors := min 255 (l.errors + 1), activity := .listening, freeSince := s.now })) ∧
    (l.activity = .receiving →
      exec (.doorWordClockStop d) s = .next ((s.atTime (max s.now (l.edgeAt + 200))).withLine d
        { l with errors := min 255 (l.errors + 1), activity := .listening, freeSince := max s.now (l.edgeAt + 200) })) ∧
    (s.inReset .doors = false → l.activity = .listening →
      exec (.doorStartBit d) s = .next (s.withLine d { l with activity := .receiving, edgeAt := s.now }))

/-- R142, R147, R148: the end of the 100 µs minimum frees a clock that no cause holds low and leaves one that a full holding word holds; a
send starts on a line that meets R147, after 1 ms of free listening, with both wires low; and the part frees its clock after 100 µs,
keeping the data wire low. That SEND_START moves the clock to the end of the listening time is the model's choice
(notes/assumptions/31.md). -/
def Obligations.LineClock : Prop :=
  ∀ (s : State) (d : Door) (l : Line) (e : Nat), s.resetHeld = false → l = s.line d →
    (l.minimumAt = some e → l.clockLow = true → l.activity = .listening → s.inReset .doors = false →
      exec (.inhibitMinEnd d) s = .next ((s.atTime (max s.now e)).withLine d
        { l with clockLow := false, minimumAt := none, freeSince := max s.now e, loss := l.loss.resume (max s.now e) })) ∧
    (l.minimumAt = some e → l.activity = .held →
      exec (.inhibitMinEnd d) s = .next ((s.atTime (max s.now e)).withLine d { l with minimumAt := none })) ∧
    (∀ c rest, l.queue = c :: rest → l.present = true → l.sendWait = false → l.holding = none → s.inReset .doors = false →
      l.activity = .listening → l.clockLow = false →
      ∃ t, exec (.sendStart d) s = .next t ∧ t.now = max s.now (l.freeSince + 1 * ms) ∧
        t = (s.atTime t.now).withLine d (t.line d) ∧
        t.line d = { l with activity := .sending, dataLow := true, clockLow := true, minimumAt := some (t.now + 100),
                            loss := l.loss.pause t.now, send := some ⟨c, false, .alone, t.now + 100, t.now + 100 + 2 * ms, none⟩ }) ∧
    (l.queue = [] ∨ l.present = false ∨ l.sendWait = true ∨ l.holding ≠ none ∨ s.inReset .doors = true ∨
      l.activity ≠ .listening → exec (.sendStart d) s = .next s) ∧
    (∀ x, l.send = some x → x.released = false → l.activity = .sending → l.clockLow = true →
      (∀ m, l.minimumAt = some m → m ≤ x.releaseAt) →
      ∃ t, exec (.sendClockRelease d) s = .next t ∧ t.now = max s.now x.releaseAt ∧
        t = (s.atTime t.now).withLine d (t.line d) ∧
        t.line d = { l with clockLow := false, minimumAt := none, freeSince := t.now,
                            send := some { x with released := true, timeoutAt := t.now + 2 * ms } })

/-- R148, R149: the end of an attempt, by the eleventh edge or by its time running out. The start bit, the code, the least significant bit
first, the odd parity bit and the stop bit have been set on the data wire by the eleventh edge. An attempt without acknowledge sets send
wait, and the queue takes the row of R149's table, a third failure dropping the head with DOOR set. With no word kept, or a bad one, which
is counted, both wires are free and the line is LISTENING; a good one fills the holding word and the line is HELD (R145). That the ten
levels are taken with the eleventh edge, and none at a time that ran out, is the model's choice (notes/assumptions/31.md). -/
def Obligations.SendAttemptEnds : Prop :=
  ∀ (s : State) (d : Door) (l : Line) (x : Send) (c : Instr) (ack : Bool) (code : BitVec 7), s.resetHeld = false → l = s.line d →
    l.send = some x → x.released = true → code.toNat = x.command.code →
    c = .sendAttemptEnd d ack ∨ (c = .sendTimeout d ∧ ack = false) →
    ∃ t, exec c s = .next t ∧ t.now = (if c = .sendTimeout d then max s.now x.timeoutAt else s.now) ∧
      (t.line d).dataLow = false ∧ (t.line d).send = none ∧
      (c = .sendTimeout d → (t.line d).sent = l.sent) ∧
      (c ≠ .sendTimeout d → ∃ p, oddOnes code p = true ∧
        (t.line d).sent = [false, code[0], code[1], code[2], code[3], code[4], code[5], code[6], p, true]) ∧
      (x.kept = none ∨ l.present = true →
        (x.fate = .alone → ack = true → (t.line d).queue = l.queue.tail ∧ (t.line d).attempts = 0) ∧
        (x.fate = .alone → ack = false → l.attempts < 2 →
          (t.line d).queue = l.queue ∧ (t.line d).attempts = l.attempts + 1) ∧
        (x.fate = .alone → ack = false → 2 ≤ l.attempts →
          (t.line d).queue = l.queue.tail ∧ (t.line d).attempts = 0 ∧ t.flag .door = true) ∧
        (x.fate ≠ .alone → (t.line d).queue = l.queue ∧ (t.line d).attempts = 0)) ∧
      (x.kept = none ∨ (∃ w, x.kept = some w ∧ (oddOnes w.code w.parity = false ∨ w.stop = .low)) →
        t = { s with now := t.now, dl := { s.dl with lines := s.dl.lines.set d.val (t.line d) },
                     hl := { s.hl with flags := t.hl.flags } } ∧
        t.line d = { l with activity := .listening, dataLow := false, clockLow := false, minimumAt := none, send := none,
                            freeSince := t.now, loss := l.loss.resume t.now, sendWait := l.sendWait || !ack,
                            errors := if x.kept = none then l.errors else bump 255 l.errors,
                            queue := (t.line d).queue, attempts := (t.line d).attempts, sent := (t.line d).sent } ∧
        (ack = true ∨ x.fate ≠ .alone ∨ l.attempts < 2 → t.hl = s.hl)) ∧
      (∀ w, x.kept = some w → oddOnes w.code w.parity = true → w.stop ≠ .low →
        (t.line d).holding = some w.code ∧ (t.line d).activity = .held ∧ (t.line d).clockLow = true ∧
        (t.line d).minimumAt = some (t.now + 100) ∧ (t.line d).present = true ∧ (t.line d).sendWait = !ack ∧
        (t.line d).loss = .paused (250 * ms) ∧ (t.line d).errors = l.errors ∧
        (t.line d).door = (if l.prefixPending = true then l.door else reported w.code l.door) ∧
        (l.prefixPending = true → t.dt.prefixAt[d.val] = none ∧ t.rt = s.rt) ∧
        (∀ b : Door, b ≠ d → t.line b = s.line b) ∧ t.sp = s.sp ∧ t.mc = s.mc ∧ t.bc = s.bc ∧ t.js = s.js)

/-- R150: a loss timer's expiry makes the line LOST, with its prefix dropped and its queue and error count kept; the door becomes UNKNOWN,
and door 2's ramp with it, a change setting DOOR and asserting the drive-inhibit line. The order of the door's and the ramp's event is the
model's choice (notes/assumptions/16.md). -/
def Obligations.LineIsLost : Prop :=
  ∀ (s : State) (d : Door) (l : Line) (e : Nat), s.resetHeld = false → l = s.line d → l.loss = .running e →
    ∃ t, exec (.lossTimerExpiry d) s = .next t ∧ t.now = max s.now e ∧
      t.line d = { l with present := false, loss := .stopped, prefixPending := false, sendWait := true, door := .unknown } ∧
      (∀ b : Door, b ≠ d → t.line b = s.line b) ∧ t.dl.ramp = (if d = 1 then .unknown else s.dl.ramp) ∧
      t.dt = { s.dt with prefixAt := s.dt.prefixAt.set d.val none } ∧
      (l.door ≠ .unknown → t.eu.inhibit = true ∧ t.flag .door = true) ∧
      (l.door = .unknown → t.dl.ramp = s.dl.ramp → t.rt = s.rt ∧ t.eu = s.eu ∧ t.hl = s.hl) ∧
      t.sp = s.sp ∧ t.mc = s.mc ∧ t.bc = s.bc ∧ t.js = s.js

/-! ### Translation -/

/-- R156 to R160: the translator takes the word of the first line after the one served last; the holding word becomes empty and the line
leaves HELD; a main-page 0x7F sets the line's prefix for 100 ms; any other word runs its row's cell of the context, which is SERVICE in
SERVICE mode, else MOVING while the moving flag is set, else RELEASED while the door is in the release set, else HELD; shown for cells of
IGNORE, of a SEND, of nothing, and of a PLACE that meets no record and no STOP_HOLD; and the prefix timer drops the prefix. -/
def Obligations.TranslatorTakesWord : Prop :=
  ∀ s : State, s.resetHeld = false →
    ((∀ d : Door, (s.line d).holding = none) → exec .translateWord s = .next s) ∧
    (∀ (k d : Door) (code : BitVec 7) (l : Line) (row : Fin 256) (x : Context), d = s.dt.lastServed + 1 + k →
      x = (if s.hl.service = true then .service else if s.mc.moving = true then .moving
           else if s.dt.releaseSet.getLsbD d.val = true then .released else .held) →
      (∀ j : Door, j < k → (s.line (s.dt.lastServed + 1 + j)).holding = none) →
      (s.line d).holding = some code → l = Line.taken s.now (s.inReset .doors) (s.line d) →
      row.val = (if (s.line d).prefixPending then 128 else 0) + code.toNat →
      (l.holding = none ∧ l.activity ≠ .held ∧ l.queue = (s.line d).queue) ∧
      ((s.line d).prefixPending = false → code = 0x7F →
        exec .translateWord s = .next { s with
          dl := { s.dl with lines := s.dl.lines.set d.val { l with prefixPending := true } }
          dt := { s.dt with lastServed := d, prefixAt := s.dt.prefixAt.set d.val (some (s.now + 100 * ms)) } }) ∧
      ((s.line d).prefixPending = true ∨ code ≠ 0x7F →
        (cellAt s row x = [] →
          exec .translateWord s = .next { s with
            dl := { s.dl with lines := s.dl.lines.set d.val { l with prefixPending := false } }
            dt := { s.dt with lastServed := d } }) ∧
        (cellAt s row x = [.ignore] →
          exec .translateWord s = .next { s with
            dl := { s.dl with lines := s.dl.lines.set d.val { l with prefixPending := false } }
            dt := { s.dt with lastServed := d, ignored := s.dt.ignored.set d.val (min 255 (s.dt.ignored[d.val] + 1)) } }) ∧
        (∀ c, cellAt s row x = [.send c] → s.inReset .doors = false →
          exec .translateWord s = .next { s with
            dl := { s.dl with lines := s.dl.lines.set d.val (Line.queued c { l with prefixPending := false }) }
            dt := { s.dt with lastServed := d } }) ∧
        (∀ kind v i, cellAt s row x = [.place kind v] → kind.permits (.door d) = true →
          s.find kind (.door d) = none → s.find .stopHold .driver = none → freeSlotFor s (.door d) = some i →
          Cond.ownerRelease ∈ placedConds (s.profile kind) { kind := kind, owner := .door d, variant := some v } →
          ∃ t r, exec .translateWord s = .next t ∧ t.recordAt i = some r ∧ r.kind = kind ∧ r.owner = .door d ∧
            r.state = (if kind.trigger = .stationary ∧ s.mc.stationary = false then .armed else .active) ∧
            r.parent = none ∧ t.dt = { s.dt with lastServed := d } ∧ t.line d = { l with prefixPending := false } ∧
            t.EnvelopeLaw ∧ t.sp = s.sp ∧ t.mc = s.mc ∧ t.bc = s.bc ∧ t.js = s.js))) ∧
    (∀ (d : Door) (e : Nat), s.dt.prefixAt[d.val] = some e →
      exec (.prefixTimerExpiry d) s = .next { s with
        now := max s.now e
        dl := { s.dl with lines := s.dl.lines.set d.val { s.line d with prefixPending := false } }
        dt := { s.dt with prefixAt := s.dt.prefixAt.set d.val none } })

/-- R158 to R162: a word runs the actions of its cell one after another, each on the state the one before has left and with kneel presence
as it stood at the taking. RELEASE acts like the door's own RETIRE, and finds nothing or a record already released without effect;
CLEAR_QUEUE empties the queue, but in a DOORS reset; PLACE answers a live record with nothing, counts a kind the door may not place as
ignored, and names the DRIVER's STOP_HOLD as the parent when that is ACTIVE or RELEASING, which returns it to ACTIVE, and has a depth of 3
or less (R8). HALT_KNEEL and RESUME_KNEEL are `KneelHalts`. -/
def Obligations.TranslatorActions : Prop :=
  (∀ (s u : State) (d : Door) (actions : List Action), s.resetHeld = false → CellBegins s d actions u →
    exec .translateWord s = .next (actions.foldl (fun t a => act d u.eu.env.kneel a t) u)) ∧
  ∀ (s : State) (d : Door) (kneel : Bool) (k : Kind) (v : Variant),
    (act d kneel .clearQueue s = if s.inReset .doors then s else s.withLine d (Line.cleared (s.line d))) ∧
    (∀ c, act d kneel (.send c) s = if s.inReset .doors then s else s.withLine d (Line.queued c (s.line d))) ∧
    (act d kneel .ignore s = { s with dt := { s.dt with ignored := s.dt.ignored.set d.val (bump 255 s.dt.ignored[d.val]) } }) ∧
    (s.find k (.door d) = none → act d kneel (.release k) s = s) ∧
    (k.permits (.door d) = false → act d kneel (.place k v) s = act d kneel .ignore s) ∧
    (∀ i r, s.find k (.door d) = some i → s.recordAt i = some r →
      (r.state = .releasing ∨ (r.state = .active ∧ r.ownerRelease = true) → act d kneel (.release k) s = s) ∧
      (r.state = .active → r.ownerRelease = false → (s.line d).door ≠ .locked → Cond.doorLocked d ∈ r.conds →
        act d kneel (.release k) s = { s with rt := { s.rt with
          slots := s.rt.slots.set i.val ⟨s.rt.slots[i.val].gen, some { r with ownerRelease := true }⟩ } }) ∧
      (r.state = .active → r.ownerRelease = false → r.kind ≠ .kneel → s.hasChild i = false →
        (∀ c ∈ r.conds, c = .ownerRelease ∨ condHolds s i r c = true) →
        (act d kneel (.release k) s).EnvelopeLaw ∧
        (r.Lingers → ChangesOnly i ({ r with ownerRelease := true }.released s.now) s (act d kneel (.release k) s)) ∧
        (¬ r.Lingers → r.parent = none → FreesOnly i s (act d kneel (.release k) s) ∧ (act d kneel (.release k) s).flag .record = true)) ∧
      (r.state = .armed → r.kind ≠ .kneel → r.parent = none →
        FreesOnly i s (act d kneel (.release k) s) ∧ (act d kneel (.release k) s).flag .record = true) ∧
      (r.state ≠ .releasing → k.permits (.door d) = true → act d kneel (.place k v) s = s)) ∧
    (∀ i j p, k.permits (.door d) = true → s.find k (.door d) = none → s.find .stopHold .driver = some j →
      s.recordAt j = some p → freeSlotFor s (.door d) = some i →
      Cond.ownerRelease ∈ placedConds (s.profile k) { kind := k, owner := .door d, variant := some v } →
      ∃ t r, t = act d kneel (.place k v) s ∧ t.recordAt i = some r ∧ r.kind = k ∧ r.owner = .door d ∧
        r.state = (if k.trigger = .stationary ∧ s.mc.stationary = false then .armed else .active) ∧ BlocksKept s t ∧
        t.EnvelopeLaw ∧
        (p.state = .armed ∨ 4 ≤ p.depth → r.parent = none ∧ r.depth = 1) ∧
        (p.state ≠ .armed → p.depth ≤ 3 →
          r.parent = some (s.handleAt j) ∧ r.depth = p.depth + 1 ∧
          t.recordAt j = some (if p.state = .releasing then p.returned else p)))

/-! ### What every step keeps -/

/-- R40, R41: in every state from which the drive-inhibit line is as R40 calls for, each step leaves it so. -/
def Obligations.InhibitLawKept : Prop :=
  ∀ s t : State, s.InhibitLaw → step s = .next t → t.InhibitLaw

/-- R30, R37: in every state that holds the envelope its records form, each step leaves it so. R38: a forming of the envelope leaves the
records as they are and advances the sequence number by one, from 65535 to 0, exactly when the envelope formed differs from the one it
replaces. -/
def Obligations.EnvelopeLawKept : Prop :=
  (∀ s t : State, s.EnvelopeLaw → step s = .next t → t.EnvelopeLaw) ∧
  ∀ s t : State, t = formEnvelope s → t.rt = s.rt ∧ t.eu.env = envelopeOf s.rt.slots ∧
    t.eu.seq = (if envelopeOf s.rt.slots = s.eu.env then s.eu.seq else s.eu.seq + 1)

/-- R72: no step lets two members of a pair hold programs at once, or opens a valve whose generator is IDLE. -/
def Obligations.InterlockLawKept : Prop :=
  ∀ s t : State, s.InterlockLaw → step s = .next t → t.InterlockLaw

/-- R110, R111: every step keeps the fills under their two grants, and every fill cut while RESERVE reads BELOW. -/
def Obligations.FillLawKept : Prop :=
  ∀ s t : State, s.FillLaw → step s = .next t → t.FillLaw

/-- R1, R6: every step keeps one record at most for a kind and an owner, each in its owner's class. -/
def Obligations.RecordLawKept : Prop :=
  ∀ s t : State, s.RecordLaw → step s = .next t → t.RecordLaw

/-- R9: every step keeps every named parent live and ACTIVE one depth above its child, so that no record has more than three ancestors and
none in RELEASING has a child. -/
def Obligations.ParentLawKept : Prop :=
  ∀ s t : State, s.ParentLaw → step s = .next t → t.ParentLaw

/-- R4, R7, R23, R31 to R35, R44, R52, R58: every step keeps the values of the records, the profile rows, the envelope, the samples, the
speeds and the angle counts in their ranges. -/
def Obligations.RangeLawKept : Prop :=
  ∀ s t : State, s.RangeLaw → step s = .next t → t.RangeLaw

/-- R50, R52, R55, R57, R67, R69, R141, R146, R149, R159, R177, R179: in a state whose values stand in their ranges, every step keeps the
parameter store, the counts, the brake, corner and joint records, the programs, the queues and the response within theirs. -/
def Obligations.CountLawKept : Prop :=
  ∀ s t : State, s.RangeLaw → s.CountLaw → step s = .next t → t.CountLaw

/-- R89: every step keeps every brake target within the two laws, in every state whose values stand in their ranges; and a brake cycle at
a speed below 30 restores every floor in full: it leaves no channel's target below its axle's floor. -/
def Obligations.BrakeTargetLaws : Prop :=
  (∀ s t : State, s.RangeLaw → s.BrakeLaw → step s = .next t → t.BrakeLaw) ∧
  ∀ (s t : State), s.RangeLaw → s.resetHeld = false → s.inReset .brake = false → exec .brakeCycle s = .next t →
    s.mc.speed < 30 → ∀ (c : Corner) (x : Nat), t.bc.channels[c.val].target = some x → (t.brakeAxle c).floor ≤ x

/-- The state after reset meets the laws that every step keeps. -/
def Obligations.LawsHoldAtReset : Prop :=
  State.reset.InhibitLaw ∧ State.reset.EnvelopeLaw ∧ State.reset.InterlockLaw ∧ State.reset.FillLaw ∧
  State.reset.RecordLaw ∧ State.reset.ParentLaw ∧ State.reset.RangeLaw ∧ State.reset.CountLaw ∧ State.reset.BrakeLaw
end

