-- ==== Sys2Proof/Laws/State.lean ====
section
/-! SUPPORT. The small lemmas of State: one per field per update, true by unfolding, so that no later proof unfolds a record update. -/

namespace Sys2Proof.Machine

variable (s : State)

/-! ### atLeast -/

@[simp] theorem atLeast_pending (n : Nat) : (atLeast n s).pending = s.pending := rfl
@[simp] theorem atLeast_resetHeld (n : Nat) : (atLeast n s).resetHeld = s.resetHeld := rfl
@[simp] theorem atLeast_rt (n : Nat) : (atLeast n s).rt = s.rt := rfl
@[simp] theorem atLeast_eu (n : Nat) : (atLeast n s).eu = s.eu := rfl
@[simp] theorem atLeast_sp (n : Nat) : (atLeast n s).sp = s.sp := rfl
@[simp] theorem atLeast_mc (n : Nat) : (atLeast n s).mc = s.mc := rfl
@[simp] theorem atLeast_valves (n : Nat) : (atLeast n s).valves = s.valves := rfl
@[simp] theorem atLeast_bc (n : Nat) : (atLeast n s).bc = s.bc := rfl
@[simp] theorem atLeast_lc (n : Nat) : (atLeast n s).lc = s.lc := rfl
@[simp] theorem atLeast_js (n : Nat) : (atLeast n s).js = s.js := rfl
@[simp] theorem atLeast_dl (n : Nat) : (atLeast n s).dl = s.dl := rfl
@[simp] theorem atLeast_dt (n : Nat) : (atLeast n s).dt = s.dt := rfl
@[simp] theorem atLeast_hl (n : Nat) : (atLeast n s).hl = s.hl := rfl
@[simp] theorem atLeast_degraded (n : Nat) : (atLeast n s).degraded = s.degraded := rfl

/-! ### setFlag -/

@[simp] theorem setFlag_pending (f : Flag) : (setFlag f s).pending = s.pending := rfl
@[simp] theorem setFlag_now (f : Flag) : (setFlag f s).now = s.now := rfl
@[simp] theorem setFlag_resetHeld (f : Flag) : (setFlag f s).resetHeld = s.resetHeld := rfl
@[simp] theorem setFlag_rt (f : Flag) : (setFlag f s).rt = s.rt := rfl
@[simp] theorem setFlag_eu (f : Flag) : (setFlag f s).eu = s.eu := rfl
@[simp] theorem setFlag_sp (f : Flag) : (setFlag f s).sp = s.sp := rfl
@[simp] theorem setFlag_mc (f : Flag) : (setFlag f s).mc = s.mc := rfl
@[simp] theorem setFlag_valves (f : Flag) : (setFlag f s).valves = s.valves := rfl
@[simp] theorem setFlag_bc (f : Flag) : (setFlag f s).bc = s.bc := rfl
@[simp] theorem setFlag_lc (f : Flag) : (setFlag f s).lc = s.lc := rfl
@[simp] theorem setFlag_js (f : Flag) : (setFlag f s).js = s.js := rfl
@[simp] theorem setFlag_dl (f : Flag) : (setFlag f s).dl = s.dl := rfl
@[simp] theorem setFlag_dt (f : Flag) : (setFlag f s).dt = s.dt := rfl
@[simp] theorem setFlag_degraded (f : Flag) : (setFlag f s).degraded = s.degraded := rfl

/-! ### evalInhibit -/

@[simp] theorem evalInhibit_pending : (evalInhibit s).pending = s.pending := rfl
@[simp] theorem evalInhibit_now : (evalInhibit s).now = s.now := rfl
@[simp] theorem evalInhibit_resetHeld : (evalInhibit s).resetHeld = s.resetHeld := rfl
@[simp] theorem evalInhibit_rt : (evalInhibit s).rt = s.rt := rfl
@[simp] theorem evalInhibit_sp : (evalInhibit s).sp = s.sp := rfl
@[simp] theorem evalInhibit_mc : (evalInhibit s).mc = s.mc := rfl
@[simp] theorem evalInhibit_valves : (evalInhibit s).valves = s.valves := rfl
@[simp] theorem evalInhibit_bc : (evalInhibit s).bc = s.bc := rfl
@[simp] theorem evalInhibit_lc : (evalInhibit s).lc = s.lc := rfl
@[simp] theorem evalInhibit_js : (evalInhibit s).js = s.js := rfl
@[simp] theorem evalInhibit_dl : (evalInhibit s).dl = s.dl := rfl
@[simp] theorem evalInhibit_dt : (evalInhibit s).dt = s.dt := rfl
@[simp] theorem evalInhibit_hl : (evalInhibit s).hl = s.hl := rfl
@[simp] theorem evalInhibit_degraded : (evalInhibit s).degraded = s.degraded := rfl

/-! ### changeRecord -/

@[simp] theorem changeRecord_pending (i : Slot) (f : Record → Record) : (changeRecord i f s).pending = s.pending := rfl
@[simp] theorem changeRecord_now (i : Slot) (f : Record → Record) : (changeRecord i f s).now = s.now := rfl
@[simp] theorem changeRecord_resetHeld (i : Slot) (f : Record → Record) : (changeRecord i f s).resetHeld = s.resetHeld := rfl
@[simp] theorem changeRecord_eu (i : Slot) (f : Record → Record) : (changeRecord i f s).eu = s.eu := rfl
@[simp] theorem changeRecord_sp (i : Slot) (f : Record → Record) : (changeRecord i f s).sp = s.sp := rfl
@[simp] theorem changeRecord_mc (i : Slot) (f : Record → Record) : (changeRecord i f s).mc = s.mc := rfl
@[simp] theorem changeRecord_valves (i : Slot) (f : Record → Record) : (changeRecord i f s).valves = s.valves := rfl
@[simp] theorem changeRecord_bc (i : Slot) (f : Record → Record) : (changeRecord i f s).bc = s.bc := rfl
@[simp] theorem changeRecord_lc (i : Slot) (f : Record → Record) : (changeRecord i f s).lc = s.lc := rfl
@[simp] theorem changeRecord_js (i : Slot) (f : Record → Record) : (changeRecord i f s).js = s.js := rfl
@[simp] theorem changeRecord_dl (i : Slot) (f : Record → Record) : (changeRecord i f s).dl = s.dl := rfl
@[simp] theorem changeRecord_dt (i : Slot) (f : Record → Record) : (changeRecord i f s).dt = s.dt := rfl
@[simp] theorem changeRecord_hl (i : Slot) (f : Record → Record) : (changeRecord i f s).hl = s.hl := rfl
@[simp] theorem changeRecord_degraded (i : Slot) (f : Record → Record) : (changeRecord i f s).degraded = s.degraded := rfl

/-! ### putRecord -/

@[simp] theorem putRecord_pending (i : Slot) (r : Record) : (putRecord i r s).pending = s.pending := rfl
@[simp] theorem putRecord_now (i : Slot) (r : Record) : (putRecord i r s).now = s.now := rfl
@[simp] theorem putRecord_resetHeld (i : Slot) (r : Record) : (putRecord i r s).resetHeld = s.resetHeld := rfl
@[simp] theorem putRecord_eu (i : Slot) (r : Record) : (putRecord i r s).eu = s.eu := rfl
@[simp] theorem putRecord_sp (i : Slot) (r : Record) : (putRecord i r s).sp = s.sp := rfl
@[simp] theorem putRecord_mc (i : Slot) (r : Record) : (putRecord i r s).mc = s.mc := rfl
@[simp] theorem putRecord_valves (i : Slot) (r : Record) : (putRecord i r s).valves = s.valves := rfl
@[simp] theorem putRecord_bc (i : Slot) (r : Record) : (putRecord i r s).bc = s.bc := rfl
@[simp] theorem putRecord_lc (i : Slot) (r : Record) : (putRecord i r s).lc = s.lc := rfl
@[simp] theorem putRecord_js (i : Slot) (r : Record) : (putRecord i r s).js = s.js := rfl
@[simp] theorem putRecord_dl (i : Slot) (r : Record) : (putRecord i r s).dl = s.dl := rfl
@[simp] theorem putRecord_dt (i : Slot) (r : Record) : (putRecord i r s).dt = s.dt := rfl
@[simp] theorem putRecord_hl (i : Slot) (r : Record) : (putRecord i r s).hl = s.hl := rfl
@[simp] theorem putRecord_degraded (i : Slot) (r : Record) : (putRecord i r s).degraded = s.degraded := rfl

/-! ### changeCorner -/

@[simp] theorem changeCorner_pending (c : Corner) (f : CornerRecord → CornerRecord) : (changeCorner c f s).pending = s.pending := rfl
@[simp] theorem changeCorner_now (c : Corner) (f : CornerRecord → CornerRecord) : (changeCorner c f s).now = s.now := rfl
@[simp] theorem changeCorner_resetHeld (c : Corner) (f : CornerRecord → CornerRecord) : (changeCorner c f s).resetHeld = s.resetHeld := rfl
@[simp] theorem changeCorner_rt (c : Corner) (f : CornerRecord → CornerRecord) : (changeCorner c f s).rt = s.rt := rfl
@[simp] theorem changeCorner_eu (c : Corner) (f : CornerRecord → CornerRecord) : (changeCorner c f s).eu = s.eu := rfl
@[simp] theorem changeCorner_sp (c : Corner) (f : CornerRecord → CornerRecord) : (changeCorner c f s).sp = s.sp := rfl
@[simp] theorem changeCorner_mc (c : Corner) (f : CornerRecord → CornerRecord) : (changeCorner c f s).mc = s.mc := rfl
@[simp] theorem changeCorner_valves (c : Corner) (f : CornerRecord → CornerRecord) : (changeCorner c f s).valves = s.valves := rfl
@[simp] theorem changeCorner_bc (c : Corner) (f : CornerRecord → CornerRecord) : (changeCorner c f s).bc = s.bc := rfl
@[simp] theorem changeCorner_js (c : Corner) (f : CornerRecord → CornerRecord) : (changeCorner c f s).js = s.js := rfl
@[simp] theorem changeCorner_dl (c : Corner) (f : CornerRecord → CornerRecord) : (changeCorner c f s).dl = s.dl := rfl
@[simp] theorem changeCorner_dt (c : Corner) (f : CornerRecord → CornerRecord) : (changeCorner c f s).dt = s.dt := rfl
@[simp] theorem changeCorner_hl (c : Corner) (f : CornerRecord → CornerRecord) : (changeCorner c f s).hl = s.hl := rfl
@[simp] theorem changeCorner_degraded (c : Corner) (f : CornerRecord → CornerRecord) : (changeCorner c f s).degraded = s.degraded := rfl

/-! ### countStray -/

@[simp] theorem countStray_pending : (countStray s).pending = s.pending := rfl
@[simp] theorem countStray_now : (countStray s).now = s.now := rfl
@[simp] theorem countStray_resetHeld : (countStray s).resetHeld = s.resetHeld := rfl
@[simp] theorem countStray_rt : (countStray s).rt = s.rt := rfl
@[simp] theorem countStray_eu : (countStray s).eu = s.eu := rfl
@[simp] theorem countStray_sp : (countStray s).sp = s.sp := rfl
@[simp] theorem countStray_mc : (countStray s).mc = s.mc := rfl
@[simp] theorem countStray_valves : (countStray s).valves = s.valves := rfl
@[simp] theorem countStray_bc : (countStray s).bc = s.bc := rfl
@[simp] theorem countStray_js : (countStray s).js = s.js := rfl
@[simp] theorem countStray_dl : (countStray s).dl = s.dl := rfl
@[simp] theorem countStray_dt : (countStray s).dt = s.dt := rfl
@[simp] theorem countStray_hl : (countStray s).hl = s.hl := rfl
@[simp] theorem countStray_degraded : (countStray s).degraded = s.degraded := rfl

/-! ### leaveRising -/

@[simp] theorem leaveRising_pending (h : Handle) : (leaveRising h s).pending = s.pending := rfl
@[simp] theorem leaveRising_now (h : Handle) : (leaveRising h s).now = s.now := rfl
@[simp] theorem leaveRising_resetHeld (h : Handle) : (leaveRising h s).resetHeld = s.resetHeld := rfl
@[simp] theorem leaveRising_rt (h : Handle) : (leaveRising h s).rt = s.rt := rfl
@[simp] theorem leaveRising_eu (h : Handle) : (leaveRising h s).eu = s.eu := rfl
@[simp] theorem leaveRising_sp (h : Handle) : (leaveRising h s).sp = s.sp := rfl
@[simp] theorem leaveRising_mc (h : Handle) : (leaveRising h s).mc = s.mc := rfl
@[simp] theorem leaveRising_valves (h : Handle) : (leaveRising h s).valves = s.valves := rfl
@[simp] theorem leaveRising_bc (h : Handle) : (leaveRising h s).bc = s.bc := rfl
@[simp] theorem leaveRising_js (h : Handle) : (leaveRising h s).js = s.js := rfl
@[simp] theorem leaveRising_dl (h : Handle) : (leaveRising h s).dl = s.dl := rfl
@[simp] theorem leaveRising_dt (h : Handle) : (leaveRising h s).dt = s.dt := rfl
@[simp] theorem leaveRising_hl (h : Handle) : (leaveRising h s).hl = s.hl := rfl
@[simp] theorem leaveRising_degraded (h : Handle) : (leaveRising h s).degraded = s.degraded := rfl

/-! ### storeEnvelope -/

@[simp] theorem storeEnvelope_pending (e : Envelope) : (storeEnvelope e s).pending = s.pending := rfl
@[simp] theorem storeEnvelope_now (e : Envelope) : (storeEnvelope e s).now = s.now := rfl
@[simp] theorem storeEnvelope_resetHeld (e : Envelope) : (storeEnvelope e s).resetHeld = s.resetHeld := rfl
@[simp] theorem storeEnvelope_rt (e : Envelope) : (storeEnvelope e s).rt = s.rt := rfl
@[simp] theorem storeEnvelope_sp (e : Envelope) : (storeEnvelope e s).sp = s.sp := rfl
@[simp] theorem storeEnvelope_mc (e : Envelope) : (storeEnvelope e s).mc = s.mc := rfl
@[simp] theorem storeEnvelope_valves (e : Envelope) : (storeEnvelope e s).valves = s.valves := rfl
@[simp] theorem storeEnvelope_bc (e : Envelope) : (storeEnvelope e s).bc = s.bc := rfl
@[simp] theorem storeEnvelope_lc (e : Envelope) : (storeEnvelope e s).lc = s.lc := rfl
@[simp] theorem storeEnvelope_js (e : Envelope) : (storeEnvelope e s).js = s.js := rfl
@[simp] theorem storeEnvelope_dl (e : Envelope) : (storeEnvelope e s).dl = s.dl := rfl
@[simp] theorem storeEnvelope_dt (e : Envelope) : (storeEnvelope e s).dt = s.dt := rfl
@[simp] theorem storeEnvelope_hl (e : Envelope) : (storeEnvelope e s).hl = s.hl := rfl
@[simp] theorem storeEnvelope_degraded (e : Envelope) : (storeEnvelope e s).degraded = s.degraded := rfl

/-! ### changeLine -/

@[simp] theorem changeLine_pending (d : Door) (f : Line → Line) : (changeLine d f s).pending = s.pending := rfl
@[simp] theorem changeLine_now (d : Door) (f : Line → Line) : (changeLine d f s).now = s.now := rfl
@[simp] theorem changeLine_resetHeld (d : Door) (f : Line → Line) : (changeLine d f s).resetHeld = s.resetHeld := rfl
@[simp] theorem changeLine_rt (d : Door) (f : Line → Line) : (changeLine d f s).rt = s.rt := rfl
@[simp] theorem changeLine_eu (d : Door) (f : Line → Line) : (changeLine d f s).eu = s.eu := rfl
@[simp] theorem changeLine_sp (d : Door) (f : Line → Line) : (changeLine d f s).sp = s.sp := rfl
@[simp] theorem changeLine_mc (d : Door) (f : Line → Line) : (changeLine d f s).mc = s.mc := rfl
@[simp] theorem changeLine_valves (d : Door) (f : Line → Line) : (changeLine d f s).valves = s.valves := rfl
@[simp] theorem changeLine_bc (d : Door) (f : Line → Line) : (changeLine d f s).bc = s.bc := rfl
@[simp] theorem changeLine_lc (d : Door) (f : Line → Line) : (changeLine d f s).lc = s.lc := rfl
@[simp] theorem changeLine_js (d : Door) (f : Line → Line) : (changeLine d f s).js = s.js := rfl
@[simp] theorem changeLine_dt (d : Door) (f : Line → Line) : (changeLine d f s).dt = s.dt := rfl
@[simp] theorem changeLine_hl (d : Door) (f : Line → Line) : (changeLine d f s).hl = s.hl := rfl
@[simp] theorem changeLine_degraded (d : Door) (f : Line → Line) : (changeLine d f s).degraded = s.degraded := rfl

/-! ### changeSample -/

@[simp] theorem changeSample_pending (ch : Channel) (f : Sample → Sample) : (changeSample ch f s).pending = s.pending := rfl
@[simp] theorem changeSample_now (ch : Channel) (f : Sample → Sample) : (changeSample ch f s).now = s.now := rfl
@[simp] theorem changeSample_resetHeld (ch : Channel) (f : Sample → Sample) : (changeSample ch f s).resetHeld = s.resetHeld := rfl
@[simp] theorem changeSample_rt (ch : Channel) (f : Sample → Sample) : (changeSample ch f s).rt = s.rt := rfl
@[simp] theorem changeSample_eu (ch : Channel) (f : Sample → Sample) : (changeSample ch f s).eu = s.eu := rfl
@[simp] theorem changeSample_mc (ch : Channel) (f : Sample → Sample) : (changeSample ch f s).mc = s.mc := rfl
@[simp] theorem changeSample_valves (ch : Channel) (f : Sample → Sample) : (changeSample ch f s).valves = s.valves := rfl
@[simp] theorem changeSample_bc (ch : Channel) (f : Sample → Sample) : (changeSample ch f s).bc = s.bc := rfl
@[simp] theorem changeSample_lc (ch : Channel) (f : Sample → Sample) : (changeSample ch f s).lc = s.lc := rfl
@[simp] theorem changeSample_js (ch : Channel) (f : Sample → Sample) : (changeSample ch f s).js = s.js := rfl
@[simp] theorem changeSample_dl (ch : Channel) (f : Sample → Sample) : (changeSample ch f s).dl = s.dl := rfl
@[simp] theorem changeSample_dt (ch : Channel) (f : Sample → Sample) : (changeSample ch f s).dt = s.dt := rfl
@[simp] theorem changeSample_hl (ch : Channel) (f : Sample → Sample) : (changeSample ch f s).hl = s.hl := rfl
@[simp] theorem changeSample_degraded (ch : Channel) (f : Sample → Sample) : (changeSample ch f s).degraded = s.degraded := rfl

/-! ### countDiscard -/

@[simp] theorem countDiscard_pending : (countDiscard s).pending = s.pending := rfl
@[simp] theorem countDiscard_now : (countDiscard s).now = s.now := rfl
@[simp] theorem countDiscard_resetHeld : (countDiscard s).resetHeld = s.resetHeld := rfl
@[simp] theorem countDiscard_rt : (countDiscard s).rt = s.rt := rfl
@[simp] theorem countDiscard_eu : (countDiscard s).eu = s.eu := rfl
@[simp] theorem countDiscard_mc : (countDiscard s).mc = s.mc := rfl
@[simp] theorem countDiscard_valves : (countDiscard s).valves = s.valves := rfl
@[simp] theorem countDiscard_bc : (countDiscard s).bc = s.bc := rfl
@[simp] theorem countDiscard_lc : (countDiscard s).lc = s.lc := rfl
@[simp] theorem countDiscard_js : (countDiscard s).js = s.js := rfl
@[simp] theorem countDiscard_dl : (countDiscard s).dl = s.dl := rfl
@[simp] theorem countDiscard_dt : (countDiscard s).dt = s.dt := rfl
@[simp] theorem countDiscard_hl : (countDiscard s).hl = s.hl := rfl
@[simp] theorem countDiscard_degraded : (countDiscard s).degraded = s.degraded := rfl

/-! ### changeGen -/

@[simp] theorem changeGen_pending (g : GenId) (f : Generator → Generator) : (changeGen g f s).pending = s.pending := rfl
@[simp] theorem changeGen_now (g : GenId) (f : Generator → Generator) : (changeGen g f s).now = s.now := rfl
@[simp] theorem changeGen_resetHeld (g : GenId) (f : Generator → Generator) : (changeGen g f s).resetHeld = s.resetHeld := rfl
@[simp] theorem changeGen_rt (g : GenId) (f : Generator → Generator) : (changeGen g f s).rt = s.rt := rfl
@[simp] theorem changeGen_eu (g : GenId) (f : Generator → Generator) : (changeGen g f s).eu = s.eu := rfl
@[simp] theorem changeGen_sp (g : GenId) (f : Generator → Generator) : (changeGen g f s).sp = s.sp := rfl
@[simp] theorem changeGen_mc (g : GenId) (f : Generator → Generator) : (changeGen g f s).mc = s.mc := rfl
@[simp] theorem changeGen_bc (g : GenId) (f : Generator → Generator) : (changeGen g f s).bc = s.bc := rfl
@[simp] theorem changeGen_lc (g : GenId) (f : Generator → Generator) : (changeGen g f s).lc = s.lc := rfl
@[simp] theorem changeGen_js (g : GenId) (f : Generator → Generator) : (changeGen g f s).js = s.js := rfl
@[simp] theorem changeGen_dl (g : GenId) (f : Generator → Generator) : (changeGen g f s).dl = s.dl := rfl
@[simp] theorem changeGen_dt (g : GenId) (f : Generator → Generator) : (changeGen g f s).dt = s.dt := rfl
@[simp] theorem changeGen_hl (g : GenId) (f : Generator → Generator) : (changeGen g f s).hl = s.hl := rfl
@[simp] theorem changeGen_degraded (g : GenId) (f : Generator → Generator) : (changeGen g f s).degraded = s.degraded := rfl

/-! ### changeChannel -/

@[simp] theorem changeChannel_pending (c : Corner) (f : BrakeChannel → BrakeChannel) : (changeChannel c f s).pending = s.pending := rfl
@[simp] theorem changeChannel_now (c : Corner) (f : BrakeChannel → BrakeChannel) : (changeChannel c f s).now = s.now := rfl
@[simp] theorem changeChannel_resetHeld (c : Corner) (f : BrakeChannel → BrakeChannel) : (changeChannel c f s).resetHeld = s.resetHeld := rfl
@[simp] theorem changeChannel_rt (c : Corner) (f : BrakeChannel → BrakeChannel) : (changeChannel c f s).rt = s.rt := rfl
@[simp] theorem changeChannel_eu (c : Corner) (f : BrakeChannel → BrakeChannel) : (changeChannel c f s).eu = s.eu := rfl
@[simp] theorem changeChannel_sp (c : Corner) (f : BrakeChannel → BrakeChannel) : (changeChannel c f s).sp = s.sp := rfl
@[simp] theorem changeChannel_mc (c : Corner) (f : BrakeChannel → BrakeChannel) : (changeChannel c f s).mc = s.mc := rfl
@[simp] theorem changeChannel_valves (c : Corner) (f : BrakeChannel → BrakeChannel) : (changeChannel c f s).valves = s.valves := rfl
@[simp] theorem changeChannel_lc (c : Corner) (f : BrakeChannel → BrakeChannel) : (changeChannel c f s).lc = s.lc := rfl
@[simp] theorem changeChannel_js (c : Corner) (f : BrakeChannel → BrakeChannel) : (changeChannel c f s).js = s.js := rfl
@[simp] theorem changeChannel_dl (c : Corner) (f : BrakeChannel → BrakeChannel) : (changeChannel c f s).dl = s.dl := rfl
@[simp] theorem changeChannel_dt (c : Corner) (f : BrakeChannel → BrakeChannel) : (changeChannel c f s).dt = s.dt := rfl
@[simp] theorem changeChannel_hl (c : Corner) (f : BrakeChannel → BrakeChannel) : (changeChannel c f s).hl = s.hl := rfl
@[simp] theorem changeChannel_degraded (c : Corner) (f : BrakeChannel → BrakeChannel) : (changeChannel c f s).degraded = s.degraded := rfl

/-! ### stopPrefixTimer -/

@[simp] theorem stopPrefixTimer_pending (d : Door) : (stopPrefixTimer d s).pending = s.pending := rfl
@[simp] theorem stopPrefixTimer_now (d : Door) : (stopPrefixTimer d s).now = s.now := rfl
@[simp] theorem stopPrefixTimer_resetHeld (d : Door) : (stopPrefixTimer d s).resetHeld = s.resetHeld := rfl
@[simp] theorem stopPrefixTimer_rt (d : Door) : (stopPrefixTimer d s).rt = s.rt := rfl
@[simp] theorem stopPrefixTimer_eu (d : Door) : (stopPrefixTimer d s).eu = s.eu := rfl
@[simp] theorem stopPrefixTimer_sp (d : Door) : (stopPrefixTimer d s).sp = s.sp := rfl
@[simp] theorem stopPrefixTimer_mc (d : Door) : (stopPrefixTimer d s).mc = s.mc := rfl
@[simp] theorem stopPrefixTimer_valves (d : Door) : (stopPrefixTimer d s).valves = s.valves := rfl
@[simp] theorem stopPrefixTimer_bc (d : Door) : (stopPrefixTimer d s).bc = s.bc := rfl
@[simp] theorem stopPrefixTimer_lc (d : Door) : (stopPrefixTimer d s).lc = s.lc := rfl
@[simp] theorem stopPrefixTimer_js (d : Door) : (stopPrefixTimer d s).js = s.js := rfl
@[simp] theorem stopPrefixTimer_dl (d : Door) : (stopPrefixTimer d s).dl = s.dl := rfl
@[simp] theorem stopPrefixTimer_hl (d : Door) : (stopPrefixTimer d s).hl = s.hl := rfl
@[simp] theorem stopPrefixTimer_degraded (d : Door) : (stopPrefixTimer d s).degraded = s.degraded := rfl

/-! ### countIgnored -/

@[simp] theorem countIgnored_pending (d : Door) : (countIgnored d s).pending = s.pending := rfl
@[simp] theorem countIgnored_now (d : Door) : (countIgnored d s).now = s.now := rfl
@[simp] theorem countIgnored_resetHeld (d : Door) : (countIgnored d s).resetHeld = s.resetHeld := rfl
@[simp] theorem countIgnored_rt (d : Door) : (countIgnored d s).rt = s.rt := rfl
@[simp] theorem countIgnored_eu (d : Door) : (countIgnored d s).eu = s.eu := rfl
@[simp] theorem countIgnored_sp (d : Door) : (countIgnored d s).sp = s.sp := rfl
@[simp] theorem countIgnored_mc (d : Door) : (countIgnored d s).mc = s.mc := rfl
@[simp] theorem countIgnored_valves (d : Door) : (countIgnored d s).valves = s.valves := rfl
@[simp] theorem countIgnored_bc (d : Door) : (countIgnored d s).bc = s.bc := rfl
@[simp] theorem countIgnored_lc (d : Door) : (countIgnored d s).lc = s.lc := rfl
@[simp] theorem countIgnored_js (d : Door) : (countIgnored d s).js = s.js := rfl
@[simp] theorem countIgnored_dl (d : Door) : (countIgnored d s).dl = s.dl := rfl
@[simp] theorem countIgnored_hl (d : Door) : (countIgnored d s).hl = s.hl := rfl
@[simp] theorem countIgnored_degraded (d : Door) : (countIgnored d s).degraded = s.degraded := rfl

/-! ### setCell -/

@[simp] theorem setCell_pending (row : Fin 256) (x : Context) (xs : List Action) : (setCell row x xs s).pending = s.pending := rfl
@[simp] theorem setCell_now (row : Fin 256) (x : Context) (xs : List Action) : (setCell row x xs s).now = s.now := rfl
@[simp] theorem setCell_resetHeld (row : Fin 256) (x : Context) (xs : List Action) : (setCell row x xs s).resetHeld = s.resetHeld := rfl
@[simp] theorem setCell_rt (row : Fin 256) (x : Context) (xs : List Action) : (setCell row x xs s).rt = s.rt := rfl
@[simp] theorem setCell_eu (row : Fin 256) (x : Context) (xs : List Action) : (setCell row x xs s).eu = s.eu := rfl
@[simp] theorem setCell_sp (row : Fin 256) (x : Context) (xs : List Action) : (setCell row x xs s).sp = s.sp := rfl
@[simp] theorem setCell_mc (row : Fin 256) (x : Context) (xs : List Action) : (setCell row x xs s).mc = s.mc := rfl
@[simp] theorem setCell_valves (row : Fin 256) (x : Context) (xs : List Action) : (setCell row x xs s).valves = s.valves := rfl
@[simp] theorem setCell_bc (row : Fin 256) (x : Context) (xs : List Action) : (setCell row x xs s).bc = s.bc := rfl
@[simp] theorem setCell_lc (row : Fin 256) (x : Context) (xs : List Action) : (setCell row x xs s).lc = s.lc := rfl
@[simp] theorem setCell_js (row : Fin 256) (x : Context) (xs : List Action) : (setCell row x xs s).js = s.js := rfl
@[simp] theorem setCell_dl (row : Fin 256) (x : Context) (xs : List Action) : (setCell row x xs s).dl = s.dl := rfl
@[simp] theorem setCell_hl (row : Fin 256) (x : Context) (xs : List Action) : (setCell row x xs s).hl = s.hl := rfl
@[simp] theorem setCell_degraded (row : Fin 256) (x : Context) (xs : List Action) : (setCell row x xs s).degraded = s.degraded := rfl

/-! ### setProfile -/

@[simp] theorem setProfile_pending (k : Kind) (row : Profile) : (setProfile k row s).pending = s.pending := rfl
@[simp] theorem setProfile_now (k : Kind) (row : Profile) : (setProfile k row s).now = s.now := rfl
@[simp] theorem setProfile_resetHeld (k : Kind) (row : Profile) : (setProfile k row s).resetHeld = s.resetHeld := rfl
@[simp] theorem setProfile_eu (k : Kind) (row : Profile) : (setProfile k row s).eu = s.eu := rfl
@[simp] theorem setProfile_sp (k : Kind) (row : Profile) : (setProfile k row s).sp = s.sp := rfl
@[simp] theorem setProfile_mc (k : Kind) (row : Profile) : (setProfile k row s).mc = s.mc := rfl
@[simp] theorem setProfile_valves (k : Kind) (row : Profile) : (setProfile k row s).valves = s.valves := rfl
@[simp] theorem setProfile_bc (k : Kind) (row : Profile) : (setProfile k row s).bc = s.bc := rfl
@[simp] theorem setProfile_lc (k : Kind) (row : Profile) : (setProfile k row s).lc = s.lc := rfl
@[simp] theorem setProfile_js (k : Kind) (row : Profile) : (setProfile k row s).js = s.js := rfl
@[simp] theorem setProfile_dl (k : Kind) (row : Profile) : (setProfile k row s).dl = s.dl := rfl
@[simp] theorem setProfile_dt (k : Kind) (row : Profile) : (setProfile k row s).dt = s.dt := rfl
@[simp] theorem setProfile_hl (k : Kind) (row : Profile) : (setProfile k row s).hl = s.hl := rfl
@[simp] theorem setProfile_degraded (k : Kind) (row : Profile) : (setProfile k row s).degraded = s.degraded := rfl

/-! ### setReset -/

@[simp] theorem setReset_pending (g : Group) (t : Option Nat) : (setReset g t s).pending = s.pending := rfl
@[simp] theorem setReset_now (g : Group) (t : Option Nat) : (setReset g t s).now = s.now := rfl
@[simp] theorem setReset_resetHeld (g : Group) (t : Option Nat) : (setReset g t s).resetHeld = s.resetHeld := rfl
@[simp] theorem setReset_rt (g : Group) (t : Option Nat) : (setReset g t s).rt = s.rt := rfl
@[simp] theorem setReset_eu (g : Group) (t : Option Nat) : (setReset g t s).eu = s.eu := rfl
@[simp] theorem setReset_sp (g : Group) (t : Option Nat) : (setReset g t s).sp = s.sp := rfl
@[simp] theorem setReset_mc (g : Group) (t : Option Nat) : (setReset g t s).mc = s.mc := rfl
@[simp] theorem setReset_valves (g : Group) (t : Option Nat) : (setReset g t s).valves = s.valves := rfl
@[simp] theorem setReset_bc (g : Group) (t : Option Nat) : (setReset g t s).bc = s.bc := rfl
@[simp] theorem setReset_lc (g : Group) (t : Option Nat) : (setReset g t s).lc = s.lc := rfl
@[simp] theorem setReset_js (g : Group) (t : Option Nat) : (setReset g t s).js = s.js := rfl
@[simp] theorem setReset_dl (g : Group) (t : Option Nat) : (setReset g t s).dl = s.dl := rfl
@[simp] theorem setReset_dt (g : Group) (t : Option Nat) : (setReset g t s).dt = s.dt := rfl
@[simp] theorem setReset_degraded (g : Group) (t : Option Nat) : (setReset g t s).degraded = s.degraded := rfl

/-! ### setService -/

@[simp] theorem setService_pending (b : Bool) : (setService b s).pending = s.pending := rfl
@[simp] theorem setService_now (b : Bool) : (setService b s).now = s.now := rfl
@[simp] theorem setService_resetHeld (b : Bool) : (setService b s).resetHeld = s.resetHeld := rfl
@[simp] theorem setService_rt (b : Bool) : (setService b s).rt = s.rt := rfl
@[simp] theorem setService_eu (b : Bool) : (setService b s).eu = s.eu := rfl
@[simp] theorem setService_sp (b : Bool) : (setService b s).sp = s.sp := rfl
@[simp] theorem setService_mc (b : Bool) : (setService b s).mc = s.mc := rfl
@[simp] theorem setService_valves (b : Bool) : (setService b s).valves = s.valves := rfl
@[simp] theorem setService_bc (b : Bool) : (setService b s).bc = s.bc := rfl
@[simp] theorem setService_lc (b : Bool) : (setService b s).lc = s.lc := rfl
@[simp] theorem setService_js (b : Bool) : (setService b s).js = s.js := rfl
@[simp] theorem setService_dl (b : Bool) : (setService b s).dl = s.dl := rfl
@[simp] theorem setService_dt (b : Bool) : (setService b s).dt = s.dt := rfl
@[simp] theorem setService_degraded (b : Bool) : (setService b s).degraded = s.degraded := rfl

/-! ### takeRequest -/

@[simp] theorem takeRequest_pending (n : Nat) : (takeRequest n s).pending = s.pending := rfl
@[simp] theorem takeRequest_now (n : Nat) : (takeRequest n s).now = s.now := rfl
@[simp] theorem takeRequest_resetHeld (n : Nat) : (takeRequest n s).resetHeld = s.resetHeld := rfl
@[simp] theorem takeRequest_rt (n : Nat) : (takeRequest n s).rt = s.rt := rfl
@[simp] theorem takeRequest_eu (n : Nat) : (takeRequest n s).eu = s.eu := rfl
@[simp] theorem takeRequest_sp (n : Nat) : (takeRequest n s).sp = s.sp := rfl
@[simp] theorem takeRequest_mc (n : Nat) : (takeRequest n s).mc = s.mc := rfl
@[simp] theorem takeRequest_valves (n : Nat) : (takeRequest n s).valves = s.valves := rfl
@[simp] theorem takeRequest_bc (n : Nat) : (takeRequest n s).bc = s.bc := rfl
@[simp] theorem takeRequest_lc (n : Nat) : (takeRequest n s).lc = s.lc := rfl
@[simp] theorem takeRequest_js (n : Nat) : (takeRequest n s).js = s.js := rfl
@[simp] theorem takeRequest_dl (n : Nat) : (takeRequest n s).dl = s.dl := rfl
@[simp] theorem takeRequest_dt (n : Nat) : (takeRequest n s).dt = s.dt := rfl
@[simp] theorem takeRequest_degraded (n : Nat) : (takeRequest n s).degraded = s.degraded := rfl

/-! ### answer -/

@[simp] theorem answer_pending (code : Byte) (st : Status) (payload : List Byte) : (answer code st payload s).pending = s.pending := rfl
@[simp] theorem answer_now (code : Byte) (st : Status) (payload : List Byte) : (answer code st payload s).now = s.now := rfl
@[simp] theorem answer_resetHeld (code : Byte) (st : Status) (payload : List Byte) : (answer code st payload s).resetHeld = s.resetHeld := rfl
@[simp] theorem answer_rt (code : Byte) (st : Status) (payload : List Byte) : (answer code st payload s).rt = s.rt := rfl
@[simp] theorem answer_eu (code : Byte) (st : Status) (payload : List Byte) : (answer code st payload s).eu = s.eu := rfl
@[simp] theorem answer_sp (code : Byte) (st : Status) (payload : List Byte) : (answer code st payload s).sp = s.sp := rfl
@[simp] theorem answer_mc (code : Byte) (st : Status) (payload : List Byte) : (answer code st payload s).mc = s.mc := rfl
@[simp] theorem answer_valves (code : Byte) (st : Status) (payload : List Byte) : (answer code st payload s).valves = s.valves := rfl
@[simp] theorem answer_bc (code : Byte) (st : Status) (payload : List Byte) : (answer code st payload s).bc = s.bc := rfl
@[simp] theorem answer_lc (code : Byte) (st : Status) (payload : List Byte) : (answer code st payload s).lc = s.lc := rfl
@[simp] theorem answer_js (code : Byte) (st : Status) (payload : List Byte) : (answer code st payload s).js = s.js := rfl
@[simp] theorem answer_dl (code : Byte) (st : Status) (payload : List Byte) : (answer code st payload s).dl = s.dl := rfl
@[simp] theorem answer_dt (code : Byte) (st : Status) (payload : List Byte) : (answer code st payload s).dt = s.dt := rfl
@[simp] theorem answer_degraded (code : Byte) (st : Status) (payload : List Byte) : (answer code st payload s).degraded = s.degraded := rfl

/-! ### The changed field -/

@[simp] theorem atLeast_now (n : Nat) : (atLeast n s).now = max s.now n := rfl
@[simp] theorem setFlag_flags (f : Flag) : (setFlag f s).hl.flags = s.hl.flags ||| f.mask := rfl
@[simp] theorem setFlag_mask (f : Flag) : (setFlag f s).hl.mask = s.hl.mask := rfl
@[simp] theorem setFlag_params (f : Flag) : (setFlag f s).hl.params = s.hl.params := rfl
@[simp] theorem setFlag_resets (f : Flag) : (setFlag f s).hl.resets = s.hl.resets := rfl
@[simp] theorem setFlag_configured (f : Flag) : (setFlag f s).hl.configured = s.hl.configured := rfl
@[simp] theorem setFlag_service (f : Flag) : (setFlag f s).hl.service = s.hl.service := rfl
@[simp] theorem setFlag_supervised (f : Flag) : (setFlag f s).hl.supervised = s.hl.supervised := rfl
@[simp] theorem evalInhibit_env : (evalInhibit s).eu.env = s.eu.env := rfl
@[simp] theorem evalInhibit_seq : (evalInhibit s).eu.seq = s.eu.seq := rfl
@[simp] theorem evalInhibit_inhibit :
    (evalInhibit s).eu.inhibit = inhibitCalled s.dl.lines s.eu.env.ceiling s.mc.speed := rfl
@[simp] theorem storeEnvelope_env (e : Envelope) : (storeEnvelope e s).eu.env = e := rfl
@[simp] theorem storeEnvelope_inhibit (e : Envelope) : (storeEnvelope e s).eu.inhibit = s.eu.inhibit := rfl
@[simp] theorem changeRecord_profiles (i : Slot) (f : Record → Record) :
    (changeRecord i f s).rt.profiles = s.rt.profiles := rfl
@[simp] theorem changeRecord_changeCount (i : Slot) (f : Record → Record) :
    (changeRecord i f s).rt.changeCount = s.rt.changeCount := rfl
@[simp] theorem putRecord_profiles (i : Slot) (r : Record) : (putRecord i r s).rt.profiles = s.rt.profiles := rfl
@[simp] theorem changeLine_ramp (d : Door) (f : Line → Line) : (changeLine d f s).dl.ramp = s.dl.ramp := rfl
@[simp] theorem answer_response (code : Byte) (st : Status) (payload : List Byte) :
    (answer code st payload s).hl.response = frameOf code st payload := rfl
@[simp] theorem answer_current (code : Byte) (st : Status) (payload : List Byte) :
    (answer code st payload s).hl.current = (code, st) := rfl
@[simp] theorem takeRequest_last (n : Nat) : (takeRequest n s).hl.last = s.hl.current := rfl
@[simp] theorem takeRequest_shifted (n : Nat) : (takeRequest n s).hl.shifted = shiftedOut s.hl.response n := rfl

/-! ### Tables -/

/-- Reading an entry of a changed table. -/
theorem upd_get {α : Type} {n : Nat} (v : Vector α n) (i j : Fin n) (f : α → α) :
    (upd v i f)[j.val] = if i = j then f v[i.val] else v[j.val] := by
  unfold upd
  by_cases h : i = j
  · subst h; simp
  · rw [Vector.getElem_set_ne _ _ (by intro e; exact h (Fin.ext e))]; simp [h]

@[simp] theorem upd_get_self {α : Type} {n : Nat} (v : Vector α n) (i : Fin n) (f : α → α) :
    (upd v i f)[i.val] = f v[i.val] := by simp [upd_get]

theorem upd_get_ne {α : Type} {n : Nat} (v : Vector α n) {i j : Fin n} (f : α → α) (h : i ≠ j) :
    (upd v i f)[j.val] = v[j.val] := by simp [upd_get, h]

/-- Reading an entry of a table made from another. -/
@[simp] theorem mapAll_get {α β : Type} {n : Nat} (v : Vector α n) (f : Fin n → α → β) (i : Fin n) :
    (mapAll v f)[i.val] = f i v[i.val] := by simp [mapAll]

@[simp] theorem changeCorner_corner_self (c : Corner) (f : CornerRecord → CornerRecord) :
    (changeCorner c f s).corner c = f (s.corner c) := by simp [State.corner, changeCorner]

theorem changeCorner_corner_ne {c d : Corner} (f : CornerRecord → CornerRecord) (h : c ≠ d) :
    (changeCorner c f s).corner d = s.corner d := by simp [State.corner, changeCorner, upd_get_ne _ _ h]

@[simp] theorem changeLine_line_self (d : Door) (f : Line → Line) : (changeLine d f s).line d = f (s.line d) := by
  simp [State.line, changeLine]

theorem changeLine_line_ne {d e : Door} (f : Line → Line) (h : d ≠ e) : (changeLine d f s).line e = s.line e := by
  simp [State.line, changeLine, upd_get_ne _ _ h]

@[simp] theorem changeSample_sample_self (ch : Channel) (f : Sample → Sample) :
    (changeSample ch f s).sample ch = f (s.sample ch) := by simp [State.sample, changeSample]

theorem changeSample_sample_ne {ch y : Channel} (f : Sample → Sample) (h : ch ≠ y) :
    (changeSample ch f s).sample y = s.sample y := by simp [State.sample, changeSample, upd_get_ne _ _ h]

@[simp] theorem changeRecord_recordAt_self (i : Slot) (f : Record → Record) :
    (changeRecord i f s).recordAt i = (s.recordAt i).map f := by simp [State.recordAt, changeRecord]

theorem changeRecord_recordAt_ne {i j : Slot} (f : Record → Record) (h : i ≠ j) :
    (changeRecord i f s).recordAt j = s.recordAt j := by simp [State.recordAt, changeRecord, upd_get_ne _ _ h]

@[simp] theorem putRecord_recordAt_self (i : Slot) (r : Record) : (putRecord i r s).recordAt i = some r := by
  simp [State.recordAt, putRecord]

theorem putRecord_recordAt_ne {i j : Slot} (r : Record) (h : i ≠ j) :
    (putRecord i r s).recordAt j = s.recordAt j := by simp [State.recordAt, putRecord, upd_get_ne _ _ h]

/-! ### Flags and the reset response -/

/-- Setting a flag sets it and no other (R174). -/
theorem setFlag_flag (f g : Flag) : (setFlag f s).flag g = (decide (g = f) || s.flag g) := by
  have h : ∀ f g : Flag, f.mask.getLsbD g.bit = decide (g = f) := by
    intro f g; cases f <;> cases g <;> rfl
  simp [State.flag, setFlag, h f g, Bool.or_comm]

/-- The reset response written out in State is the frame of code 0x00, status OK and the cause, with its CRC (R181). -/
theorem Laws.resetResponse_crc (cause : Cause) : resetResponse cause = frameOf 0x00 .ok [b1 cause.code] := by
  cases cause <;> decide +kernel

end Sys2Proof.Machine
end

