-- ==== Sys2Proof/Laws/Levelling.lean ====
section
/-! SUPPORT. What the Levelling Controller's shared operations can touch: nothing but its own records and its corners' valves. One lemma
for each operation says so. -/

namespace Sys2Proof.Machine

variable {s t u : State}

/-! ### Relations kept along a fold -/

/-- A relation that is reflexive and transitive holds across a fold whose every step keeps it. -/
theorem foldl_rel {σ α : Type} (r : σ → σ → Prop) (refl : ∀ x, r x x) (trans : ∀ {x y z}, r x y → r y z → r x z)
    (f : σ → α → σ) (h : ∀ x a, r x (f x a)) : ∀ (xs : List α) (x : σ), r x (xs.foldl f x)
  | [], x => refl x
  | a :: xs, x => trans (h x a) (foldl_rel r refl trans f h xs (f x a))

/-- The same across `forAll`. -/
theorem forAll_rel {σ : Type} {n : Nat} (r : σ → σ → Prop) (refl : ∀ x, r x x)
    (trans : ∀ {x y z}, r x y → r y z → r x z) (f : Fin n → σ → σ) (h : ∀ i x, r x (f i x)) (x : σ) : r x (forAll n f x) :=
  foldl_rel r refl trans _ (fun x i => h i x) _ x

/-! ### The Levelling Controller's reach -/

/-- Only the Levelling Controller's state and the valves of the corners differ. -/
structure LevelOnly (s t : State) : Prop where
  pending   : t.pending = s.pending
  now       : t.now = s.now
  resetHeld : t.resetHeld = s.resetHeld
  rt        : t.rt = s.rt
  eu        : t.eu = s.eu
  sp        : t.sp = s.sp
  mc        : t.mc = s.mc
  bc        : t.bc = s.bc
  js        : t.js = s.js
  dl        : t.dl = s.dl
  dt        : t.dt = s.dt
  hl        : t.hl = s.hl
  degraded  : t.degraded = s.degraded
  brake     : t.valves.brake = s.valves.brake
  steer     : t.valves.steer = s.valves.steer
  damping   : t.valves.damping = s.valves.damping

theorem LevelOnly.refl (s : State) : LevelOnly s s := by constructor <;> rfl

theorem LevelOnly.trans (h : LevelOnly s t) (k : LevelOnly t u) : LevelOnly s u where
  pending := k.pending.trans h.pending
  now := k.now.trans h.now
  resetHeld := k.resetHeld.trans h.resetHeld
  rt := k.rt.trans h.rt
  eu := k.eu.trans h.eu
  sp := k.sp.trans h.sp
  mc := k.mc.trans h.mc
  bc := k.bc.trans h.bc
  js := k.js.trans h.js
  dl := k.dl.trans h.dl
  dt := k.dt.trans h.dt
  hl := k.hl.trans h.hl
  degraded := k.degraded.trans h.degraded
  brake := k.brake.trans h.brake
  steer := k.steer.trans h.steer
  damping := k.damping.trans h.damping

theorem LevelOnly.inReset (h : LevelOnly s t) (g : Group) : t.inReset g = s.inReset g := by simp [State.inReset, h.hl]

/-- A change of the Levelling Controller's state alone. -/
theorem levelOnly_lc (s : State) (x : LevellingController) : LevelOnly s { s with lc := x } := by constructor <;> rfl

theorem levelOnly_forAll {n : Nat} (f : Fin n → State → State) (h : ∀ i x, LevelOnly x (f i x)) (s : State) :
    LevelOnly s (forAll n f s) := forAll_rel LevelOnly LevelOnly.refl LevelOnly.trans f h s

theorem levelOnly_foldl {α : Type} (f : State → α → State) (h : ∀ x a, LevelOnly x (f x a)) (xs : List α) (s : State) :
    LevelOnly s (xs.foldl f s) := foldl_rel LevelOnly LevelOnly.refl LevelOnly.trans f h xs s

theorem changeCorner_only (c : Corner) (f : CornerRecord → CornerRecord) (s : State) : LevelOnly s (changeCorner c f s) :=
  levelOnly_lc s _

theorem takeSource_only (c : Corner) (x : Source) (s : State) : LevelOnly s (takeSource c x s) := changeCorner_only c _ s

theorem refreshSource_only (c : Corner) (s : State) : LevelOnly s (refreshSource c s) := by
  unfold refreshSource; split
  · exact .refl s
  · exact takeSource_only c _ s

theorem formContext_only (s : State) : LevelOnly s (formContext s) := by
  unfold formContext; split
  · exact .refl s
  · exact (levelOnly_lc s _).trans (levelOnly_forAll _ refreshSource_only _)

theorem takeLevel_only (c : Corner) (side : Side) (p : Program) (s : State) : LevelOnly s (takeLevel c side p s) := by
  unfold takeLevel; split
  · exact .refl s
  · constructor <;> rfl

theorem leaveWaiting_only (c : Corner) (s : State) : LevelOnly s (leaveWaiting c s) := changeCorner_only c _ s

theorem giveGrant_only (c : Corner) (w : WaitEntry) (s : State) : LevelOnly s (giveGrant c w s) :=
  (leaveWaiting_only c s).trans ((levelOnly_lc _ _).trans (takeLevel_only c .first w.prog _))

theorem arbitrateOnce_only (s : State) : LevelOnly s (arbitrateOnce s) := by
  unfold arbitrateOnce; split
  · split
    · exact giveGrant_only _ _ s
    · exact .refl s
  · exact .refl s

theorem arbitrate_only (s : State) : LevelOnly s (arbitrate s) := (arbitrateOnce_only s).trans (arbitrateOnce_only _)

theorem returnGrant_only (c : Corner) (s : State) : LevelOnly s (returnGrant c s) :=
  (levelOnly_lc s _).trans (arbitrate_only _)

theorem handLevel_only (c : Corner) (side : Side) (p : Program) (s : State) : LevelOnly s (handLevel c side p s) := by
  unfold handLevel; split
  · exact (takeLevel_only c side p s).trans (returnGrant_only c _)
  · exact takeLevel_only c side p s

theorem stopLevel_only (c : Corner) (side : Side) (s : State) : LevelOnly s (stopLevel c side s) := by
  unfold stopLevel; split
  · exact handLevel_only c side .idle s
  · exact .refl s

theorem commandHold_only (c : Corner) (s : State) : LevelOnly s (commandHold c s) :=
  (leaveWaiting_only c s).trans ((stopLevel_only c .first _).trans (stopLevel_only c .second _))

theorem commandExhaust_only (afresh : Bool) (c : Corner) (p : Program) (s : State) :
    LevelOnly s (commandExhaust afresh c p s) := by
  unfold commandExhaust; refine (leaveWaiting_only c s).trans ?_; dsimp only; split
  · exact .refl _
  · exact handLevel_only c .second p _

theorem commandFill_only (afresh : Bool) (c : Corner) (e : Int) (p : Program) (s : State) :
    LevelOnly s (commandFill afresh c e p s) := by
  unfold commandFill; split
  · split
    · exact handLevel_only c .first p s
    · exact .refl s
  · exact (stopLevel_only c .second s).trans ((changeCorner_only c _ _).trans (arbitrate_only _))

theorem judge_only (afresh : Bool) (c : Corner) (height : Nat) (s : State) : LevelOnly s (judge afresh c height s) := by
  unfold judge; dsimp only; split
  · exact (changeCorner_only c _ s).trans (commandHold_only c _)
  · exact (changeCorner_only c _ s).trans (commandExhaust_only afresh c _ _)
  · exact (changeCorner_only c _ s).trans (commandFill_only afresh c _ _ _)

theorem commandFromLast_only (c : Corner) (s : State) : LevelOnly s (commandFromLast c s) := by
  unfold commandFromLast; dsimp only; split
  · split
    · exact judge_only true c _ s
    · exact .refl s
  · exact .refl s

theorem dropHalt_only (was : Bool) (s : State) : LevelOnly s (dropHalt was s) := by
  unfold dropHalt; split
  · exact levelOnly_lc s _
  · exact .refl s

theorem offsetEvent_only (c : Corner) (offset : Int) (s : State) : LevelOnly s (offsetEvent c offset s) := by
  unfold offsetEvent; split
  · exact changeCorner_only c _ s
  · exact (changeCorner_only c _ s).trans ((dropHalt_only _ _).trans (commandFromLast_only c _))

theorem haltCorner_only (c : Corner) (s : State) : LevelOnly s (haltCorner c s) := by
  unfold haltCorner; split
  · exact (changeCorner_only c _ s).trans (handLevel_only c .second .idle _)
  · exact .refl s

theorem countStray_only (s : State) : LevelOnly s (countStray s) := levelOnly_lc s _

theorem haltKneel_only (s : State) : LevelOnly s (haltKneel s) := by
  unfold haltKneel; split
  · exact countStray_only s
  · exact (levelOnly_forAll _ haltCorner_only s).trans (levelOnly_lc _ _)

theorem resumeNow_only (s : State) : LevelOnly s (resumeNow s) :=
  (levelOnly_lc s _).trans ((levelOnly_foldl _ (fun x c => changeCorner_only c _ x) _ _).trans
    (levelOnly_foldl _ (fun x c => commandFromLast_only c x) _ _))

theorem resumeKneel_only (s : State) : LevelOnly s (resumeKneel s) := by
  unfold resumeKneel; split
  · exact countStray_only s
  · split
    · exact levelOnly_lc s _
    · exact resumeNow_only s

theorem reserveEvent_only (x : Level) (s : State) : LevelOnly s (reserveEvent x s) := by
  unfold reserveEvent; refine (levelOnly_lc s { s.lc with reserve := x }).trans ?_; dsimp only; split
  · exact .refl _
  · split
    · exact arbitrate_only _
    · exact levelOnly_forAll _ (fun c x => stopLevel_only c .first x) _

theorem heightWord_only (c : Corner) (v : Nat) (s : State) : LevelOnly s (heightWord c v s) := by
  unfold heightWord; split
  · exact .refl s
  · exact changeCorner_only c _ s

theorem freeze_only (c : Corner) (s : State) : LevelOnly s (freeze c s) :=
  (leaveWaiting_only c s).trans ((changeCorner_only c _ _).trans
    ((stopLevel_only c .first _).trans (stopLevel_only c .second _)))

theorem beginStrobe_only (c : Corner) (s : State) : LevelOnly s (beginStrobe c s) :=
  (freeze_only c s).trans (changeCorner_only c _ _)

theorem declareDegraded_only (c : Corner) (s : State) : LevelOnly s (declareDegraded c s) :=
  (freeze_only c s).trans (changeCorner_only c _ _)

/-- A change of offsets sent to every corner (R39). -/
theorem sendOffsets_only (old new : Vector Int 6) (s : State) : LevelOnly s (forAll 6 (sendOffset old new) s) :=
  levelOnly_forAll _ (fun c x => by
    unfold sendOffset; split
    · exact .refl x
    · exact offsetEvent_only c _ x) s

end Sys2Proof.Machine
end

