-- ==== Sys2Proof/Laws/Table.lean ====
section
/-! SUPPORT. What the Restraint Table's shared operations can touch: the slots and the change count, the envelope with its line, the
Levelling Controller, the attention flags and the device mode, and nothing else. One lemma for each operation says so. -/

namespace Sys2Proof.Machine

variable {s t u : State}

/-- Only what an operation on records can move differs. -/
structure TableOnly (s t : State) : Prop where
  pending    : t.pending = s.pending
  now        : t.now = s.now
  resetHeld  : t.resetHeld = s.resetHeld
  profiles   : t.rt.profiles = s.rt.profiles
  sp         : t.sp = s.sp
  mc         : t.mc = s.mc
  bc         : t.bc = s.bc
  js         : t.js = s.js
  dl         : t.dl = s.dl
  dt         : t.dt = s.dt
  degraded   : t.degraded = s.degraded
  brake      : t.valves.brake = s.valves.brake
  steer      : t.valves.steer = s.valves.steer
  damping    : t.valves.damping = s.valves.damping
  hl         : t.hl = { s.hl with flags := t.hl.flags, service := t.hl.service }

theorem TableOnly.refl (s : State) : TableOnly s s := by constructor <;> rfl

theorem TableOnly.trans (h : TableOnly s t) (k : TableOnly t u) : TableOnly s u where
  pending := k.pending.trans h.pending
  now := k.now.trans h.now
  resetHeld := k.resetHeld.trans h.resetHeld
  profiles := k.profiles.trans h.profiles
  sp := k.sp.trans h.sp
  mc := k.mc.trans h.mc
  bc := k.bc.trans h.bc
  js := k.js.trans h.js
  dl := k.dl.trans h.dl
  dt := k.dt.trans h.dt
  degraded := k.degraded.trans h.degraded
  brake := k.brake.trans h.brake
  steer := k.steer.trans h.steer
  damping := k.damping.trans h.damping
  hl := by rw [k.hl, h.hl]

theorem TableOnly.inReset (h : TableOnly s t) (g : Group) : t.inReset g = s.inReset g := by
  simp only [State.inReset]; rw [h.hl]

theorem TableOnly.configured (h : TableOnly s t) : t.hl.configured = s.hl.configured := by rw [h.hl]

theorem TableOnly.params (h : TableOnly s t) : t.hl.params = s.hl.params := by rw [h.hl]

/-- What the Levelling Controller moves is within reach. -/
theorem LevelOnly.table (h : LevelOnly s t) : TableOnly s t where
  pending := h.pending
  now := h.now
  resetHeld := h.resetHeld
  profiles := by rw [h.rt]
  sp := h.sp
  mc := h.mc
  bc := h.bc
  js := h.js
  dl := h.dl
  dt := h.dt
  degraded := h.degraded
  brake := h.brake
  steer := h.steer
  damping := h.damping
  hl := by rw [h.hl]

theorem tableOnly_foldl {α : Type} (f : State → α → State) (h : ∀ x a, TableOnly x (f x a)) (xs : List α) (s : State) :
    TableOnly s (xs.foldl f s) := foldl_rel TableOnly TableOnly.refl TableOnly.trans f h xs s

theorem tableOnly_forAll {n : Nat} (f : Fin n → State → State) (h : ∀ i x, TableOnly x (f i x)) (s : State) :
    TableOnly s (forAll n f s) := forAll_rel TableOnly TableOnly.refl TableOnly.trans f h s

theorem setFlag_table (f : Flag) (s : State) : TableOnly s (setFlag f s) := by constructor <;> rfl

theorem setFlagIf_table (b : Bool) (f : Flag) (s : State) : TableOnly s (setFlagIf b f s) := by
  unfold setFlagIf; split
  · exact setFlag_table f s
  · exact .refl s

theorem changeRecord_table (i : Slot) (f : Record → Record) (s : State) : TableOnly s (changeRecord i f s) := by
  constructor <;> rfl

theorem putRecord_table (i : Slot) (r : Record) (s : State) : TableOnly s (putRecord i r s) := by constructor <;> rfl

theorem evalInhibit_table (s : State) : TableOnly s (evalInhibit s) := by constructor <;> rfl

theorem storeEnvelope_table (e : Envelope) (s : State) : TableOnly s (storeEnvelope e s) := by constructor <;> rfl

theorem formEnvelope_table (s : State) : TableOnly s (formEnvelope s) := by
  unfold formEnvelope; dsimp only; split
  · exact (storeEnvelope_table _ s).trans (sendOffsets_only _ _ _).table
  · exact (storeEnvelope_table _ s).trans ((evalInhibit_table _).trans (sendOffsets_only _ _ _).table)

theorem markRisen_table (i : Slot) (s : State) : TableOnly s (markRisen i s) := changeRecord_table i _ s

theorem leaveRising_table (h : Handle) (s : State) : TableOnly s (leaveRising h s) := (levelOnly_lc s _).table

theorem enterRising_table (i : Slot) (x : Scope) (s : State) : TableOnly s (enterRising i x s) := by
  unfold enterRising; dsimp only; split
  · exact (leaveRising_table _ s).trans (markRisen_table i _)
  · exact (leaveRising_table _ s).trans (levelOnly_lc _ _).table

theorem noticeRising_table (i : Slot) (r : Record) (s : State) : TableOnly s (noticeRising i r s) := by
  unfold noticeRising; split
  · exact .refl s
  · split
    · exact (leaveRising_table _ s).trans (markRisen_table i _)
    · exact enterRising_table i _ s

theorem enterReleasing_table (i : Slot) (r : Record) (s : State) : TableOnly s (enterReleasing i r s) :=
  (changeRecord_table i _ s).trans ((formEnvelope_table _).trans (noticeRising_table i r _))

theorem returnActive_table (i : Slot) (s : State) : TableOnly s (returnActive i s) :=
  (changeRecord_table i _ s).trans ((formEnvelope_table _).trans (leaveRising_table _ _))

theorem vacate_table (i : Slot) (s : State) : TableOnly s (vacate i s) := by constructor <;> rfl

theorem endService_table (k : Kind) (s : State) : TableOnly s (endService k s) := by
  unfold endService; split
  · constructor <;> rfl
  · exact .refl s

theorem freeSlot_table (i : Slot) (r : Record) (s : State) : TableOnly s (freeSlot i r s) :=
  (leaveRising_table _ s).trans ((vacate_table i _).trans ((setFlag_table .record _).trans
    ((endService_table r.kind _).trans (formEnvelope_table _))))

theorem evaluate_table (forced : List Slot) : ∀ (n : Nat) (i : Slot) (s : State), TableOnly s (evaluate forced n i s)
  | 0, _, s => .refl s
  | n + 1, i, s => by
    unfold evaluate
    split
    · exact .refl s
    · split
      · exact .refl s
      · split
        · rename_i r _ _ _ _
          dsimp only
          have h1 := enterReleasing_table i r s
          have h2 : TableOnly (enterReleasing i r s)
              (if r.kind = .kneel then
                (listingNoKneel (enterReleasing i r s)).foldl (fun s j => evaluate forced n j s) (enterReleasing i r s)
               else enterReleasing i r s) := by
            split
            · exact tableOnly_foldl _ (fun x j => evaluate_table forced n j x) _ _
            · exact .refl _
          refine h1.trans (h2.trans ?_)
          generalize (if r.kind = .kneel then
              (listingNoKneel (enterReleasing i r s)).foldl (fun s j => evaluate forced n j s) (enterReleasing i r s)
            else enterReleasing i r s) = x
          split
          · split
            · exact (freeSlot_table i _ _).trans (tableOnly_foldl _ (fun x j => evaluate_table forced n j x) _ _)
            · exact .refl _
          · exact .refl _
        · exact .refl s
      · split
        · exact returnActive_table i s
        · exact .refl s

theorem evalRecord_table (i : Slot) (s : State) : TableOnly s (evalRecord i s) := evaluate_table _ _ i s

theorem evalListing_table (p : Cond → Bool) (s : State) : TableOnly s (evalListing p s) :=
  tableOnly_foldl _ (fun x i => evalRecord_table i x) _ s

theorem retire_table (i : Slot) (s : State) : TableOnly s (retire i s) := by
  unfold retire; split
  · exact .refl s
  · exact (freeSlot_table i _ s).trans (tableOnly_foldl _ (fun x j => evalRecord_table j x) _ _)

theorem checkRetire_table (i : Slot) (s : State) : TableOnly s (checkRetire i s) := by
  unfold checkRetire; split
  · split
    · exact retire_table i s
    · exact .refl s
  · exact .refl s

theorem riseRecord_table (h : Handle) (s : State) : TableOnly s (riseRecord h s) := by
  unfold riseRecord
  repeat' split
  all_goals first
    | exact .refl s
    | exact (markRisen_table _ s).trans (checkRetire_table _ _)

theorem kneelChanged_table (k : Kind) (s : State) : TableOnly s (kneelChanged k s) := by
  unfold kneelChanged; split
  · exact evalListing_table _ s
  · exact .refl s

theorem adopt_table (h : Handle) (s : State) : TableOnly s (adopt h s) := by
  unfold adopt; split
  · split
    · exact returnActive_table _ s
    · exact .refl s
  · exact .refl s

theorem createRecord_table (i : Slot) (r : Record) (s : State) : TableOnly s (createRecord i r s) := by
  unfold createRecord; dsimp only
  refine (putRecord_table i r s).trans ((formEnvelope_table _).trans (TableOnly.trans ?_ (evalRecord_table i _)))
  refine TableOnly.trans ?_ (kneelChanged_table _ _)
  split
  · exact (adopt_table _ _).trans (evalRecord_table _ _)
  · exact .refl _

theorem reviveRecord_table (i : Slot) (k : Kind) (s : State) : TableOnly s (reviveRecord i k s) :=
  (changeRecord_table i _ s).trans ((returnActive_table i _).trans
    ((kneelChanged_table k _).trans (evalRecord_table i _)))

/-- A placement, whatever it answers. -/
theorem placeRecord_table (p : Placement) (s : State) : TableOnly s (placeRecord p s).state := by
  have hn : TableOnly s (placeNew p s).state := by
    unfold placeNew; split
    · exact .refl s
    · split
      · exact .refl s
      · exact createRecord_table _ _ s
  unfold placeRecord; split
  · exact .refl s
  · split
    · exact .refl s
    · split
      · split
        · unfold placeAgain; split
          · exact .refl s
          · exact .refl s
          · exact reviveRecord_table _ _ s
        · exact hn
      · exact hn

theorem armRecord_table (i : Slot) (s : State) : TableOnly s (armRecord i s) := by
  unfold armRecord; split
  · split
    · exact (changeRecord_table i _ s).trans ((formEnvelope_table _).trans
        ((kneelChanged_table _ _).trans (evalRecord_table i _)))
    · exact .refl s
  · exact .refl s

theorem armRecords_table (s : State) : TableOnly s (armRecords s) := tableOnly_forAll _ armRecord_table s

theorem ownerRetire_table (i : Slot) (s : State) : TableOnly s (ownerRetire i s).2 := by
  unfold ownerRetire; split
  · exact .refl s
  · split
    · exact retire_table i s
    · split
      · exact .refl s
      · exact (changeRecord_table i _ s).trans (evalRecord_table i _)
    · exact .refl s

theorem forceRetire_table (i : Slot) (s : State) : TableOnly s (forceRetire i s) :=
  tableOnly_foldl _ (fun x j => by
    unfold forceOne; split
    · exact .refl x
    · exact (freeSlot_table j _ x).trans (tableOnly_foldl _ (fun y l => evaluate_table _ _ l y) _ _)) _ s

theorem amendRecord_table (i : Slot) (r : Record) (c : Change) (s : State) : TableOnly s (amendRecord i r c s) := by
  unfold amendRecord; dsimp only
  have h0 : TableOnly s (formEnvelope (changeRecord i (fun q => c.apply q) s)) :=
    (changeRecord_table i _ s).trans (formEnvelope_table _)
  split
  · exact h0
  · exact h0.trans (evalRecord_table i _)
  · refine h0.trans ?_
    generalize formEnvelope (changeRecord i (fun q => c.apply q) s) = x
    have h : TableOnly x (if c.isScope = true then noticeRising i (c.apply r) x else x) := by
      split
      · exact noticeRising_table i _ x
      · exact .refl x
    refine h.trans ?_
    generalize (if c.isScope = true then noticeRising i (c.apply r) x else x) = y
    split
    · exact (returnActive_table i _).trans (evalRecord_table i _)
    · exact checkRetire_table i _

/-- One amendment, whatever it answers. -/
theorem amendOne_table (o : Owner) (h : Option Handle) (c : Change) (s : State) : TableOnly s (amendOne o h c s).2 := by
  unfold amendOne; split
  · exact .refl s
  · split
    · exact .refl s
    · split
      · exact .refl s
      · split
        · exact .refl s
        · split
          · exact .refl s
          · exact amendRecord_table _ _ c s

theorem lookRisen_table (s : State) : TableOnly s (lookRisen s) := by
  unfold lookRisen; split
  · exact .refl s
  · exact tableOnly_foldl _ (fun x e => by
      unfold reportRisen; split
      · exact (leaveRising_table _ x).trans (riseRecord_table _ _)
      · exact .refl x) _ s

theorem bandTransition_table (c : Corner) (h : Nat) (s : State) : TableOnly s (bandTransition c h s) := by
  unfold bandTransition; dsimp only; split
  · split
    · exact (changeCorner_only c _ s).table.trans (setFlagIf_table _ _ _)
    · exact .refl s
  · split
    · exact (changeCorner_only c _ s).table.trans (lookRisen_table _)
    · exact .refl s
  all_goals exact .refl s

theorem controlEvent_table (c : Corner) (s : State) : TableOnly s (controlEvent c s) := by
  have hw : ∀ x : State, TableOnly x (workCorner c x) := fun x => by
    unfold workCorner; dsimp only; split
    · exact .refl x
    · exact (changeCorner_only c _ x).table.trans ((bandTransition_table c _ _).trans (judge_only false c _ _).table)
  unfold controlEvent; dsimp only; split
  · exact (formContext_only s).table.trans (hw _)
  · exact (formContext_only s).table

theorem revolutionEvent_table (a : Axle) (s : State) : TableOnly s (revolutionEvent a s) :=
  tableOnly_forAll _ (fun c x => by
    split
    · unfold revolveCorner; dsimp only; split
      · exact .refl x
      · split
        · exact (changeCorner_only c _ x).table.trans (controlEvent_table c _)
        · exact (changeCorner_only c _ x).table
    · exact .refl x) s

theorem distanceIncrement_table (inc : Nat) (s : State) : TableOnly s (distanceIncrement inc s) := by
  unfold distanceIncrement; dsimp only
  refine TableOnly.trans (t := { s with rt := { s.rt with slots := mapAll s.rt.slots fun _ e =>
    { e with record := e.record.map (Record.travelled inc) } } }) (by constructor <;> rfl) ?_
  exact tableOnly_foldl _ (fun x i => (formEnvelope_table x).trans (checkRetire_table i _)) _ _

/-! ### PLAUS -/

/-- An internal withdrawal. -/
theorem withdraw_table (k : Kind) (o : Owner) (s : State) : TableOnly s (withdraw k o s) := by
  unfold withdraw; split
  · exact ownerRetire_table _ s
  · exact .refl s

/-- An internal placement of any kind but SUPERVISION_LOST. -/
theorem placeInternal_table (k : Kind) (o : Owner) (x : Option Scope) (s : State) (h : k ≠ .supervisionLost) :
    TableOnly s (placeInternal k o x s) := by
  unfold placeInternal; dsimp only; split
  · exact absurd rfl h
  · exact absurd rfl h
  · exact placeRecord_table _ s

/-- PLAUS's look at the CRITICAL comparator. -/
theorem watchCritical_table (s : State) : TableOnly s (watchCritical s) := by
  unfold watchCritical; split
  · exact .refl s
  · split
    · exact placeInternal_table _ _ _ s (by decide)
    · exact withdraw_table _ _ s

/-- PLAUS's look at the degraded-sensor set keeps every block that records do not reach; the set itself is its own. -/
theorem watchDegraded_table (s : State) :
    ∃ x, TableOnly { s with degraded := x } (watchDegraded s) := by
  unfold watchDegraded; split
  · exact ⟨s.degraded, .refl s⟩
  · dsimp only; split
    · exact ⟨s.degraded, .refl s⟩
    · refine ⟨degradedNow s, ?_⟩
      have ha : ∀ (y : Scope) (x : State), TableOnly x (amendDegrade y x) := fun y x => by
        unfold amendDegrade; split
        · split
          · exact .refl x
          · exact amendOne_table _ _ _ x
        · exact .refl x
      unfold degradedChanged; split
      · exact withdraw_table _ _ _
      · dsimp only
        refine TableOnly.trans ?_ (ha _ _)
        split
        · exact placeInternal_table _ _ _ _ (by decide)
        · exact .refl _

end Sys2Proof.Machine
end

