-- ==== Sys2Proof/Tests/Slice0.lean ====
section
/-! SUPPORT. The model's own tests. First the well-formedness checks; then commands whose result the manual works out in a table or an
example, which each test names; then, for every obligation that has hypotheses, a theorem `witness_<name>` that shows states and
operands meeting them, clause by clause. Expected values come from the manual. -/

open Sys2Proof Sys2Proof.Machine

namespace Sys2Proof.Tests

set_option Elab.async false

/-! ### Small states -/

/-- The state a command leaves. -/
def after (c : Instr) (s : State) : State := match exec c s with | .next t => t | _ => s

/-- Every command completes. -/
theorem next_after (c : Instr) (s : State) : exec c s = .next (after c s) := by cases c <;> rfl

/-- A frame of an owner and a payload. -/
def fr (o : Byte) (p : List Byte) : HostFrame := ⟨o, p, 0⟩

/-- After reset and CONFIG_DONE's mark. -/
def base : State := { State.reset with hl := { State.reset.hl with configured := true, heartAt := some 100000 } }
/-- No record lives. -/
def clear : State := { base with
  rt := { base.rt with slots := Vector.replicate 32 ⟨0, none⟩ }
  eu := { base.eu with env := envelopeOf (Vector.replicate 32 ⟨0, none⟩) } }
/-- The envelope is formed anew. -/
def formed (s : State) : State := { s with eu := { s.eu with env := envelopeOf s.rt.slots } }
/-- A record as a placement with the profile's values leaves it. -/
def rec (k : Kind) (o : Owner) : Record := newRecord State.reset { kind := k, owner := o } none 1
/-- The state with a record in a slot and the envelope it gives. -/
def put (i : Slot) (r : Record) (s : State) : State := formed (putRecord i r s)
def atSpeed (v : Nat) (s : State) : State := { s with mc := { s.mc with speed := v } }
def standing (b : Bool) (s : State) : State := { s with mc := { s.mc with stationary := b } }
def moving (b : Bool) (s : State) : State := { s with mc := { s.mc with moving := b } }
def service (b : Bool) (s : State) : State := { s with hl := { s.hl with service := b } }
def configured (b : Bool) (s : State) : State := { s with hl := { s.hl with configured := b } }
def resetting (g : Group) (t : Nat) (s : State) : State := setReset g (some t) s
def withDoor (d : Door) (x : DoorState) (s : State) : State := s.withLine d { s.line d with door := x }
def allDoors (x : DoorState) (s : State) : State := withDoor 3 x (withDoor 2 x (withDoor 1 x (withDoor 0 x s)))
def good (ch : Channel) (v : Nat) (s : State) : State := s.withSample ch ⟨v, .valid, some 30000⟩
def withBrake (c : Corner) (x : BrakeChannel) (s : State) : State :=
  { s with bc := { s.bc with channels := s.bc.channels.set c.val x } }
def wheelAt (c : Corner) (v : Nat) (s : State) : State :=
  { s with mc := { s.mc with wheels := s.mc.wheels.set c.val { s.mc.wheels[c.val] with speed := v } } }
def withJoint (x : AngleCounter) (s : State) : State := { s with mc := { s.mc with joint := x } }
def withActuator (x : AngleCounter) (s : State) : State := { s with mc := { s.mc with actuator := x } }
/-- A usable angle counter. -/
def usable (n : Int) : AngleCounter := ⟨.bothLow, n, true, true, [], 0⟩
def withGen (g : GenId) (x : Generator) (s : State) : State := { s with valves := s.valves.setGen (fun _ => x) g }
/-- A listening, PRESENT line that has no send wait. -/
def quietLine : Line := { resetLine 0 none with present := true, sendWait := false, door := .locked, loss := .running 250000 }

/-- A statement about every live record, from its check slot by slot. -/
theorem onRecords {s : State} {P : Slot → Record → Prop} [∀ i r, Decidable (P i r)]
    (h : ∀ i : Slot, (s.recordAt i).all (fun r => decide (P i r)) = true) : ∀ i r, s.recordAt i = some r → P i r := by
  intro i r hr; have := h i; rw [hr] at this; simpa using this

/-- A value of an optional field under a bound. -/
theorem optAll {α : Type} {o : Option α} {p : α → Prop} [DecidablePred p] (h : o.all (fun x => decide (p x)) = true) :
    ∀ x, o = some x → p x := by rintro x rfl; simpa using h

/-- The fill law outside a LEVEL reset, in a form that is checked corner by corner. -/
abbrev FillCheck (s : State) : Prop :=
  (∀ c : Corner, (s.granted c = true ↔ s.valves.level[c.val].first.prog ≠ .idle) ∧
    (s.valves.level[c.val].first.prog ≠ .idle → s.valves.level[c.val].first.prog.completes = true) ∧
    (s.lc.reserve = .below → s.granted c = false) ∧
    ((s.corner c).waiting.all fun w => decide (s.granted c = false ∧ w.prog.inRange.completes = true ∧
      (s.lc.reserve = .above → s.lc.grants[0] ≠ none ∧ s.lc.grants[1] ≠ none))) = true) ∧
  (s.lc.grants[0] = s.lc.grants[1] → s.lc.grants[0] = none) ∧ s.inReset .level = false
theorem fillLaw_of {s : State} (h : FillCheck s) : s.FillLaw := fun _ =>
  ⟨fun c => (h.1 c).1, fun c => (h.1 c).2.1, fun x c => (h.1 c).2.2.1 x, h.2.1, fun c => optAll (h.1 c).2.2.2,
    fun x => absurd x (by simp [h.2.2])⟩

/-! ### Well-formedness and decoding -/

/-- A payload of 27 bytes is no frame that R171 passes. -/
theorem test_wf_payload_27 : (Instr.place (fr 1 (List.replicate 27 0))).wf = false := by decide +kernel
theorem test_wf_payload_26 : (Instr.place (fr 1 (List.replicate 26 0))).wf = true := by decide +kernel
theorem test_wf_resetAll_27 : (Instr.resetAll (fr 1 (List.replicate 27 0))).wf = false := by decide +kernel
/-- A transaction of no byte is no request (R170). -/
theorem test_wf_no_byte : (Instr.frameCheckFail []).wf = false ∧ (Instr.frameCheckFail [1]).wf = true := by decide +kernel
theorem test_wf_event : (Instr.brakeCycle).wf = true := by decide +kernel
/-- No row of the opcode table gives bits. -/
theorem test_no_word_spells_a_command : Sys2Proof.decodeTableWord 16 0x0101 = none := by decide +kernel

/-! ### The manual's worked examples -/

/-- R181: the bytes of the reset response after power-on carry the CRC of section 10.8. -/
theorem test_reset_response : frameOf 0x00 .ok [0] = State.reset.hl.response := by decide +kernel

/-- R84: D = 333 and a ceiling of 455 give 152. -/
theorem test_driver_pressure : driverPressure 333 455 = 152 := by decide +kernel

/-- Section 5.12: L_B of 412 and 398 kPa is 405, C_B 606, P_B at 600 ‰ 364. -/
theorem test_axle_B : freeLoad ⟨412, .valid, none⟩ ⟨398, .valid, none⟩ 550 = 405 ∧ loadCeiling 400 800 250 550 405 = 606 ∧
    driverPressure 600 606 = 364 := by decide +kernel

/-- Section 5.14, the latched load: 350 gives 525, 295 gives 460. -/
theorem test_load_ceiling_A : loadCeiling 350 700 200 500 350 = 525 ∧ loadCeiling 350 700 200 500 295 = 460 := by decide +kernel

/-- Section 11.3's state before a cycle of channel A-O: pedals at 400 ‰, bellows of axle A at 380 and 360 kPa, the DOOR_EMERGENCY's
floor of 150, and the chamber's pressure, the speeds and the channel as the row gives them. -/
def slide (vref vw p : Nat) (x : SlipState) (target hold : Nat) : State :=
  let s := put 3 (rec .doorEmergency (.door 2)) clear
  let s := good 18 400 (good 19 400 (good 6 380 (good 7 360 (good 1 p s))))
  withBrake 1 { resetChannel with run := .running, slip := x, target := some target, holdCount := hold }
    (wheelAt 1 vw (atSpeed vref s))

/-- What a row of the table shows. -/
def shown (s : State) : Nat × SlipState × Option Nat × BrakeCommand :=
  let x := (after .brakeCycle s).bc.channels[1]
  (x.slipValue, x.slip, x.target, x.command)

theorem test_slide_cycle1 : shown (slide 400 330 210 .follow 219 0) = (175, .relieve, some 150, .exhaust 7) := by decide +kernel
theorem test_slide_cycle2 : shown (slide 400 352 158 .relieve 150 0) = (120, .relieve, some 90, .exhaust 8) := by decide +kernel
theorem test_slide_cycle3 : shown (slide 399 374 101 .relieve 90 0) = (62, .hold, some 90, .none) := by decide +kernel
theorem test_slide_cycle6 : shown (slide 398 397 91 .hold 90 3) = (2, .reapply, some 110, .apply 2) := by decide +kernel
theorem test_slide_axle : ((after .brakeCycle (slide 400 330 210 .follow 219 0)).bc.axles[0]).base = 219 ∧
    (after .brakeCycle (slide 400 330 210 .follow 219 0)).flag .slip = true := by decide +kernel

/-- R14: a STOP_HOLD of floor 250 and delay 800 contributes 234 after its first step. -/
def fading (left : Nat) : State :=
  put 3 { rec .stopHold .driver with state := .releasing, releaseLeft := left, stepAt := some 50000, ownerRelease := true } clear
theorem test_first_release_step : (after (.releaseStep 3) (fading 800)).eu.env.floors = #v[234, 234, 234] := by decide +kernel
theorem test_last_release_step : (after (.releaseStep 3) (fading 50)).recordAt 3 = none ∧
    (after (.releaseStep 3) (fading 50)).rt.changeCount = 1 := by decide +kernel

/-- Section 11.2 at 7.9 s: door 1's OPENING, in the context RELEASED, places DOOR_OPEN for DOOR1, and the steer limit becomes 0. -/
def opening : State :=
  let s := withDoor 0 .opening clear
  { s with dl := { s.dl with lines := s.dl.lines.set 0 { s.line 0 with holding := some 0x03, activity := .held, clockLow := true } }
           dt := { s.dt with releaseSet := 0b0011 } }
theorem test_opening_places_doorOpen : (after .translateWord opening).find .doorOpen (.door 0) = some 0 ∧
    (after .translateWord opening).eu.env.steer = 0 ∧ (after .translateWord opening).eu.env.floors = #v[250, 250, 250] := by
  decide +kernel

/-- Section 11.3: in the context MOVING the same word places DOOR_EMERGENCY and queues CHIME_LONG. -/
theorem test_opening_while_moving :
    let t := after .translateWord (moving true opening)
    t.find .doorEmergency (.door 0) = some 0 ∧ (t.line 0).queue = [.chimeLong] := by decide +kernel

/-- Section 11.2 at 6.6 s: KNEEL(FRONT) placed at a stop is ACTIVE at once, and A-K receives −70 and enters LOWERING. -/
theorem test_kneel_lowers :
    let t := after (.place (fr 1 [4, 0, 0, 0])) (standing true clear)
    (t.corner 0).offset = -70 ∧ (t.corner 0).phase = .lowering ∧ (t.corner 1).phase = .level ∧ t.eu.env.kneel = true := by
  decide +kernel
/-- Placed while the bus moves it is ARMED for 10 s (section 1.3, R10). -/
theorem test_kneel_waits_armed :
    ((after (.place (fr 1 [4, 0, 0, 0])) clear).recordAt 0).map (fun r => (r.state, r.armAt)) = some (.armed, some 10000000) := by
  decide +kernel

/-- R11: the arm timer's expiry retires it and sets RECORD_TIMEOUT. -/
theorem test_arm_timeout :
    let t := after (.armTimeout 0) (after (.place (fr 1 [4, 0, 0, 0])) clear)
    t.recordAt 0 = none ∧ t.flag .recordTimeout = true ∧ t.rt.slots[0].gen = 1 := by decide +kernel

/-- Section 6.4, "Sharing the supply": C-K at 248 mm against 260 fills for 36 ms with a grant; a corner under both grants waits. -/
def control (c : Corner) (height : Nat) (s : State) : State :=
  after (.cornerTimerExpiry c) (s.withCorner c { s.corner c with sum := height, count := 1, sourceAt := some 0, source := .timer50 })
def shared : State :=
  let s := formContext (standing true clear)
  { s with lc := { s.lc with reserve := .above } }
theorem test_fill_of_36_ms : ((control 4 248 shared).gen (.fill 4)).prog = .single 36 ∧
    (control 4 248 shared).granted 4 = true := by decide +kernel
theorem test_third_corner_waits :
    let s := control 2 251 (control 5 245 (control 4 248 shared))
    (s.gen (.fill 5)).prog = .single 40 ∧ (s.corner 2).waiting.map (·.error) = some 9 ∧ s.granted 2 = false := by decide +kernel
/-- The run-out of C-K's fill hands its grant to A-O, whose error of 11 is above B-K's 9. -/
theorem test_run_out_passes_the_grant :
    let s := control 1 249 (control 2 251 (control 5 245 (control 4 248 shared)))
    let t := after (.singlePeriodEnd (.fill 4)) s
    t.granted 1 = true ∧ t.granted 4 = false ∧ (t.gen (.fill 1)).prog = .single 33 ∧ t.granted 2 = false := by decide +kernel

/-- Section 6.5, "A front kneel halted at the kerb": the halt at a last height of 236 against a target of 190 holds at 256. -/
theorem test_halt_height :
    let s := clear.withCorner 0 { clear.corner 0 with phase := .lowering, offset := -70, last := some 236 }
    ((haltKneel s).corner 0).phase = .halted ∧ targetOf (haltKneel s) 0 = 256 := by decide +kernel

/-- Section 7.7, cycle 1 after the pull-out: θ = −235 at speed 120 gives a target of 117, a command of 4 and KERBWARD at 32 %. -/
def pullOut : State := withActuator (usable 0) (withJoint (usable (-235)) (atSpeed 120 clear))
theorem test_joint_cycle :
    let t := after .jsCycle pullOut
    t.js.target = 117 ∧ t.js.command = 4 ∧ (t.gen .kerbward).prog = .duty 32 ∧ t.js.engaged = false ∧ t.js.band = 2 := by
  decide +kernel

/-- Section 11.2: with the remainder at 0 four pulses of B-K add 157 mm. -/
theorem test_four_pulses :
    (after (.wheelPulse 2) (after (.wheelPulse 2) (after (.wheelPulse 2) (after (.wheelPulse 2) clear)))).mc.trip = 157 := by
  decide +kernel

/-- R52: one pulse in the window gives 35, twelve give 423. -/
theorem test_wheel_speed : wheelSpeed 3140 80 1 = 35 ∧ wheelSpeed 3140 80 12 = 423 := by decide +kernel

/-- Section 3.2: a word of 611 kPa sends RESERVE BELOW at a threshold of 620, and one of 641 sends it ABOVE again. -/
theorem test_comparator : compare 620 611 .above = .below ∧ compare 620 641 .below = .above := by decide +kernel

/-- R23, R25: a ceiling of 900 in AMEND is clamped to 800 and the batch is answered CLAMPED, one applied. -/
theorem test_amend_clamps :
    let t := after (.amend (fr 1 [1, 1, 0, 1, 0x03, 0x84])) (put 0 (rec .speedCap .driver) clear)
    (t.recordAt 0).map (·.ceiling) = some (some 800) ∧ t.hl.response.take 5 = [0x05, 1, 2, 1, 0xFF] := by decide +kernel

/-- R6: a second placement of a kind and owner is answered ALREADY with the handle. -/
theorem test_place_again :
    (after (.place (fr 1 [5, 0xFF, 0, 0])) (put 0 (rec .speedCap .driver) clear)).hl.response.take 5 = [0x01, 2, 2, 1, 0] := by
  decide +kernel

/-- R21, R13: RETIRE of a SPEED_CAP, whose delay is 0, retires it at once. -/
theorem test_retire_speedCap :
    let t := after (.retire (fr 1 [1, 0])) (put 0 (rec .speedCap .driver) clear)
    t.recordAt 0 = none ∧ t.eu.env.ceiling = 800 ∧ t.flag .record = true := by decide +kernel

/-- R163, R166: SET_DOOR_RELEASE {1, 2} queues PERMIT on lines 1 and 2. -/
theorem test_release_set :
    let t := after (.setDoorRelease (fr 1 [0b11])) clear
    (t.line 0).queue = [.permit] ∧ (t.line 1).queue = [.permit] ∧ (t.line 2).queue = [] ∧ t.dt.releaseSet = 0b0011 := by
  decide +kernel

/-- R141, R166: a good word 0x01 with odd parity on a LOST line makes it PRESENT, its door LOCKED, and queues WITHHOLD and
QUERY_STATE. -/
theorem test_word_on_lost_line :
    let t := after (.doorWord 0 0x01 false .high) clear
    (t.line 0).present = true ∧ (t.line 0).door = .locked ∧ (t.line 0).queue = [.withhold, .queryState] := by decide +kernel
/-- The same code with parity 1 has an even count of ones and is discarded. -/
theorem test_word_of_even_parity : ((after (.doorWord 0 0x01 true .high) clear).line 0).errors = 1 := by decide +kernel

/-- R179: the heartbeat timer's expiry places SUPERVISION_LOST, whose ceiling is 150, in slot 25. -/
theorem test_supervision_lost :
    let t := after .heartbeatTimerExpiry clear
    t.find .supervisionLost .plaus = some 24 ∧ t.eu.env.ceiling = 150 := by decide +kernel

/-- R50, R177: CRITICAL written as 600 raises LOW to 600, answered CLAMPED with all three thresholds. -/
theorem test_thresholds :
    (after (.writeParam (fr 0 [3, 2, 0x02, 0x58])) (configured false clear)).hl.response.take 9 =
      [0x30, 1, 6, 0x02, 0x6C, 0x02, 0x58, 0x02, 0x58] := by decide +kernel

/-- R26: QUERY of START_HOLD after reset: handle, kind 10, owner PLAUS, ACTIVE, LATCHED, floor, ceiling, steer limit and swing. -/
theorem test_query_startHold :
    (after (.query (fr 0 [25, 0, 0])) State.reset).hl.response.take 16 =
      [0x02, 0, 26, 25, 0, 10, 8, 2, 0x01, 0x27, 0x3F, 0x01, 0x2C, 0, 0, 0] := by decide +kernel

/-- R43: READ_ENVELOPE after reset: floors of 300, ceiling 0, steer 0, offsets 0, damping 0, kneel absent, sequence 1, inhibited. -/
theorem test_read_envelope :
    (after (.readEnvelope (fr 0 [0])) State.reset).hl.response.take 23 =
      [0x10, 0, 20, 0x01, 0x2C, 0x01, 0x2C, 0x01, 0x2C, 0, 0, 0, 0, 0, 0, 0, 0, 0, 0, 1, 0, 1, 1] := by decide +kernel

/-- R56: a full cycle in the positive direction adds four. -/
theorem test_quadrature :
    (after (.phaseTransition .joint .bothLow) (after (.phaseTransition .joint .secondHigh) (after (.phaseTransition .joint .bothHigh)
      (after (.phaseTransition .joint .firstHigh) clear)))).mc.joint.count = 4 := by decide +kernel

/-! ### Witnesses: states and operands that meet the obligations' hypotheses -/

theorem witness_StepTakesTheFront : State.reset.pending = [] := by decide +kernel

theorem witness_CommandsKeepTheQueue : clear.resetHeld = false ∧ exec .brakeCycle clear = .next (after .brakeCycle clear) ∧
    exec .jsCycle clear = .next (after .jsCycle clear) ∧ exec .bucketTimerExpiry clear = .next (after .bucketTimerExpiry clear) ∧
    ((withJoint { usable 0 with illegal := [5] } clear).angle .joint).illegal = 5 :: [] := ⟨rfl, rfl, rfl, rfl, rfl⟩

/-- A part held in reset. -/
def held : State := { clear with resetHeld := true }
theorem witness_ResetInputHolds : held.resetHeld = true ∧ Instr.brakeCycle ≠ .powerOn ∧ Instr.brakeCycle ≠ .resetInput ∧
    ∀ a p, Instr.brakeCycle ≠ .phaseTransition a p := ⟨rfl, by decide, by decide, fun _ _ h => by cases h⟩

theorem witness_ResetAllTaken : clear.resetHeld = false ∧ FrameOwner (fr 2 []) .depot ∧ HostOwner.depot ≠ .none ∧
    (fr 2 []).payload = [] ∧ (atSpeed 9 clear).mc.speed < 10 ∧ 10 ≤ (atSpeed 10 clear).mc.speed := by decide +kernel

theorem witness_EveryRequestIsAnswered :
    requestOfCommand (.place (fr 1 (List.replicate 26 0))) = some (0x01, .hosts, fr 1 (List.replicate 26 0)) ∧
    clear.resetHeld = false ∧ (fr 1 (List.replicate 26 0)).wf = true ∧
    requestOfCommand (.resetAll (fr 1 [])) = some (0x41, .hosts, fr 1 []) ∧ (fr 1 []).wf = true ∧
    (atSpeed 10 clear).resetHeld = false ∧ 10 ≤ (atSpeed 10 clear).mc.speed := by decide +kernel

theorem witness_FrameAndOwnerChecks :
    requestOfCommand (.retire (fr 3 [])) = some (0x06, .hosts, fr 3 []) ∧ 2 < (fr 3 []).owner.toNat ∧ (fr 3 []).wf = true ∧
    requestOfCommand (.retire (fr 0 [])) = some (0x06, .hosts, fr 0 []) ∧ FrameOwner (fr 0 []) .none ∧
    Accepts.hosts.takes .none = false ∧ requestOfCommand (.setMode (fr 1 [])) = some (0x22, .depot, fr 1 []) ∧
    FrameOwner (fr 1 []) .driver ∧ Accepts.depot.takes .driver = false ∧ (fr 0 []).wf = true ∧ (fr 1 []).wf = true ∧
    clear.resetHeld = false := by decide +kernel

/-- Two bytes; a length of 27; a byte too few; a wrong CRC; and a sound frame of code 0x00, which names no request. -/
theorem witness_FrameAndOwnerChecks_bytes : clear.resetHeld = false ∧ ([0x04, 0] : List Byte).length < 3 ∧ 26 < (27 : Byte).toNat ∧
    ([] : List Byte).length < (0 : Byte).toNat + 1 ∧
    ([1] : List Byte)[(0 : Byte).toNat]? ≠ some (crc8 (([0x04, 0, 0, 1] : List Byte).take ((0 : Byte).toNat + 3))) ∧
    (0 : Byte).toNat ≤ 26 ∧
    ([crc8 [0, 0, 0]] : List Byte)[(0 : Byte).toNat]? = some (crc8 (([0, 0, 0, crc8 [0, 0, 0]] : List Byte).take ((0 : Byte).toNat + 3))) ∧
    knownCodes.contains (0 : Byte).toNat = false := by decide +kernel

/-- Lengths that no request of the code has: one byte and three for RETIRE; a PLACE and a WRITE_PROFILE cut short, with a byte too many,
and with a list longer than its count; an AMEND entry without its second byte; a WRITE_XLATE of one action in two bytes. -/
theorem witness_FrameAndOwnerChecks_length : clear.resetHeld = false ∧ (fr 1 [5, 0xFF, 0, 0, 0]).wf = true ∧ FrameOwner (fr 1 []) .driver ∧
    Accepts.hosts.takes .driver = true ∧ ¬ PayloadFits 0x06 [1] ∧ ¬ PayloadFits 0x06 [1, 0, 0] ∧
    ¬ PayloadFits 0x01 [5, 0xFF, 0] ∧ ¬ PayloadFits 0x01 [5, 0xFF, 0, 0, 0] ∧ ¬ PayloadFits 0x01 [5, 0xFF, 1, 0, 1, 1, 2] ∧
    ¬ PayloadFits 0x31 [5, 0xFF, 0, 2, 3] ∧ ¬ PayloadFits 0x05 [] ∧ ¬ PayloadFits 0x05 [1, 1, 0, 1, 3] ∧
    ¬ PayloadFits 0x32 [1, 0, 1, 0, 0] := by
  refine ⟨rfl, by decide, rfl, rfl, by simp [PayloadFits], by simp [PayloadFits], ?_, ?_, ?_, ?_, ?_, ?_, ?_⟩
  · rintro ⟨k, x, a, b, rest, m, n, h, -⟩; simp at h
  · rintro ⟨k, x, a, b, rest, m, n, h, rfl, -, rfl, h'⟩; simp at h; obtain ⟨-, -, rfl, rfl, rfl⟩ := h; revert h'; decide
  · rintro ⟨k, x, a, b, rest, m, n, h, rfl, -, rfl, h'⟩; simp at h; obtain ⟨-, -, rfl, rfl, rfl⟩ := h; revert h'; decide
  · rintro ⟨k, x, a, b, rest, m, n, h, rfl, -, rfl, h'⟩; simp at h; obtain ⟨-, -, rfl, rfl, rfl⟩ := h; revert h'; decide
  · rintro ⟨n, rest, h, -⟩; simp at h
  · rintro ⟨n, rest, h, hE⟩
    simp at h; obtain ⟨rfl, rfl⟩ := h; obtain ⟨a, b, c, value, more, h', h''⟩ := hE
    simp at h'; obtain ⟨-, -, rfl, h'⟩ := h'
    rcases h'' with h'' | ⟨h'', -⟩
    · revert h''; decide
    · have := congrArg List.length h'; simp at this h''; omega
  · rintro ⟨row, x, n, rest, h, h'⟩; simp at h; obtain ⟨-, -, rfl, rfl⟩ := h; revert h'; decide

theorem witness_LinkStateRequests : clear.resetHeld = false ∧ FrameOwner (fr 0 [7, 0xFF]) .none ∧
    (fr 0 [7, 0xFF]).payload = flagBytes 0x7FF ∧ (fr 0 [0, 0]).payload = flagBytes 0 ∧ (fr 0 []).payload = [] := by decide +kernel

/-- The bus stands under an ACTIVE SERVICE_LOCK. -/
def locked : State := standing true (put 0 { rec .serviceLock .depot with state := .active } clear)
theorem witness_LinkStateRequests_mode : locked.resetHeld = false ∧ FrameOwner (fr 2 [1]) .depot ∧ locked.hl.service = false ∧
    (∃ i r, locked.recordAt i = some r ∧ r.kind = .serviceLock ∧ r.state = .active) ∧ locked.mc.stationary = true ∧
    (standing false locked).mc.stationary = false ∧
    (∀ i r, clear.recordAt i = some r → r.kind = .serviceLock → r.state ≠ .active) ∧ clear.hl.service = false ∧
    (service true clear).hl.service = true ∧ (fr 2 [0]).payload = [0] ∧
    (fr 2 [1]).payload = [if (service true clear).hl.service then 1 else 0] := by
  decide +kernel

/-- A flag set and enabled, disabled, and set while the reset input is held. -/
theorem test_attention_line : base.attentionActive = true ∧ ({ base with hl := { base.hl with mask := 0x3FF } } : State).attentionActive = false ∧
    ({ base with resetHeld := true } : State).attentionActive = false := by decide +kernel

/-- Supervision is LOST, its record stands, the timer runs or has expired, and the run stands at `n`. -/
def lost (n : Nat) (heart : Option Nat) : State :=
  let s := put 24 (rec .supervisionLost .plaus) clear
  { s with hl := { s.hl with supervised := false, runCount := n, heartAt := heart } }
theorem witness_Heartbeats : FrameOwner (fr 0 []) .none ∧ (configured false clear).hl.configured = false ∧
    clear.hl.configured = true ∧ clear.hl.supervised = true ∧ (lost 0 none).hl.configured = true ∧
    (lost 0 none).hl.supervised = false ∧ (lost 0 none).hl.heartAt = none ∧ (lost 8 (some 100000)).hl.heartAt.isSome = true ∧
    (lost 8 (some 100000)).hl.runCount < 9 ∧ (lost 9 (some 100000)).hl.runCount = 9 ∧ (lost 9 (some 100000)).hl.supervised = false ∧
    (lost 9 (some 100000)).find .supervisionLost .plaus = some 24 ∧
    (lost 9 (some 100000)).recordAt 24 = some (rec .supervisionLost .plaus) ∧ (rec .supervisionLost .plaus).state = .active ∧
    (rec .supervisionLost .plaus).ownerRelease = false ∧ (rec .supervisionLost .plaus).conds = [.ownerRelease] ∧
    (rec .supervisionLost .plaus).delay = 0 ∧ (rec .supervisionLost .plaus).steer = none ∧
    (lost 9 (some 100000)).hasChild 24 = false := by decide +kernel

theorem witness_Heartbeats_expiry : clear.resetHeld = false ∧ (lost 5 (some 100000)).hl.heartAt = some 100000 ∧
    (lost 5 (some 100000)).hl.supervised = false ∧ clear.hl.heartAt = some 100000 ∧ clear.hl.supervised = true ∧
    clear.find .supervisionLost .plaus = none ∧ (∃ i : Slot, 24 ≤ i.val ∧ clear.recordAt i = none) ∧
    ProfileCond.fixed .ownerRelease ∈ (clear.profile .supervisionLost).conds := by decide +kernel

theorem witness_ConfigDoneTaken : clear.hl.configured = true ∧ (allDoors .locked State.reset).hl.configured = false ∧
    (allDoors .locked State.reset).recordAt 24 = some startHoldRecord ∧ startHoldRecord.kind = .startHold ∧
    startHoldRecord.state = .active ∧ startHoldRecord.mode = .latched ∧ startHoldRecord.conds = [.configDone, .allDoorsLocked] ∧
    (∀ d : Door, ((allDoors .locked State.reset).line d).door = .locked) ∧ (allDoors .locked State.reset).hasChild 24 = false ∧
    0 < startHoldRecord.delay ∧ (allDoors .locked State.reset).resetHeld = false ∧ FrameOwner (fr 0 []) .none := by decide +kernel

/-- A ride height of 149 and of 350; the last index of a table and one past it; CRITICAL at 1201 with the reservoir STALE and VALID; a
source of 3 for the last corner and context, in a LEVEL reset and not, and one of 4. -/
def thresholds : State := good 20 700 (configured false clear)
theorem witness_ParameterWrites : clear.hl.configured = true ∧ clear.hl.service = false ∧ (configured false clear).hl.configured = false ∧
    (configured false clear).resetHeld = false ∧ FrameOwner (fr 0 [9, 0, 0, 149]) .none ∧
    (fr 0 [9, 0, 0, 149]).payload = [9, 0, 0, 149] ∧ readS16 0 149 = 149 ∧ readS16 1 94 = 350 ∧
    paramRange (9 : Byte).toNat (0 : Byte).toNat = some (150, 350) ∧ paramRange (1 : Byte).toNat (0 : Byte).toNat = some (1000, 4000) ∧
    paramRange (16 : Byte).toNat (7 : Byte).toNat = some (0, 7) ∧ paramRange (16 : Byte).toNat (8 : Byte).toNat = none ∧
    paramRange (0 : Byte).toNat (0 : Byte).toNat = none ∧ (0 : Byte) ≠ 3 ∧ (0 : Byte) ≠ 11 ∧
    paramRange (3 : Byte).toNat (3 : Byte).toNat = none ∧ 3 ≤ (3 : Byte).toNat ∧ (3 : Byte) ≠ 11 ∧
    paramRange (11 : Byte).toNat (17 : Byte).toNat = none ∧ (11 : Byte) ≠ 3 ∧ 3 < readS16 0 4 ∧ 18 ≤ (18 : Byte).toNat := by
  decide +kernel
theorem witness_ParameterWrites_thresholds : (fr 0 [3, 2, 4, 0xB1]).payload = [3, 2, 4, 0xB1] ∧ readS16 4 0xB1 = 1201 ∧
    (2 : Byte).toNat ≤ 2 ∧ ((configured false clear).sample 20).state ≠ .valid ∧ (thresholds.sample 20).state = .valid ∧
    thresholds.hl.configured = false ∧ thresholds.resetHeld = false ∧
    (after (.writeParam (fr 0 [3, 2, 4, 0xB1])) thresholds).hl.params ≠ thresholds.hl.params := by decide +kernel
theorem witness_ParameterWrites_sources : (11 : Byte) = 11 ∧ (17 : Byte).toNat = (17 : Fin 18).val ∧ 0 ≤ readS16 0 3 ∧ readS16 0 3 ≤ 3 ∧
    (configured false (resetting .level 5000 clear)).inReset .level = true ∧ (configured false clear).inReset .level = false := by
  decide +kernel

/-- A delay of 5001 for KNEEL(SIDE), with a scope; kind code 12, START_HOLD, a variant of 2, a floor for a KNEEL; a payload cut short. -/
theorem witness_ProfileAndCellWrites : (configured false clear).resetHeld = false ∧ FrameOwner (fr 0 []) .none ∧
    (fr 0 [4, 1, 1, 16, 0x13, 0x89, 63]).wf = true ∧ (true = (!(configured false clear).hl.configured || (configured false clear).hl.service)) ∧
    (false = (!clear.hl.configured || clear.hl.service)) ∧ clear.resetHeld = false ∧
    (fr 0 [4, 1, 1, 16, 0x13, 0x89, 63]).payload = 4 :: 1 :: 1 :: 16 :: [0x13, 0x89, 63] ∧
    readProfileFields (readU16 1 16) [0x13, 0x89, 63] = some { delay := some 5001, scope := some 63 } ∧
    readKind 4 = some .kneel ∧ Kind.kneel ≠ .startHold ∧ readVariant 1 = some (some .side) ∧
    suppliedOk ((configured false clear).profile .kneel) { delay := some 5001, scope := some 63 } = true ∧
    readProfileFields (readU16 0 16) [0x13] = none ∧ readKind 12 = none ∧ readKind 10 = some .startHold ∧ readVariant 2 = none ∧
    readProfileFields (readU16 0 1) [0, 1] = some { floor := some 1 } ∧
    suppliedOk ((configured false clear).profile .kneel) { floor := some 1 } = false := by decide +kernel

/-- Two actions for row 0x10; row 127; a context of 4; three actions; an action that is none; a byte too few. -/
theorem witness_ProfileAndCellWrites_cells : readActions [3, 0x48, 0xFF, 6, 0, 0xFF] = some [.send .chimeShort, .clearQueue] ∧
    (fr 0 [0x10, 3, 2, 3, 0x48, 0xFF, 6, 0, 0xFF]).payload = 0x10 :: 3 :: 2 :: [3, 0x48, 0xFF, 6, 0, 0xFF] ∧
    [3, 0x48, 0xFF, 6, 0, (0xFF : Byte)].length = 3 * (2 : Byte).toNat ∧ (fr 0 [0x10, 3, 2, 3, 0x48, 0xFF, 6, 0, 0xFF]).wf = true ∧
    (0x10 : Byte) ≠ 127 ∧ (3 : Byte) = b1 Context.held.index.val ∧ (2 : Byte).toNat ≤ 2 ∧ 4 ≤ (4 : Byte).toNat ∧ 2 < (3 : Byte).toNat ∧
    [0, 0, 0, 0, 0, 0, 0, 0, (0 : Byte)].length = 3 * (3 : Byte).toNat ∧ readActions [7, 0, 0] = none ∧
    [7, (0 : Byte)].length ≠ 3 * (1 : Byte).toNat ∧ readActions [] = some [] ∧ ([] : List Byte).length = 3 * (0 : Byte).toNat := by decide +kernel

/-- Times of 1 and 255 ms; a speed of 9 and of 10; BRAKE already in reset. -/
theorem witness_ResetGroupStarts : clear.resetHeld = false ∧ FrameOwner (fr 1 [0, 0, 1]) .driver ∧
    (fr 1 [0, 0, 1]).payload = [0, 0, b1 1] ∧ (fr 1 [0, 0, 255]).payload = [0, 0, b1 255] ∧ (atSpeed 9 clear).mc.speed < 10 ∧
    (atSpeed 9 clear).inReset .brake = false ∧ 10 ≤ (atSpeed 10 clear).mc.speed ∧ (fr 1 [2, 0, 1]).payload = [2, 0, b1 1] ∧
    clear.inReset .joint = false ∧ (fr 1 [0, 0, 1]).payload = [b1 (Group.index .brake).val, 0, b1 1] ∧
    (resetting .brake 5000 clear).inReset .brake = true ∧ (resetting .brake 5000 clear).mc.speed < 10 ∧
    (fr 1 [4, 0, 255]).payload = [b1 (Group.index .sense).val, 0, b1 255] ∧ (resetting .sense 5000 clear).inReset .sense = true := by
  decide +kernel

theorem witness_DoorsLevelSenseResetsStart : clear.resetHeld = false ∧ FrameOwner (fr 1 [3, 0, 1]) .driver ∧
    (fr 1 [3, 0, 1]).payload = [3, 0, b1 1] ∧ clear.inReset .doors = false ∧
    (∃ d : Door, ((withDoor 3 .open clear).line d).door ≠ .unknown) := by decide +kernel

theorem witness_DoorsLevelSenseResetsStart_levelSense : clear.resetHeld = false ∧ FrameOwner (fr 1 [1, 0, 255]) .driver ∧
    (fr 1 [1, 0, 255]).payload = [1, 0, b1 255] ∧ clear.inReset .level = false ∧ (fr 1 [4, 0, 1]).payload = [4, 0, b1 1] ∧
    (configured false clear).inReset .sense = false ∧ (configured false clear).hl.configured = false := by decide +kernel

theorem witness_GroupResetEnds : clear.resetHeld = false ∧ (resetting .joint 5000 clear).hl.resets[(Group.index .joint).val] = some 5000 ∧
    (resetting .doors 5000 clear).hl.resets[3] = some 5000 ∧
    (∀ d : Door, ((resetting .doors 5000 clear).line d).activity = .listening ∧ ((resetting .doors 5000 clear).line d).queue = [] ∧
      ((resetting .doors 5000 clear).line d).minimumAt = none) := by decide +kernel

/-- A LEVEL reset that ends before CONFIG_DONE with two kneels to report, one over a corner that is still low; with one that has run out;
and one that ends in CONFIGURED with every sensor as it was. -/
def sunk (left : Nat) (rising : List RisingEntry) : State :=
  let s := putRecord 0 { rec .kneel .driver with state := .releasing, releaseLeft := left }
    (putRecord 1 { rec .kneel .depot with state := .releasing, releaseLeft := left } (configured false (resetting .level 5000 clear)))
  { s with lc := { s.lc with rising := rising }, eu := { s.eu with env := { s.eu.env with offsets := #v[-70, 0, 0, 0, 0, 0] } } }
theorem witness_GroupResetEnds_risen :
    let two : List RisingEntry := [⟨⟨0, 0⟩, 1⟩, ⟨⟨1, 0⟩, 2⟩]
    (sunk 50 two).resetHeld = false ∧ (sunk 50 two).hl.resets[1] = some 5000 ∧ (sunk 50 two).hl.configured = false ∧
    [(⟨⟨1, 0⟩, 2⟩ : RisingEntry)] = ((sunk 50 two).lc.rising.filter fun entry => (List.finRange 6).all fun c : Corner =>
      !entry.scope.has c || !(c == 0)) ∧ (∀ c : Corner, (c == 0) = true ↔ (sunk 50 two).eu.env.offsets[c.val] ≠ 0) ∧
    ((sunk 50 two).lc.rising.map (·.handle)).Nodup ∧ (sunk 50 two).names ⟨1, 0⟩ = true ∧
    ((sunk 50 two).recordAt 1).any (fun r => r.state == .releasing && 0 < r.releaseLeft) = true := by decide +kernel
theorem witness_GroupResetEnds_gone :
    let one : List RisingEntry := [⟨⟨1, 0⟩, 2⟩]
    one = (one.filter fun entry => (List.finRange 6).all fun c : Corner => !entry.scope.has c || !(c == 0)) ∧
    (sunk 0 one).names ⟨1, 0⟩ = true ∧ (sunk 0 one).recordAt 1 = some { rec .kneel .depot with state := .releasing } ∧
    (rec .kneel .depot).releaseLeft = 0 ∧ (rec .kneel .depot).distLeft = 0 ∧ (rec .kneel .depot).parent = none ∧
    (∀ j q, (sunk 0 one).recordAt j = some q → Cond.noKneel ∉ q.conds) := by
  decide +kernel

/-- A SPEED_CAP of DRIVER with a ceiling of 801 supplied; a KNEEL(SIDE) under a parent; a STOP_HOLD placed at a stop. -/
theorem witness_PlaceCreatesRecord : clear.resetHeld = false ∧ (fr 1 [5, 0xFF, 0, 2, 3, 0x21]).wf = true ∧
    FrameOwner (fr 1 [5, 0xFF, 0, 2, 3, 0x21]) .driver ∧ HostOwner.driver.record = some .driver ∧
    (fr 1 [5, 0xFF, 0, 2, 3, 0x21]).payload = b1 Kind.speedCap.code :: 0xFF :: 0 :: 2 :: [3, 0x21] ∧
    readPlaceFields (readU16 0 2) [3, 0x21] = some ({ ceiling := some 801 }, none) ∧ Kind.speedCap.permits .driver = true ∧
    suppliedOk (clear.profile .speedCap) { ceiling := some 801 } = true ∧ clear.find .speedCap .driver = none ∧
    clear.recordAt 0 = none ∧ freeSlotFor clear .driver = some 0 ∧
    Cond.ownerRelease ∈ placedConds (clear.profile .speedCap)
      { kind := .speedCap, owner := .driver, variant := none, supplied := { ceiling := some 801 }, parent := none } := by
  decide +kernel
/-- A KNEEL(SIDE) of DRIVER under the handle (1, 0) of an ACTIVE STOP_HOLD of depth 3. -/
def parented : State := put 0 { rec .stopHold .driver with state := .active, depth := 3 } clear
theorem witness_PlaceCreatesRecord_parent : parented.resetHeld = false ∧ (fr 1 [4, 1, 2, 0, 1, 0]).wf = true ∧
    (fr 1 [4, 1, 2, 0, 1, 0]).payload = b1 Kind.kneel.code :: 1 :: 2 :: 0 :: [1, 0] ∧
    readPlaceFields (readU16 2 0) [1, 0] = some ({}, some (some ⟨0, 0⟩)) ∧ readVariant 1 = some (some .side) ∧
    Kind.kneel.permits .driver = true ∧ suppliedOk (parented.profile .kneel) {} = true ∧ parented.find .kneel .driver = none ∧
    (match checkParent parented (some (some ⟨0, 0⟩)) with | .ok x => x = (some ⟨0, 0⟩, 4) | .error _ => False) ∧
    freeSlotFor parented .driver = some 1 ∧
    Cond.ownerRelease ∈ placedConds (parented.profile .kneel)
      { kind := .kneel, owner := .driver, variant := some .side, supplied := {}, parent := some (some ⟨0, 0⟩) } := by
  and_intros <;> first | decide +kernel | exact rfl
/-- The same under a RELEASING one. -/
def parentFading : State := put 0 { rec .stopHold .driver with state := .releasing, releaseLeft := 50, stepAt := some 50000 } clear
theorem witness_PlaceCreatesRecord_returned : parentFading.find .kneel .driver = none ∧
    (match checkParent parentFading (some (some ⟨0, 0⟩)) with | .ok x => x = (some ⟨0, 0⟩, 2) | .error _ => False) ∧
    parentFading.recordAt 0 = some { rec .stopHold .driver with state := .releasing, releaseLeft := 50, stepAt := some 50000 } ∧
    freeSlotFor parentFading .driver = some 1 := ⟨by decide +kernel, rfl, by decide +kernel, by decide +kernel⟩
/-- The case without a parent, and the envelope's premise. -/
theorem witness_PlaceCreatesRecord_plain : checkParent clear none = .ok (none, 1) ∧ Kind.speedCap ≠ .kneel ∧ clear.EnvelopeLaw :=
  ⟨rfl, by decide, by decide +kernel⟩

/-- A SPEED_CAP of DRIVER lives in slot 1, ACTIVE or RELEASING; kind code 12, a JOINT_LIMIT, a variant of 2, a floor for a SPEED_CAP,
and a stale parent. -/
def capped : State := put 0 (rec .speedCap .driver) clear
def fadingCap : Record := { rec .speedCap .driver with state := .releasing, delay := 100, releaseLeft := 100, stepAt := some 50000 }
def cappedFading : State := put 0 fadingCap clear
theorem witness_PlaceMeetsLiveRecord : capped.resetHeld = false ∧ (fr 1 [5, 0xFF, 0, 0]).wf = true ∧
    (fr 1 [5, 0xFF, 0, 0]).payload = 5 :: 0xFF :: 0 :: 0 :: [] ∧ readPlaceFields (readU16 0 0) [] = some ({}, none) ∧
    readKind 12 = none ∧ (fr 1 [12, 0xFF, 0, 0]).wf = true ∧ readKind 7 = some .jointLimit ∧ Kind.jointLimit.permits .driver = false ∧
    readKind 4 = some .kneel ∧ Kind.kneel.permits .driver = true ∧ readVariant 2 = none ∧
    readKind 5 = some .speedCap ∧ Kind.speedCap.permits .driver = true ∧
    readPlaceFields (readU16 0 1) [0, 1] = some ({ floor := some 1 }, none) ∧
    suppliedOk (clear.profile .speedCap) { floor := some 1 } = false ∧ suppliedOk (clear.profile .speedCap) {} = true ∧
    readPlaceFields (readU16 2 0) [1, 0] = some ({}, some (some ⟨0, 0⟩)) ∧ clear.find .speedCap .driver = none ∧
    capped.find .speedCap .driver = some 0 ∧ capped.recordAt 0 = some (rec .speedCap .driver) ∧
    (rec .speedCap .driver).state ≠ .releasing ∧ cappedFading.find .speedCap .driver = some 0 ∧
    cappedFading.recordAt 0 = some fadingCap ∧ fadingCap.state = .releasing ∧ Cond.ownerRelease ∈ fadingCap.conds ∧
    cappedFading.EnvelopeLaw := by decide +kernel
/-- Parents for a SPEED_CAP of DEPOT: a handle that names no record, an ARMED record, one of JOINT, one of depth 4, one of depth 3; and
a table with no slot of the class free. -/
def underArmed : State := put 0 (rec .stopHold .driver) clear
def underJoint : State := put 24 (rec .jointLimit .joint) clear
def underDepth (n : Nat) : State := put 0 { rec .stopHold .driver with state := .active, depth := n } clear
def full : State := { clear with rt := { clear.rt with slots := Vector.replicate 32 ⟨0, some (rec .doorOpen (.door 0))⟩ } }
theorem witness_PlaceMeetsLiveRecord_parent : (fr 2 [5, 0xFF, 2, 0, 1, 0]).wf = true ∧ FrameOwner (fr 2 [5, 0xFF, 2, 0, 1, 0]) .depot ∧
    HostOwner.depot.record = some .depot ∧ (fr 2 [5, 0xFF, 2, 0, 1, 0]).payload = 5 :: 0xFF :: 2 :: 0 :: [1, 0] ∧
    readPlaceFields (readU16 2 0) [1, 0] = some ({}, some (some ⟨0, 0⟩)) ∧ Kind.speedCap.permits .depot = true ∧ Kind.speedCap ≠ .kneel ∧
    suppliedOk (clear.profile .speedCap) {} = true ∧ clear.find .speedCap .depot = none ∧ clear.names ⟨0, 0⟩ = false ∧
    underArmed.names ⟨0, 0⟩ = true ∧ underArmed.recordAt 0 = some (rec .stopHold .driver) ∧ (rec .stopHold .driver).state = .armed ∧
    underArmed.find .speedCap .depot = none ∧ readPlaceFields (readU16 2 0) [25, 0] = some ({}, some (some ⟨24, 0⟩)) ∧
    underJoint.names ⟨24, 0⟩ = true ∧ underJoint.recordAt 24 = some (rec .jointLimit .joint) ∧ (rec .jointLimit .joint).state ≠ .armed ∧
    (rec .jointLimit .joint).owner = .joint ∧ underJoint.find .speedCap .depot = none ∧
    (underDepth 4).recordAt 0 = some { rec .stopHold .driver with state := .active, depth := 4 } ∧ (underDepth 4).names ⟨0, 0⟩ = true ∧
    (underDepth 4).find .speedCap .depot = none ∧ full.find .speedCap .depot = none ∧ full.names ⟨0, 0⟩ = true ∧
    full.recordAt 0 = some (rec .doorOpen (.door 0)) ∧ (rec .doorOpen (.door 0)).state ≠ .armed ∧ (rec .doorOpen (.door 0)).depth ≤ 3 ∧
    (∀ j : Slot, j.val < 24 → full.recordAt j ≠ none) := by decide +kernel

/-- QUERY pages 1, 2 and 3 of START_HOLD and of a stale handle; FIND of a record and of none; LIST. -/
theorem witness_TableReads : State.reset.resetHeld = false ∧ FrameOwner (fr 0 []) .none ∧
    named State.reset 25 0 = some (24, startHoldRecord) ∧ startHoldRecord.conds.length ≤ 4 ∧ (1 : Byte).toNat ≤ 3 ∧
    26 * (1 : Byte).toNat < (recordImage State.reset.now (State.reset.handleAt 24) startHoldRecord).length ∧
    (recordImage State.reset.now (State.reset.handleAt 24) startHoldRecord).length ≤ 26 * (2 : Byte).toNat ∧ 3 < (4 : Byte).toNat ∧
    named State.reset 25 1 = none ∧ (fr 0 [10, 8]).payload = [b1 Kind.startHold.code, b1 Owner.plaus.code] ∧
    State.reset.find .startHold .plaus = some 24 ∧ State.reset.find .speedCap .driver = none ∧
    (fr 0 []).payload = [] := by decide +kernel

theorem witness_ReadRequests : clear.resetHeld = false ∧ FrameOwner (fr 0 [1]) .none ∧ (fr 0 [1]).payload = [1] ∧ (1 : Byte).toNat ≤ 3 ∧
    26 * (1 : Byte).toNat < (jointImage clear).length ∧ (jointImage clear).length ≤ 26 * (2 : Byte).toNat ∧ 3 < (4 : Byte).toNat ∧
    (fr 0 [5, 0]).payload = [5, 0] ∧ (5 : Byte) = b1 (5 : Corner).val ∧ 26 * (0 : Byte).toNat < (brakeImage clear 5).length ∧
    26 * (1 : Byte).toNat < (cornerImage clear 5).length ∧ 6 ≤ (6 : Byte).toNat ∧ (4 : Byte) = b1 ((3 : Door).val + 1) ∧
    26 * (0 : Byte).toNat < (doorImage clear 3).length ∧ 5 ≤ (5 : Byte).toNat ∧ (20 : Byte) = b1 (20 : Channel).val ∧
    26 * (0 : Byte).toNat < (sampleImage clear 20).length ∧ 21 ≤ (21 : Byte).toNat := by decide +kernel

/-- A TRAIN of three openings that WAITS. -/
theorem witness_ReadImages : ∃ left : Nat, reportBytes 7 ⟨.train 80 40 3, false, true, some 2000, none, 2, none⟩ =
    (2 : Byte) :: (u16 80 ++ u16 40 ++ [3]) ++ [1, 1] ++ u16 left ++ [2] := ⟨_, rfl⟩

/-- A ceiling, a scope and a delay of a DRIVER's SPEED_CAP; a stale handle; another owner's record; a floor it lacks. -/
theorem witness_AmendOwnRecord : capped.resetHeld = false ∧ (fr 1 [1, 1, 0, 1, 3, 0x21]).wf = true ∧
    FrameOwner (fr 1 [1, 1, 0, 1, 3, 0x21]) .driver ∧ HostOwner.driver.record = some .driver ∧
    (fr 1 [1, 1, 0, 1, 3, 0x21]).payload = 1 :: [1, 0, 1, 3, 0x21] ∧
    readEntries (1 : Byte).toNat [1, 0, 1, 3, 0x21] = some [⟨some ⟨0, 0⟩, .ceiling 801⟩] ∧ (1 : Byte).toNat ≤ 4 ∧
    capped.names ⟨0, 0⟩ = true ∧ capped.recordAt 0 = some (rec .speedCap .driver) ∧ (rec .speedCap .driver).owner = .driver ∧
    (Change.ceiling 801).accepted (rec .speedCap .driver) = true ∧ (rec .speedCap .driver).state = .active ∧
    (rec .speedCap .driver).ownerRelease = false ∧
    Cond.ownerRelease ∈ ((Change.ceiling 801).apply (rec .speedCap .driver)).conds ∧ (rec .speedCap .driver).kind ≠ .kneel ∧
    capped.EnvelopeLaw ∧ capped.names ⟨0, 1⟩ = false ∧
    readEntries 1 [1, 1, 1, 3, 0x20] = some [⟨some ⟨0, 1⟩, .ceiling 800⟩] ∧ (rec .speedCap .driver).owner ≠ .depot ∧
    (Change.floor 0).accepted (rec .speedCap .driver) = false ∧ readEntries 1 [1, 0, 0, 0, 0] = some [⟨some ⟨0, 0⟩, .floor 0⟩] := by
  decide +kernel
/-- Every other change of a field is accepted somewhere: floor, delay and scope by a STOP_HOLD, steer limit and swing distance by a
DOOR_OPEN's fields on a host record, an offset by a KNEEL. -/
theorem witness_AmendOwnRecord_fields :
    (Change.floor 801).accepted (rec .stopHold .driver) = true ∧ (Change.delay 5001).accepted (rec .stopHold .driver) = true ∧
    (Change.scope 0).accepted (rec .stopHold .driver) = true ∧ (Change.steer 141).accepted (rec .kneel .driver) = true ∧
    (Change.offset (-91)).accepted (rec .kneel .driver) = true ∧ (Change.swing 301).accepted startHoldRecord = true := by
  decide +kernel

/-- A batch of a ceiling and a scope; the same with a floor that a SPEED_CAP lacks, a stale handle or another's record behind the
ceiling; no entry and five. -/
def capEntry : AmendEntry := ⟨some ⟨0, 0⟩, .ceiling 801⟩
theorem capEntry_steady : capEntry.Steady .driver capped.rt.slots :=
  ⟨⟨0, 0⟩, rec .speedCap .driver, rfl, by decide +kernel, rfl, by decide +kernel, .inr ⟨by decide +kernel, rfl, by decide +kernel⟩⟩
theorem witness_AmendOwnRecord_batch :
    readEntries (2 : Byte).toNat [1, 0, 1, 3, 0x21, 1, 0, 6, 0] = some [capEntry, ⟨some ⟨0, 0⟩, .scope 0⟩] ∧ (2 : Byte) ≠ 0 ∧ (2 : Byte).toNat ≤ 4 ∧
    SteadyBatch .driver [capEntry, ⟨some ⟨0, 0⟩, .scope 0⟩] capped.rt.slots ∧ 4 < (5 : Byte).toNat ∧ readEntries (0 : Byte).toNat [] = some [] :=
  ⟨by decide +kernel, by decide, by decide, ⟨capEntry_steady, ⟨⟨0, 0⟩, (Change.ceiling 801).apply (rec .speedCap .driver), rfl,
    by decide +kernel, by decide +kernel, by decide +kernel, .inr ⟨by decide +kernel, by decide +kernel, by decide +kernel⟩⟩, trivial⟩,
   by decide, rfl⟩
theorem witness_AmendOwnRecord_refused : SteadyBatch .driver [capEntry] capped.rt.slots ∧
    (⟨some ⟨0, 0⟩, .floor 0⟩ : AmendEntry).Refused .driver (putEntries [capEntry] capped.rt.slots) .badField ∧
    (⟨some ⟨0, 1⟩, .floor 0⟩ : AmendEntry).Refused .driver (putEntries [capEntry] capped.rt.slots) .stale ∧
    (⟨some ⟨0, 0⟩, .ceiling 0⟩ : AmendEntry).Refused .depot (putEntries [] capped.rt.slots) .notOwner :=
  ⟨⟨capEntry_steady, trivial⟩,
   .inr ⟨⟨0, 0⟩, (Change.ceiling 801).apply (rec .speedCap .driver), rfl, by decide +kernel, .inr (by decide +kernel)⟩,
   .inl ⟨rfl, fun h hh hg => by cases hh; exact absurd hg (by decide +kernel)⟩,
   .inr ⟨⟨0, 0⟩, rec .speedCap .driver, rfl, by decide +kernel, .inl ⟨rfl, by decide +kernel⟩⟩⟩

/-- A STOP_HOLD that waits for its doors alone: with that condition taken off it goes, with another floor it stays. -/
def letGo : Record := { rec .stopHold .driver with state := .active, ownerRelease := true, conds := [.ownerRelease, .allDoorsLocked] }
/-- The same in RELEASING with 50 ms to run: with a door's condition put on it returns, with a delay of 0 it retires, of 49 it goes on. -/
def fadingHold : Record :=
  { rec .stopHold .driver with state := .releasing, ownerRelease := true, conds := [.ownerRelease], releaseLeft := 50, stepAt := some 50000 }
theorem witness_AmendOwnRecord_single : (put 0 letGo clear).names ⟨0, 0⟩ = true ∧ (put 0 letGo clear).recordAt 0 = some letGo ∧
    readEntries (1 : Byte).toNat [1, 0, 8, 2] = some [⟨some ⟨0, 0⟩, .remove (some .allDoorsLocked)⟩] ∧ letGo.kind ≠ .kneel ∧
    letGo.state = .active ∧ letGo.owner = .driver ∧ (Change.remove (some .allDoorsLocked)).accepted letGo = true ∧
    (∀ c ∈ ((Change.remove (some .allDoorsLocked)).apply letGo).conds,
      condHolds (put 0 letGo clear) 0 ((Change.remove (some .allDoorsLocked)).apply letGo) c = true) ∧
    (put 0 letGo clear).hasChild 0 = false ∧ ((Change.remove (some .allDoorsLocked)).apply letGo).Lingers ∧
    ¬ ((Change.remove (some .allDoorsLocked)).apply { letGo with delay := 0 }).Lingers ∧ letGo.parent = none ∧
    (∃ c ∈ ((Change.floor 1).apply letGo).conds, condHolds (put 0 letGo clear) 0 ((Change.floor 1).apply letGo) c = false) ∧
    (put 0 fadingHold clear).recordAt 0 = some fadingHold ∧ fadingHold.state = .releasing ∧ fadingHold.mode = .following ∧
    Cond.allDoorsLocked ∉ fadingHold.conds ∧ condHolds (put 0 fadingHold clear) 0 fadingHold .allDoorsLocked = false ∧
    (Change.add (some .allDoorsLocked)).accepted fadingHold = true ∧ (∀ c, Change.delay 0 ≠ .add (some c)) ∧
    ((Change.delay 0).apply fadingHold).releaseLeft = 0 ∧ ((Change.delay 0).apply fadingHold).distLeft = 0 ∧ fadingHold.parent = none ∧
    0 < ((Change.delay 49).apply fadingHold).releaseLeft := by
  and_intros <;> first | decide +kernel | exact (fun _ h => nomatch h)

/-- A STOP_HOLD of DRIVER: stale, another's, releasing, waiting for its doors, free to go, and ARMED. -/
def stopped : State := put 0 { rec .stopHold .driver with state := .active } clear
def free : Record := { rec .stopHold .driver with state := .active, conds := [.ownerRelease] }
theorem witness_RetireRequest : stopped.resetHeld = false ∧ FrameOwner (fr 1 [1, 0]) .driver ∧ HostOwner.driver ≠ .none ∧
    named stopped 1 1 = none ∧ named stopped 1 0 = some (0, { rec .stopHold .driver with state := .active }) ∧
    some (rec .stopHold .driver).owner ≠ HostOwner.depot.record ∧ some (rec .stopHold .driver).owner = HostOwner.driver.record ∧
    (stopped.line 3).door ≠ .locked ∧ Cond.allDoorsLocked ∈ (rec .stopHold .driver).conds ∧
    (rec .stopHold .driver).ownerRelease = false ∧ named (fading 800) 4 0 ≠ none ∧
    named (put 0 free clear) 1 0 = some (0, free) ∧ free.state = .active ∧ free.ownerRelease = false ∧ free.kind ≠ .kneel ∧
    free.Lingers ∧ (∀ c ∈ free.conds, c = .ownerRelease ∨ condHolds (put 0 free clear) 0 free c = true) ∧
    (put 0 free clear).hasChild 0 = false ∧ (put 0 free clear).EnvelopeLaw ∧
    named capped 1 0 = some (0, rec .speedCap .driver) ∧ ¬ (rec .speedCap .driver).Lingers ∧ (rec .speedCap .driver).parent = none ∧
    (rec .speedCap .driver).conds = [.ownerRelease] ∧ (rec .speedCap .driver).state = .active ∧ capped.hasChild 0 = false ∧
    named (put 0 (rec .stopHold .driver) clear) 1 0 = some (0, rec .stopHold .driver) ∧ (rec .stopHold .driver).state = .armed ∧
    (rec .stopHold .driver).parent = none := by decide +kernel

/-- DEPOT in SERVICE; a record of DRIVER, and START_HOLD of PLAUS. -/
theorem witness_RetireForceRequest : HostOwner.driver ≠ .depot ∧ FrameOwner (fr 2 [1, 0]) .depot ∧ capped.hl.service = false ∧
    (service true capped).hl.service = true ∧ named (service true capped) 1 1 = none ∧
    named (service true capped) 1 0 = some (0, rec .speedCap .driver) ∧ (rec .speedCap .driver).owner ≠ .joint ∧
    (rec .speedCap .driver).owner ≠ .plaus ∧ (service true capped).hasChild 0 = false ∧ (rec .speedCap .driver).parent = none ∧
    (rec .speedCap .driver).kind ≠ .kneel ∧ (service true capped).EnvelopeLaw ∧
    named (service true base) 25 0 = some (24, startHoldRecord) ∧ startHoldRecord.owner = .plaus ∧
    (service true capped).resetHeld = false := by decide +kernel

/-- A STOP_HOLD of DRIVER with a child of DEPOT, and a grandchild of DRIVER under that. -/
def child (o : Owner) (h : Handle) (depth : Nat) : Record := { rec .speedCap o with parent := some h, depth := depth }
def family : State :=
  put 0 { rec .stopHold .driver with state := .active } (put 1 (child .depot ⟨0, 0⟩ 2) (put 2 (child .driver ⟨1, 0⟩ 3) clear))
theorem witness_RetireForceRequest_family : named (service true family) 1 0 = some (0, { rec .stopHold .driver with state := .active }) ∧
    (service true family).under 0 2 = true ∧ (service true family).under 0 1 = true ∧ (service true family).under 0 3 = false ∧
    ∀ j q, (service true family).under 0 j = true → (service true family).recordAt j = some q → q.kind ≠ .kneel := by
  and_intros <;> first
    | decide +kernel
    | exact fun j q hu hr => onRecords (P := fun j q => (service true family).under 0 j = true → q.kind ≠ .kneel) (by decide +kernel) j q hr hu

/-- Release steps with 51 and with 50 ms to run, one of them with a distance still to cover, and an arm timer. -/
def swinging (left dist : Nat) : Record :=
  { rec .rampOut (.door 1) with state := .releasing, releaseLeft := left, distLeft := dist, stepAt := some 50000 }
def waiting : Record := { rec .stopHold .driver with armTimeout := 1, armAt := some 1000 }
theorem witness_RecordTimers : clear.resetHeld = false ∧ (put 0 (swinging 51 0) clear).recordAt 0 = some (swinging 51 0) ∧
    (swinging 51 0).kind ≠ .kneel ∧ (swinging 51 0).state = .releasing ∧ (swinging 51 0).stepAt = some 50000 ∧
    50 < (swinging 51 0).releaseLeft ∧ (put 0 (swinging 51 0) clear).EnvelopeLaw ∧ (swinging 50 0).releaseLeft ≤ 50 ∧
    (swinging 50 0).distLeft = 0 ∧ (swinging 50 0).parent = none ∧ 0 < (swinging 50 1).distLeft ∧ (swinging 50 1).steer ≠ none ∧
    (put 0 (swinging 50 1) clear).EnvelopeLaw ∧ (put 0 waiting clear).recordAt 0 = some waiting ∧ waiting.state = .armed ∧
    waiting.armAt = some 1000 ∧ waiting.parent = none ∧ waiting.kind ≠ .kneel := by decide +kernel

/-- Door 1 LOCKED with its loss timer running, and a record that waits for it, FOLLOWING, LATCHED and ACTIVE. -/
def leaning1 (x : RecState) (m : Mode) : Record :=
  { rec .doorOpen (.door 0) with state := x, mode := m, releaseLeft := if x = .releasing then 50 else 0 }
theorem witness_ConditionsAndParents (x : RecState) (m : Mode) : let s := put 0 (leaning1 x m) (clear.withLine 0 quietLine)
    s.resetHeld = false ∧ (s.line 0).loss = .running 250000 ∧ (s.line 0).door = .locked ∧ s.recordAt 0 = some (leaning1 x m) ∧
    (leaning1 x m).state = x ∧ (leaning1 x m).mode = m ∧ Cond.doorLocked 0 ∈ (leaning1 x m).conds := by
  cases x <;> cases m <;> decide +kernel

/-- A parent that waits for its doors, one that waits for nothing but its child, and one with a second child; the child ARMED or at its
last release step. -/
def freeParent : Record := { rec .stopHold .driver with state := .active, ownerRelease := true, conds := [.ownerRelease] }
def armedChild : Record := { waiting with owner := .depot, parent := some ⟨0, 0⟩, depth := 2 }
def lastStep : Record := { fadingCap with owner := .depot, parent := some ⟨0, 0⟩, depth := 2, releaseLeft := 50 }
def withParent (p r : Record) : State := put 0 p (put 1 r clear)
theorem witness_ConditionsAndParents_child : (withParent freeParent armedChild).recordAt 1 = some armedChild ∧ armedChild.kind ≠ .kneel ∧
    armedChild.parent = some ⟨0, 0⟩ ∧ (withParent freeParent armedChild).names ⟨0, 0⟩ = true ∧
    (withParent freeParent armedChild).recordAt 0 = some freeParent ∧ freeParent.state = .active ∧ freeParent.kind ≠ .kneel ∧
    freeParent.Lingers ∧ armedChild.state = .armed ∧ armedChild.armAt = some 1000 ∧
    (∀ x ∈ freeParent.conds, condHolds (withParent freeParent armedChild) 0 freeParent x = true) ∧
    (∀ k : Slot, (withParent freeParent armedChild).recordAt k = none ∨ k.val < 2) ∧ freeParent.parent ≠ some ⟨0, 0⟩ ∧
    (withParent letGo lastStep).recordAt 1 = some lastStep ∧ lastStep.state = .releasing ∧ lastStep.stepAt = some 50000 ∧
    lastStep.releaseLeft ≤ 50 ∧ lastStep.distLeft = 0 ∧ lastStep.kind ≠ .kneel ∧ (withParent letGo lastStep).recordAt 0 = some letGo ∧
    (∃ x ∈ letGo.conds, condHolds (withParent letGo lastStep) 0 letGo x = false) ∧
    (put 2 (child .driver ⟨0, 0⟩ 2) (withParent freeParent armedChild)).recordAt 2 = some (child .driver ⟨0, 0⟩ 2) ∧
    (child .driver ⟨0, 0⟩ 2).parent = some ⟨0, 0⟩ := by decide +kernel

/-- Every sensor sound, with the set as PLAUS acted on it; a chamber's pressure in FAULT, with the record PLAUS has placed for it. -/
def healthy : State :=
  let s := withActuator (usable 0) (withJoint (usable 0) clear)
  { s with sp := { s.sp with samples := Vector.replicate 21 ⟨500, .valid, some 30000⟩, critical := .above }, degraded := 0 }
def degradedRecord (x : Scope) : Record := { rec .sensorDegrade .plaus with scope := x }
def oneFault : State := after (.sampleWord 0 true 0) healthy
def twoFaults : State := after (.sampleWord 1 true 0) oneFault
theorem healthy_current : healthy.PlausCurrent := by unfold State.PlausCurrent; decide +kernel
theorem witness_GroupResetEnds_configured : (resetting .level 5000 healthy).PlausCurrent ∧
    (resetting .level 5000 healthy).hl.resets[1] = some 5000 ∧ (resetting .level 5000 healthy).hl.configured = true ∧
    ∀ c : Corner, checkAfter ((resetting .level 5000 healthy).corner c).check ((resetting .level 5000 healthy).corner c).recoveryAt.isSome
      ((resetting .level 5000 healthy).heightRecord c) = ((resetting .level 5000 healthy).corner c).check := by
  refine ⟨?_, by decide +kernel, by decide +kernel, by decide +kernel⟩
  unfold State.PlausCurrent; decide +kernel
theorem oneFault_current : oneFault.PlausCurrent := by unfold State.PlausCurrent; decide +kernel
theorem healthy_sound : ¬ healthy.SomeDegraded := by
  rintro (⟨c, h⟩ | h | h | h | ⟨a, h⟩)
  · exact absurd h ((by unfold State.CornerDegraded; decide +kernel : ∀ c : Corner, ¬ healthy.CornerDegraded c) c)
  · exact absurd h (by decide +kernel)
  · exact absurd h (by decide +kernel)
  · exact absurd h (by decide +kernel)
  · cases a <;> exact absurd h (by decide +kernel)
theorem oneFault_degraded : oneFault.SomeDegraded := .inl ⟨0, .inl (by decide +kernel)⟩
theorem witness_PlausFollows : healthy.resetHeld = false ∧ healthy.inReset .sense = false ∧
    exec (.sampleWord (BitVec.ofNat 5 (0 : Channel).val) true 0) healthy = .next oneFault ∧ (0 : Channel).val < 12 ∧
    healthy.hl.configured = true ∧ (configured false healthy).hl.configured = false ∧
    (healthy.find .sensorDegrade .plaus = none ∧ (24 : Slot).val = 24 ∧ healthy.recordAt 24 = none ∧
      ProfileCond.fixed .ownerRelease ∈ (healthy.profile .sensorDegrade).conds) ∧
    healthy.PlausCurrent ∧ ¬ healthy.SomeDegraded ∧ oneFault.SomeDegraded := by
  and_intros <;> first
    | decide +kernel
    | exact next_after _ _
    | decide
    | exact healthy_current
    | exact healthy_sound
    | exact oneFault_degraded
/-- A second fault amends the scope; a sound word for the first withdraws. -/
theorem oneFault_mended : ¬ (after (.sampleWord 0 false 5) oneFault).SomeDegraded := by
  rintro (⟨c, h⟩ | h | h | h | ⟨a, h⟩)
  · exact absurd h ((by unfold State.CornerDegraded; decide +kernel :
      ∀ c : Corner, ¬ (after (.sampleWord 0 false 5) oneFault).CornerDegraded c) c)
  all_goals first | exact absurd h (by decide +kernel) | (cases a <;> exact absurd h (by decide +kernel))
theorem witness_PlausFollows_record : oneFault.PlausCurrent ∧ oneFault.hl.configured = true ∧ oneFault.resetHeld = false ∧
    oneFault.inReset .sense = false ∧ oneFault.find .sensorDegrade .plaus = some 24 ∧
    oneFault.recordAt 24 = some (degradedRecord 1) ∧ oneFault.DegradedScope (degradedRecord 1).scope ∧
    (degradedRecord 1).state = .active ∧ (degradedRecord 1).ownerRelease = false ∧ Cond.ownerRelease ∈ (degradedRecord 1).conds ∧
    exec (.sampleWord (BitVec.ofNat 5 (1 : Channel).val) true 0) oneFault = .next twoFaults ∧ twoFaults.SomeDegraded ∧
    exec (.sampleWord (BitVec.ofNat 5 (0 : Channel).val) false 5) oneFault = .next (after (.sampleWord 0 false 5) oneFault) ∧
    ¬ (after (.sampleWord 0 false 5) oneFault).SomeDegraded ∧ oneFault.GoesAtOnce 24 (degradedRecord 1) := by
  and_intros <;> first
    | exact oneFault_current
    | decide +kernel
    | exact next_after _ _
    | exact .inl ⟨1, .inl (by decide +kernel)⟩
    | exact oneFault_mended
    | (unfold State.DegradedScope State.CornerDegraded; decide +kernel)

/-- A centre mark of an angle that is not usable, and an age of a pedal. -/
theorem witness_PlausFollows_events : (withJoint (resetAngle .bothLow) healthy).mc.joint.calibrated = false ∧
    (∃ a, Instr.centreMark .joint = .centreMark a) ∧ (19 : Channel) = 19 ∧ Instr.sampleAgeExpiry 19 = .sampleAgeExpiry 19 := by
  exact ⟨rfl, ⟨_, rfl⟩, rfl, rfl⟩
/-- The reservoir's word takes CRITICAL (450) BELOW at 449, and ABOVE again at 470; CONFIG_DONE finds everything STALE. -/
def lowAir : State := after (.sampleWord 20 false 449) healthy
theorem witness_PlausFollows_air : (healthy.sample 20).state = .valid ∧ healthy.sp.critical = .above ∧
    exec (.sampleWord 20 false 449) healthy = .next lowAir ∧ lowAir.sp.critical = .below ∧
    healthy.find .airCritical .plaus = none ∧ healthy.recordAt 24 = none ∧ (24 : Slot).val = 24 ∧
    ProfileCond.fixed .ownerRelease ∈ (healthy.profile .airCritical).conds ∧ (lowAir.sample 20).state = .valid ∧ lowAir.resetHeld = false ∧
    lowAir.inReset .sense = false ∧ lowAir.hl.configured = true ∧
    exec (.sampleWord 20 false 470) lowAir = .next (after (.sampleWord 20 false 470) lowAir) ∧
    (after (.sampleWord 20 false 470) lowAir).sp.critical = .above ∧ lowAir.find .airCritical .plaus = some 24 ∧
    lowAir.recordAt 24 = some (rec .airCritical .plaus) ∧ lowAir.GoesAtOnce 24 (rec .airCritical .plaus) := by
  and_intros <;> first
    | decide +kernel
    | exact next_after _ _
theorem witness_PlausFollows_configDone : let s := configured false clear
    s.resetHeld = false ∧ s.hl.configured = false ∧ s.degraded = 0 ∧ FrameOwner (fr 0 []) .none ∧
    exec (.configDone (fr 0 [])) s = .next (after (.configDone (fr 0 [])) s) ∧ (24 : Slot) ≠ 25 ∧ s.recordAt 24 = none ∧
    s.recordAt 25 = none ∧ s.SomeDegraded ∧ s.find .sensorDegrade .plaus = none ∧
    ProfileCond.fixed .ownerRelease ∈ (s.profile .sensorDegrade).conds ∧ s.sp.critical = .below ∧ s.find .airCritical .plaus = none ∧
    ProfileCond.fixed .ownerRelease ∈ (s.profile .airCritical).conds := by
  and_intros <;> first
    | decide +kernel
    | exact next_after _ _
    | decide
    | exact .inl ⟨0, .inl (by decide +kernel)⟩

/-- A table with an ACTIVE RAMP_OUT, a RELEASING one, an ACTIVE KNEEL and a JOINT_LIMIT. -/
def mixed : State :=
  put 0 { rec .rampOut (.door 1) with state := .active } (put 1 (swinging 250 1)
    (put 2 { rec .kneel .driver with state := .active } (put 24 (rec .jointLimit .joint) clear)))
theorem witness_EnvelopeItems :
    ({ rec .rampOut (.door 1) with state := .active } : Record) ∈ liveRecords mixed.rt.slots ∧
    (rec .rampOut (.door 1)).floor = some 300 ∧ (rec .rampOut (.door 1)).scope.touches 0 = true ∧
    swinging 250 1 ∈ liveRecords mixed.rt.slots ∧ (swinging 250 1).steer = some 0 ∧ 0 < (swinging 250 1).distLeft ∧
    0 < (swinging 250 1).delay ∧ ({ rec .kneel .driver with state := .active } : Record) ∈ liveRecords mixed.rt.slots ∧
    (rec .kneel .driver).offset = some (-70) ∧ (rec .kneel .driver).scope.has 0 = true ∧
    rec .jointLimit .joint ∈ liveRecords mixed.rt.slots ∧ (rec .jointLimit .joint).damping = some 7 := by decide +kernel

/-- No owner; a byte of 16; a door to add while the bus moves and while it does not; and a door to take away while it moves. -/
theorem witness_DoorRequests : clear.resetHeld = false ∧ FrameOwner (fr 0 [15]) .none ∧ FrameOwner (fr 1 [15]) .driver ∧
    16 ≤ (16 : Byte).toNat ∧ (15 : Byte).toNat < 16 ∧ (15 : Byte).getLsbD (3 : Door).val = true ∧ clear.isReleased 3 = false ∧
    (moving true clear).mc.moving = true ∧ clear.mc.moving = false ∧
    (∀ i r, clear.recordAt i = some r → r.kind = .supervisionLost → r.state ≠ .active) ∧
    (∃ i r, (lost 0 none).recordAt i = some r ∧ r.kind = .supervisionLost ∧ r.state = .active) ∧
    (∀ d : Door, (0 : Byte).getLsbD d.val = true → (moving true clear).isReleased d = true) := by
  decide +kernel

theorem witness_DoorRequests_command : clear.resetHeld = false ∧ FrameOwner (fr 0 [4, 0x41]) .none ∧ FrameOwner (fr 1 [4, 0x41]) .driver ∧
    (fr 1 [4, 0x41]).payload = [b1 ((3 : Door).val + 1), b1 Command.permit.code] ∧ (resetting .doors 5000 clear).inReset .doors = true ∧
    (moving true clear).mc.moving = true ∧ clear.inReset .doors = false ∧ clear.mc.moving = false ∧
    (fr 1 [1, 0x42]).payload = [b1 ((0 : Door).val + 1), b1 Command.withhold.code] := by decide +kernel

/-- A door of 5 and a code of 0x40. -/
theorem witness_DoorRequests_bad : 4 < (5 : Byte).toNat ∧ (fr 1 [5, 0x41]).payload = [5, 0x41] ∧
    (fr 1 [4, 0x40]).payload = [4, 0x40] ∧ ∀ c : Command, (0x40 : Byte) ≠ b1 c.code :=
  ⟨by decide, rfl, rfl, fun c => by cases c <;> decide⟩

/-- A queue of PERMIT and CHIME_SHORT: WITHHOLD replaces its head, CHIME_LONG its tail, LOCK is appended. -/
def queued : Line := { quietLine with queue := [.permit, .chimeShort] }
theorem witness_QueueHoldsOnePerClass : (∀ x ∈ queued.queue, x.class ≠ Command.lock.class) ∧
    queued.queue = [] ++ Command.permit :: [.chimeShort] ∧ Command.permit.class = Command.withhold.class ∧
    queued.queue = [.permit] ++ Command.chimeShort :: [] ∧ (∀ y ∈ [Command.permit], y.class ≠ Command.chimeLong.class) ∧
    Command.chimeShort.class = Command.chimeLong.class ∧ (queued.queue.map Command.class).Nodup := by decide +kernel

/-- Channels 20 and 21, a channel in a SENSE reset, a VALID chamber channel and a NORMAL corner. -/
theorem witness_SampleEvents : clear.resetHeld = false ∧ (resetting .sense 5000 clear).inReset .sense = true ∧
    clear.inReset .sense = false ∧ 21 ≤ (21 : BitVec 5).toNat ∧ (20 : Channel) = 20 ∧ (11 : Channel).val < 12 ∧
    ((good 11 500 clear).sample 11).state = .valid ∧ ((good 19 500 clear).sample 19).state = .valid ∧
    (17 : Channel).val = 12 + (5 : Corner).val ∧ clear.inReset .level = false ∧ (clear.corner 5).check = .normal ∧
    (clear.corner 5).count < 4095 ∧ (clear.sample 20).state ≠ .valid ∧ (19 : Channel) ≠ 20 := by decide +kernel

theorem witness_SampleEvents_timeouts : clear.resetHeld = false ∧ clear.inReset .sense = false ∧
    (resetting .sense 5000 clear).inReset .sense = true ∧ ((clear.withSample 20 ⟨5, .fault, some 30000⟩).sample 20).ageAt = some 30000 ∧
    ((clear.withSample 20 ⟨5, .fault, some 30000⟩).sample 20).state ≠ .valid ∧ ((good 20 700 clear).sample 20).ageAt = some 30000 ∧
    ((good 20 700 clear).sample 20).state = .valid ∧ ((good 17 250 clear).sample 17).ageAt = some 30000 ∧
    ((good 17 250 clear).sample 17).state = .valid ∧ ((good 17 250 clear).corner 5).check = .normal ∧
    (resetting .level 5000 (good 17 250 clear)).inReset .level = true := by decide +kernel

/-- A fault word for the height of C-O, NORMAL with its recovery window stopped and running, and a good word for it in DEGRADED. -/
def watched (x : CheckState) (window : Option Nat) : State := clear.withCorner 5 { clear.corner 5 with check := x, recoveryAt := window }
theorem witness_SampleEvents_heights : (17 : Channel).val = 12 + (5 : Corner).val ∧ (watched .normal none).resetHeld = false ∧
    (watched .normal none).inReset .sense = false ∧ (watched .normal none).inReset .level = false ∧
    ((watched .normal none).sample 17).state = .stale ∧ ((watched .normal none).corner 5).check = .normal ∧
    checkAfter .normal ((watched .normal none).corner 5).recoveryAt.isSome .fault = .strobe ∧
    checkAfter .normal ((watched .normal (some 9)).corner 5).recoveryAt.isSome .fault = .degraded ∧
    ((watched .degraded none).corner 5).check = .degraded ∧ checkAfter .degraded false .valid = .normal ∧
    (resetting .level 5000 (watched .normal none)).inReset .level = true ∧ FillCheck (watched .normal none) := by decide +kernel

/-- Four corners wait, with errors of 9, 11, 11 and 5, while no corner fills or while A-K and B-O do. -/
def four (reserve : Level) (grants : Vector (Option Corner) 2) : State :=
  let wait (c : Corner) (e : Int) (s : State) : State := s.withCorner c { s.corner c with waiting := some ⟨e, .single 20⟩ }
  let s := wait 1 9 (wait 2 11 (wait 4 11 (wait 5 5 (good 20 700 clear))))
  let s := { s with sp := { s.sp with reserve := reserve, critical := .above }, lc := { s.lc with reserve := reserve, grants := grants } }
  if grants[0].isSome then withGen (.fill 0) ⟨.single 36, true, false, some 36000, none, 0, none⟩
    (withGen (.fill 3) ⟨.single 30, true, false, some 30000, none, 0, none⟩ s) else s
/-- RESERVE goes ABOVE at 640: B-K, then C-K; it goes BELOW at 619. -/
theorem witness_SampleEvents_reserve : let s := four .below #v[none, none]
    s.resetHeld = false ∧ s.inReset .sense = false ∧ s.inReset .level = false ∧ (s.sample 20).state = .valid ∧
    comparatorAfter s.hl.params.critical 640 s.sp.critical = s.sp.critical ∧ s.sp.reserve = .below ∧ s.hl.params.reserve + 20 = 640 ∧
    s.lc.grants = #v[none, none] ∧ IsNext s.waitError 2 ∧ (s.corner 2).waiting = some ⟨11, .single 20⟩ ∧
    IsNext (fun k => if k = 2 then none else s.waitError k) 4 ∧ (s.corner 4).waiting = some ⟨11, .single 20⟩ ∧
    (Program.single 20).inRange.completes = true ∧ ¬ IsNext s.waitError 1 ∧
    (∀ d, IsNext s.waitError d → ¬ IsNext (fun k => if k = d then none else s.waitError k) 1) ∧
    exec (.sampleWord 20 false 640) s = .next (after (.sampleWord 20 false 640) s) := by
  and_intros <;> first | decide +kernel | exact next_after _ _
theorem witness_SampleEvents_cut : let s := four .above #v[some 0, some 3]
    s.resetHeld = false ∧ s.inReset .sense = false ∧ (s.sample 20).state = .valid ∧
    comparatorAfter s.hl.params.critical 619 s.sp.critical = s.sp.critical ∧ s.sp.reserve = .above ∧ 619 < s.hl.params.reserve ∧
    s.granted 0 = true ∧ FillCheck s := by decide +kernel
/-- The reservoir's record leaves VALID while two corners fill and PLAUS has no SENSOR_DEGRADE; and its age timer runs out. -/
theorem witness_SampleEvents_lost : let s := four .above #v[some 0, some 3]
    s.resetHeld = false ∧ s.inReset .sense = false ∧ (s.sample 20).state = .valid ∧ s.sp.reserve = .above ∧
    (s.sample 20).ageAt = some 30000 ∧ s.granted 3 = true ∧ FillCheck s ∧ s.hl.configured = true ∧ s.EnvelopeLaw ∧
    s.find .sensorDegrade .plaus = none ∧ ((s.withSample 20 ⟨5, .fault, none⟩).sample 20).state = .fault := by decide +kernel

/-- `revs` at 78 and at 79 of 80 teeth; a RELEASING record with 40 mm to go, one more than an increment. -/
def turned (n : Nat) (s : State) : State := { s with mc := { s.mc with revs := #v[n, n, n] } }
theorem witness_WheelPulses : clear.resetHeld = false ∧ (1 : Corner).val % 2 = 1 ∧ (0 : Corner).val = 2 * (0 : Axle).val ∧
    (0 : Axle) ≠ 1 ∧ (turned 78 clear).mc.revs[(0 : Axle).val] + 1 < (turned 78 clear).mc.teeth ∧
    (turned 78 (put 0 (swinging 0 40) clear)).mc.revs[1] + 1 < clear.mc.teeth ∧
    (∀ i r, (turned 78 (put 0 (swinging 0 40) clear)).recordAt i = some r → r.state = .releasing → 0 < r.distLeft →
      (clear.mc.remainder + clear.mc.circ) / clear.mc.teeth < r.distLeft) ∧
    (4 : Corner).val = 2 * (2 : Axle).val ∧ (turned 79 clear).mc.teeth ≤ (turned 79 clear).mc.revs[(2 : Axle).val] + 1 := by
  decide +kernel

/-- The fifteenth and the sixteenth revolution of axle C reach its corners, that count them or not, with samples and without. -/
def sixteenth (source : Source) (n samples : Nat) : State :=
  let s := turned 79 { clear with lc := { clear.lc with context := contextNow clear } }
  s.withCorner 4 { s.corner 4 with source := source, revs := n, sum := samples * 250, count := samples }
theorem witness_WheelPulses_revolution : (sixteenth .axleRev16 15 1).resetHeld = false ∧
    (sixteenth .axleRev16 15 1).mc.teeth ≤ (sixteenth .axleRev16 15 1).mc.revs[(2 : Axle).val] + 1 ∧ (2 : Axle) ≠ 1 ∧
    (resetting .level 5000 (sixteenth .axleRev16 15 1)).inReset .level = true ∧ (sixteenth .axleRev16 15 1).inReset .level = false ∧
    State.formedContext (sixteenth .axleRev16 15 1) = (sixteenth .axleRev16 15 1).lc.context ∧ (sixteenth .axleRev16 15 1).lc.rising = [] ∧
    (4 : Corner).val / 2 = (2 : Axle).val ∧ ((sixteenth .axleRev16 14 1).corner 4).revs < 15 ∧
    ((sixteenth .axleRev16 15 1).corner 4).source = .axleRev16 ∧ 15 ≤ ((sixteenth .axleRev16 15 1).corner 4).revs ∧
    ((sixteenth .axleRev16 15 1).corner 4).check = .normal ∧ 0 < ((sixteenth .axleRev16 15 1).corner 4).count ∧
    ((sixteenth .axleRev16 15 0).corner 4).count = 0 ∧ ((sixteenth .timer50 15 1).corner 4).source ≠ .axleRev16 ∧
    (3 : Corner).val / 2 ≠ (2 : Axle).val := by decide +kernel

/-- One increment of 39 mm takes the distance of one of two RELEASING records to 0, with its release run out and with 50 ms to run. -/
def arriving (left : Nat) : State := turned 78 (put 0 (swinging left 39) (put 1 (swinging 0 40) clear))
theorem witness_WheelPulses_arrival (left : Nat) (h : left = 0 ∨ left = 50) : (arriving left).resetHeld = false ∧
    (arriving left).mc.revs[1] + 1 < (arriving left).mc.teeth ∧
    ((arriving left).mc.remainder + (arriving left).mc.circ) / (arriving left).mc.teeth = 39 ∧
    (arriving left).recordAt 0 = some (swinging left 39) ∧ (swinging left 39).state = .releasing ∧ (swinging left 39).distLeft = 39 ∧
    (swinging left 39).kind ≠ .kneel ∧ (swinging left 39).parent = none ∧
    (∀ i r, i ≠ 0 → (arriving left).recordAt i = some r → r.state = .releasing → 0 < r.distLeft → 39 < r.distLeft) := by
  rcases h with rfl | rfl <;>
  and_intros <;> first
    | decide +kernel
    | exact fun i r hi hr => onRecords (P := fun i r => i ≠ 0 → r.state = .releasing → 0 < r.distLeft → 39 < r.distLeft) (by decide +kernel) i r hr hi

/-- A wheel with pulses in its window changes the speed and sets the moving flag; a bus at rest changes neither. A bus that stood goes
from STATIONARY to SLOW with one pulse and to FAST with nine, and takes up other sources, but in a LEVEL reset. -/
def rolling : State :=
  { clear with mc := { clear.mc with wheels := clear.mc.wheels.set 0 ⟨1, #v[0, 0, 0, 0], 0⟩ } }
theorem witness_BucketTimerExpires : rolling.resetHeld = false ∧ (after .bucketTimerExpiry rolling).mc.speed ≠ rolling.mc.speed ∧
    (after .bucketTimerExpiry rolling).mc.speed = 35 ∧ rolling.mc.moving = false ∧ (after .bucketTimerExpiry rolling).mc.moving = true ∧
    (after .bucketTimerExpiry clear).mc.speed = clear.mc.speed ∧ clear.resetHeld = false := by decide +kernel
def pullingOut (n : Nat) : State :=
  let s := standing true rolling
  { s with mc := { s.mc with wheels := s.mc.wheels.set 0 ⟨n, #v[0, 0, 0, 0], 0⟩ }, lc := { s.lc with context := .stationary } }
theorem witness_BucketTimerExpires_context : (pullingOut 1).inReset .level = false ∧ (pullingOut 1).mc.stationary = true ∧
    (pullingOut 1).lc.context = .stationary ∧ (after .bucketTimerExpiry (pullingOut 1)).mc.stationary = false ∧
    (after .bucketTimerExpiry (pullingOut 1)).formedContext = .slow ∧ (after .bucketTimerExpiry (pullingOut 9)).formedContext = .fast ∧
    sourceFor (pullingOut 9) 0 .fast ≠ ((pullingOut 9).corner 0).source ∧ sourceFor (pullingOut 1) 0 .slow = ((pullingOut 1).corner 0).source ∧
    (resetting .level 5000 (pullingOut 9)).inReset .level = true := by decide +kernel

theorem witness_StationaryTimerExpires : clear.resetHeld = false ∧ clear.mc.stationaryAt = some 200000 ∧ clear.mc.stationary = false ∧
    (put 0 waiting clear).recordAt 0 = some waiting ∧ waiting.state = .armed ∧ waiting.ownerRelease = false ∧
    Cond.ownerRelease ∈ waiting.conds ∧ (put 0 waiting clear).mc.stationaryAt = some 200000 ∧ (put 0 waiting clear).EnvelopeLaw ∧
    clear.lc.context = .slow ∧ clear.inReset .level = false ∧ sourceFor clear 0 .stationary ≠ (clear.corner 0).source ∧
    (resetting .level 5000 clear).inReset .level = true := by
  decide +kernel

/-- Counts at both ends and within one of them; lists of 14 and 15 illegal transitions; both phases at once. -/
theorem witness_AngleCounters : clear.resetHeld = false ∧ (withJoint (usable 599) clear).angle .joint = usable 599 ∧
    (withActuator (usable (-600)) clear).angle .actuator = usable (-600) ∧ (resetting .sense 5000 clear).inReset .sense = true ∧
    clear.inReset .sense = false ∧ Phases.bothLow = nextPhases .secondHigh ∧ nextPhases .bothLow = Phases.firstHigh ∧
    Phases.bothHigh = nextPhases (nextPhases .bothLow) ∧ (List.replicate 14 0).length < 15 ∧ 15 ≤ (List.replicate 15 0).length ∧
    (withJoint { usable 0 with illegal := [5] } clear).angle .joint = { usable 0 with illegal := 5 :: [] } ∧
    (resetAngle .bothLow).calibrated = false := by decide +kernel

/-- Handing IDLE, SINGLE 1 and SINGLE 1001 to a pair whose partner is open, closed 1999 µs ago, 2000 µs ago, or never. -/
def shut (t : Option Nat) : Pair := ⟨{ freshGenerator with closedAt := t }, { freshGenerator with closedAt := t }⟩
theorem witness_PairInterlock : Program.inRange .idle = .idle ∧ Program.inRange (.single 0) = .idle ∧
    Program.inRange (.single 1) ≠ .idle ∧ Program.inRange (.single 1001) = .single 1000 ∧ Program.inRange (.train 80 0 256) = .train 80 1 255 ∧
    ((⟨(freshGenerator.start 7 (.single 1)), freshGenerator⟩ : Pair).at .first).isOpen = true ∧
    ((shut (some 0)).at Side.second.other).closedAt = some 0 ∧ 1999 < 0 + 2 * ms ∧ 0 + 2 * ms ≤ 2000 ∧
    ((shut none).at Side.second.other).closedAt = none := by decide +kernel

/-- Generators in each program, at a period's end. -/
def running1 : State := withGen (.fill 0) ⟨.single 1, true, false, some 1000, none, 0, none⟩
  { clear with lc := { clear.lc with grants := #v[some 0, none] } }
def trains (openNow : Bool) (toCome : Nat) : State :=
  withGen (.cornerExhaust 5) ⟨.train 80 40 3, openNow, false, some 80000, none, toCome, none⟩ clear
def duty (d : Nat) : State := withGen .damping ⟨.duty d, true, false, some 5000, some 4950, 0, none⟩ clear
def deadly : State := withGen .kerbward ⟨.single 5, false, true, some 2000, none, 0, none⟩ clear
theorem witness_GeneratorPeriods : clear.resetHeld = false ∧ (running1.gen (.fill 0)).prog = .single 1 ∧
    (running1.gen (.fill 0)).waiting = false ∧ (running1.gen (.fill 0)).endAt = some 1000 ∧
    (∀ d : Corner, (running1.corner d).waiting = none) ∧ ((trains true 0).gen (.cornerExhaust 5)).prog = .train 80 40 3 ∧
    ((trains true 0).gen (.cornerExhaust 5)).endAt = some 80000 ∧ ((trains true 0).gen (.cornerExhaust 5)).isOpen = true ∧
    ((trains true 0).gen (.cornerExhaust 5)).toCome = 0 ∧ 0 < ((trains true 1).gen (.cornerExhaust 5)).toCome ∧
    ((trains true 1).gen (.cornerExhaust 5)).isOpen = true ∧ ((trains false 1).gen (.cornerExhaust 5)).isOpen = false ∧
    GenId.cornerExhaust 5 ≠ .fill 5 ∧ ((duty 99).gen .damping).prog = .duty 99 ∧ ((duty 99).gen .damping).openEndAt = some 4950 ∧
    ((duty 100).gen .damping).endAt = some 5000 ∧ ((duty 99).gen .damping).waiting = false ∧ (deadly.gen .kerbward).waiting = true ∧
    (deadly.gen .kerbward).endAt = some 2000 ∧ (deadly.gen .kerbward).prog ≠ .idle ∧ (deadly.gen .kerbward).prog = .single 5 := by
  decide +kernel

/-- The last opening of a TRAIN, and a SINGLE, run out on A-K's fill; B-K waits with the largest error, and C-K with the same. -/
theorem witness_GeneratorPeriods_grant : let s := four .above #v[some 0, some 3]
    let u := withGen (.fill 0) ⟨.train 80 40 3, true, false, some 36000, none, 0, none⟩ s
    (s.gen (.fill 0)).prog = .single 36 ∧ (s.gen (.fill 0)).waiting = false ∧ (s.gen (.fill 0)).endAt = some 36000 ∧ FillCheck s ∧
    IsNext s.waitError 2 ∧ (s.corner 2).waiting = some ⟨11, .single 20⟩ ∧ s.waitError 4 = s.waitError 2 ∧
    (u.gen (.fill 0)).prog = .train 80 40 3 ∧ (u.gen (.fill 0)).isOpen = true ∧ (u.gen (.fill 0)).toCome = 0 ∧ FillCheck u ∧
    IsNext u.waitError 2 := by decide +kernel

/-- Both corners of axle A LEVEL; one LOWERING with and without a latch; a swapped pair of load marks. -/
def lowering (latch : Option Nat) : State :=
  let s := clear.withCorner 0 { clear.corner 0 with phase := .lowering }
  { s with bc := { s.bc with axles := s.bc.axles.set 0 { s.bc.axles[0] with latch := latch, lastFree := some 350 } } }
def flat : State := { clear with hl := { clear.hl with params := { clear.hl.params with lfull := #v[200, 250, 300] } } }
def crossed : State := { clear with hl := { clear.hl with params := { clear.hl.params with cmin := #v[701, 801, 901] } } }
def bareLowering : State := clear.withCorner 0 { clear.corner 0 with phase := .lowering }
theorem witness_BrakeCycleAxles : clear.resetHeld = false ∧ (resetting .brake 5000 clear).inReset .brake = true ∧
    clear.inReset .brake = false ∧ (clear.corner (kerbOf 0)).phase = .level ∧ (clear.corner (offsideOf 0)).phase = .level ∧
    ((lowering none).corner (kerbOf 0)).phase ≠ .level ∧ (lowering (some 350)).bc.axles[(0 : Axle).val].latch = some 350 ∧
    (lowering none).bc.axles[(0 : Axle).val].latch = none ∧ (lowering none).bc.axles[(0 : Axle).val].lastFree = some 350 ∧
    (∀ a : Axle, flat.hl.params.lfull[a.val] ≤ flat.hl.params.lempty[a.val]) ∧
    (∀ a : Axle, clear.hl.params.lempty[a.val] < clear.hl.params.lfull[a.val] ∧ clear.hl.params.cmin[a.val] ≤ clear.hl.params.cmax[a.val]) ∧
    crossed.hl.params.lempty[(0 : Axle).val] < crossed.hl.params.lfull[(0 : Axle).val] ∧
    crossed.hl.params.cmax[(0 : Axle).val] < crossed.hl.params.cmin[(0 : Axle).val] ∧
    (bareLowering.corner (kerbOf 0)).phase ≠ .level ∧ bareLowering.bc.axles[(0 : Axle).val].latch = none ∧
    bareLowering.bc.axles[(0 : Axle).val].lastFree = none ∧
    (after .brakeCycle (good 18 620 (good 19 500 clear))).bc.disagreement = false ∧
    (after .brakeCycle (good 18 621 (good 19 500 clear))).flag .pedal = true := by
  decide +kernel

/-- The worked slide's first cycle, at a full pedal and at none. -/
theorem witness_BrakeCycleAxles_driver :
    let s := good 18 1000 (slide 400 330 210 .follow 219 0)
    s.resetHeld = false ∧ s.inReset .brake = false ∧ (after .brakeCycle s).bc.demand = 1000 ∧
    (after .brakeCycle clear).bc.demand = 0 ∧ clear.resetHeld = false ∧ clear.inReset .brake = false := by decide +kernel
theorem witness_BrakeCycleAxles_driver_next : exec .brakeCycle (slide 400 330 210 .follow 219 0) =
    .next (after .brakeCycle (slide 400 330 210 .follow 219 0)) := rfl

/-- Channel A-O: a chamber that is not VALID; speeds of 29 and 30; every slip state with a slip at and below S_in (140) and S_out (80); a
hold count at Hcycles; a target at the base; errors of 16, 15, −15 and −16. -/
theorem witness_BrakeCycleChannels :
    (clear.chamber 1).state ≠ .valid ∧ ((slide 400 330 210 .follow 219 0).chamber 1).state = .valid ∧
    (slide 29 0 210 .follow 219 0).mc.speed < 30 ∧ 30 ≤ (slide 30 0 210 .follow 219 0).mc.speed ∧
    ((after .brakeCycle (slide 400 344 210 .follow 219 0)).bc.channels[1]).slipValue = 140 ∧
    ((after .brakeCycle (slide 400 345 210 .follow 219 0)).bc.channels[1]).slipValue = 137 ∧
    ((after .brakeCycle (slide 400 368 101 .relieve 90 0)).bc.channels[1]).slipValue = 80 ∧
    ((after .brakeCycle (slide 400 369 101 .relieve 90 0)).bc.channels[1]).slipValue = 77 ∧
    ((slide 398 397 91 .hold 90 3).bc.channels[1]).holdCount = (slide 398 397 91 .hold 90 3).hl.params.holds ∧
    ((after .brakeCycle (slide 398 397 91 .reapply 219 3)).brakeAxle 1).base = 219 ∧
    ((after .brakeCycle (slide 400 400 203 .follow 219 0)).bc.channels[1]).command = .apply 2 ∧
    ((after .brakeCycle (slide 400 400 204 .follow 219 0)).bc.channels[1]).command = .none ∧
    ((after .brakeCycle (slide 400 400 234 .follow 219 0)).bc.channels[1]).command = .none ∧
    ((after .brakeCycle (slide 400 400 235 .follow 219 0)).bc.channels[1]).command = .exhaust 2 := by decide +kernel

/-- A corner whose samples average to the three outcomes, in the context in hand and in another. -/
def heights (n height : Nat) : State :=
  shared.withCorner 0 { shared.corner 0 with sum := n * height, count := n, sourceAt := some 0, source := .timer50 }
theorem witness_CornerTimerJudges : (heights 0 0).resetHeld = false ∧ (heights 0 0).inReset .level = false ∧
    ((heights 0 0).corner 0).sourceAt = some 0 ∧ State.formedContext (heights 0 0) = (heights 0 0).lc.context ∧
    ((heights 0 0).corner 0).count = 0 ∧ ((heights 1 253).corner 0).check = .normal ∧ 0 < ((heights 1 253).corner 0).count ∧
    ((after (.cornerTimerExpiry 0) (heights 1 253)).corner 0).outcome = some .fill ∧
    ((after (.cornerTimerExpiry 0) (heights 1 254)).corner 0).outcome = some .hold ∧
    ((after (.cornerTimerExpiry 0) (heights 1 266)).corner 0).outcome = some .hold ∧
    ((after (.cornerTimerExpiry 0) (heights 1 267)).corner 0).outcome = some .exhaust := by decide +kernel

/-- An exhaust at rest and one at work; a fill under its grant and one without; the same at a speed of 50. -/
def exhausting : State := withGen (.cornerExhaust 0) (freshGenerator.start 0 (.single 40)) (heights 1 267)
def filling : State := withGen (.fill 0) (freshGenerator.start 0 (.single 36))
  { heights 1 253 with lc := { (heights 1 253).lc with grants := #v[some 0, none] } }
theorem witness_CornerTimerJudges_programs : (heights 1 267).lc.rising = [] ∧ judged (260 - 267) 6 = .exhaust ∧
    (heights 1 267).bandIn (State.formedContext (heights 1 267)) = 6 ∧ ((heights 1 267).gen (.cornerExhaust 0)).prog = .idle ∧
    (exhausting.gen (.cornerExhaust 0)).prog = .single 40 ∧ judged (260 - 253) 6 = .fill ∧ (heights 1 253).granted 0 = false ∧
    filling.granted 0 = true ∧ filling.lc.rising = [] ∧ 50 ≤ (atSpeed 50 (heights 1 253)).mc.speed := by decide +kernel

/-- A-K joins with an error of 7: alone, beside a waiting A-O with the same error, beside one with a larger; with RESERVE BELOW; and, with an
error of 6, lets its grant go while others wait. -/
def joining (height : Nat) (other : Option WaitEntry) (reserve : Level) : State :=
  let s := heights 1 height
  { s.withCorner 1 { s.corner 1 with waiting := other } with lc := { (s.withCorner 1 { s.corner 1 with waiting := other }).lc with reserve } }
def leavingFill : State :=
  let s := four .above #v[some 0, some 3]
  { s.withCorner 0 { s.corner 0 with sum := 254, count := 1, sourceAt := some 0, source := .timer50 } with
    mc := { s.mc with stationary := true } }
theorem witness_CornerTimerJudges_grants :
    let error (e : Int) (k : Corner) : Option Int := if k = 0 then some 7 else if k = 1 then some e else none
    (∀ k, error 7 k = if k = 0 then some 7 else (joining 253 (some ⟨7, .single 20⟩) .above).waitError k) ∧ IsNext (error 7) 0 ∧
    (∀ k, error 8 k = if k = 0 then some 7 else (joining 253 (some ⟨8, .single 20⟩) .above).waitError k) ∧ IsNext (error 8) 1 ∧
    ((joining 253 (some ⟨8, .single 20⟩) .above).corner 1).waiting = some ⟨8, .single 20⟩ ∧
    (joining 253 (some ⟨8, .single 20⟩) .above).granted 0 = false ∧ (joining 253 (some ⟨8, .single 20⟩) .above).lc.grants[0] = none ∧
    (joining 253 none .below).lc.reserve = .below ∧
    ((after (.cornerTimerExpiry 0) (joining 253 none .below)).corner 0).outcome = some .fill := by decide +kernel
theorem witness_CornerTimerJudges_cut : leavingFill.lc.rising = [] ∧ leavingFill.granted 0 = true ∧ (leavingFill.corner 0).check = .normal ∧
    ((after (.cornerTimerExpiry 0) leavingFill).corner 0).outcome = some .hold ∧ FillCheck leavingFill ∧ leavingFill.InterlockLaw ∧
    IsNext leavingFill.waitError 2 := by
  and_intros <;> first
    | decide +kernel
    | (intro c; unfold Pair.Sound Generator.Sound; revert c; decide +kernel)

/-- A corner in STROBE and in WAIT with its timer, with the height VALID and not; a window; the halt timer with and without a resume. -/
def checking (x : CheckState) : State := clear.withCorner 2 { clear.corner 2 with check := x, checkAt := some 100 }
def halting (b : Bool) : State :=
  { clear.withCorner 0 { clear.corner 0 with phase := .halted } with
    lc := { (clear.withCorner 0 { clear.corner 0 with phase := .halted }).lc with haltAt := some 100, resumePending := b } }
theorem witness_CornerCheckTimers : clear.resetHeld = false ∧ ((checking .strobe).corner 2).check = .strobe ∧
    ((checking .strobe).corner 2).checkAt = some 100 ∧ ((checking .wait).corner 2).check = .wait ∧
    ((checking .wait).corner 2).checkAt = some 100 ∧ (good 14 250 (checking .wait)).heightRecord 2 = .valid ∧
    (checking .wait).heightRecord 2 ≠ .valid ∧
    ((clear.withCorner 2 { clear.corner 2 with recoveryAt := some 100 }).corner 2).recoveryAt = some 100 ∧
    (halting false).lc.haltAt = some 100 ∧ (halting false).lc.resumePending = false ∧ (halting true).lc.haltAt = some 100 ∧
    (halting true).lc.resumePending = true ∧ ((halting true).corner 0).phase = .halted := by decide +kernel

/-- A KNEEL of −70 at A-K not yet in the envelope; a corner LOWERING to 190 and RISING to 260, at the edges of the band of 6. -/
def phased (p : KneelPhase) (off : Int) (h : Nat) : State := shared.withCorner 0
  { shared.corner 0 with phase := p, offset := off, sum := h, count := 1, last := some h, sourceAt := some 0, source := .timer50 }
def unformed (p : KneelPhase) : State := putRecord 0 { rec .kneel .driver with state := .active } (phased p 0 260)
theorem witness_KneelPhases (p : KneelPhase) : (unformed p).inReset .level = false ∧ (unformed p).resetHeld = false ∧
    (envelopeOf (unformed p).rt.slots).offsets[(0 : Corner).val] = -70 ∧ (-70 : Int) ≠ (unformed p).eu.env.offsets[(0 : Corner).val] ∧
    (envelopeOf (unformed p).rt.slots).offsets[(1 : Corner).val] = (unformed p).eu.env.offsets[(1 : Corner).val] ∧
    (unformed p).ActsAtOnce 0 260 ∧ (unformed p).FillLaw := by
  refine ⟨?_, ?_, ?_, ?_, ?_, ?_, fillLaw_of ?_⟩ <;> (try unfold State.ActsAtOnce) <;> cases p <;> decide +kernel
theorem witness_KneelPhases_timer (p : KneelPhase) : (phased p (-70) 196).resetHeld = false ∧ (phased p (-70) 196).inReset .level = false ∧
    ((phased p (-70) 196).corner 0).sourceAt = some 0 ∧ ((phased p (-70) 196).corner 0).check = .normal ∧
    0 < ((phased p (-70) 196).corner 0).count ∧ ((phased p (-70) 196).corner 0).phase = p ∧
    ((phased p (-70) 196).bandIn (State.formedContext (phased p (-70) 196)) : Int) = 6 ∧
    exec (.cornerTimerExpiry 0) (phased p (-70) 196) = .next (after (.cornerTimerExpiry 0) (phased p (-70) 196)) ∧
    (-6 ≤ (260 : Int) + -70 - 196 ∧ (260 : Int) + -70 - 196 ≤ 6) ∧ ¬ -6 ≤ (260 : Int) + -70 - 197 ∧
    (-6 ≤ (260 : Int) - 254 ∧ (260 : Int) - 254 ≤ 6) ∧ ¬ (260 : Int) - 253 ≤ 6 := by
  and_intros <;> first | decide | exact next_after _ _ | (cases p <;> decide +kernel)
/-- A KNEEL in RELEASING is listed as rising over A-K alone, or over B-K as well, which still rises; with 50 ms to run and with none. -/
def sinking (left : Nat) : Record := { rec .kneel .driver with state := .releasing, releaseLeft := left, stepAt := some 50000 }
def listed (scope : Scope) (left : Nat) : State :=
  let s := put 0 (sinking left) (phased .rising 0 254)
  { s with lc := { (s.withCorner 2 { s.corner 2 with phase := .rising }).lc with rising := [⟨⟨0, 0⟩, scope⟩] } }
theorem witness_KneelPhases_risen (left : Nat) (h : left = 0 ∨ left = 50) : (listed 1 left).names ⟨0, 0⟩ = true ∧
    (listed 1 left).recordAt 0 = some (sinking left) ∧ (sinking left).state = .releasing ∧ (sinking left).releaseLeft = left ∧
    (sinking left).distLeft = 0 ∧ (sinking left).parent = none ∧ ((listed 1 left).corner 0).phase = .rising ∧
    (∀ d : Corner, (1 : Scope).has d = true → d ≠ 0 → ((listed 1 left).corner d).phase = .level) ∧
    (∃ d : Corner, (5 : Scope).has d = true ∧ d ≠ 0 ∧ ((listed 5 left).corner d).phase ≠ .level) ∧
    (∀ j q, (listed 1 left).recordAt j = some q → Cond.noKneel ∉ q.conds) ∧ (listed 1 left).EnvelopeLaw := by
  rcases h with rfl | rfl <;>
  decide +kernel
/-- DRIVER lets a kneel go that stands at A-K, with the profile's delay of 0 and with one of 1 ms; the same with an empty scope. -/
def kneelToGo (delay : Nat) (scope : Scope) : Record := { rec .kneel .driver with state := .active, delay := delay, scope := scope }
theorem witness_KneelPhases_retire (delay : Nat) (hd : delay = 0 ∨ delay = 1) (scope : Scope) (hs : scope = 0 ∨ scope = 1) :
    let kneelToGo := kneelToGo delay scope
    let s := put 0 kneelToGo (phased .kneeled (-70) 190)
    s.resetHeld = false ∧ FrameOwner (fr 1 [1, 0]) .driver ∧ HostOwner.driver ≠ .none ∧ named s 1 0 = some (0, kneelToGo) ∧
    kneelToGo.kind = .kneel ∧ some kneelToGo.owner = HostOwner.driver.record ∧ kneelToGo.state = .active ∧ kneelToGo.ownerRelease = false ∧
    (∀ c ∈ kneelToGo.conds, c = .ownerRelease ∨ condHolds s 0 kneelToGo c = true) ∧ s.hasChild 0 = false ∧
    (scope = 1 → ∃ d : Corner, kneelToGo.scope.has d = true ∧ (s.corner d).phase ≠ .level) ∧
    (∀ j q, s.recordAt j = some q → Cond.noKneel ∉ q.conds) ∧ (kneelToGo.Lingers ↔ delay = 1) ∧ kneelToGo.parent = none ∧
    (rec .kneel .driver).delay = 0 := by
  rcases hd with rfl | rfl <;> rcases hs with rfl | rfl <;> decide +kernel

/-- A corner LOWERING and none; one HALTED, with the halt timer running and run out, that forms its command at once. -/
def haltedNow (halt : Option Nat) : State :=
  let s := phased .halted (-70) 250
  { s with lc := { s.lc with haltAt := halt } }
theorem witness_KneelHalts : (Action.haltKneel = .haltKneel ∨ Action.haltKneel = .resumeKneel) ∧
    (resetting .level 5000 clear).inReset .level = true ∧ (∀ c, (clear.corner c).phase ≠ .lowering) ∧ clear.inReset .level = false ∧
    (∃ c, ((phased .lowering (-70) 250).corner c).phase = .lowering) ∧ (phased .lowering (-70) 250).inReset .level = false ∧
    (∀ c, (clear.corner c).phase ≠ .halted) ∧ (haltedNow none).inReset .level = false ∧ (∃ c, ((haltedNow none).corner c).phase = .halted) ∧
    (haltedNow (some 5)).lc.haltAt.isSome = true ∧ (haltedNow none).lc.haltAt = none ∧ (haltedNow none).resetHeld = false ∧
    (haltedNow none).ActsAtOnce 0 250 ∧ (haltedNow none).FillLaw := by
  and_intros <;> first
    | decide +kernel
    | exact .inl rfl
    | exact fillLaw_of (by decide +kernel)

/-- Usable and unusable angles; the limit condition at and below speed 50 and a limit angle; LIMIT with a clear count of 98 and 99. -/
def leaning (v : Nat) (theta : Int) (x : JointState) (n : Nat) : State :=
  let s := withActuator (usable 0) (withJoint (usable theta) (atSpeed v clear))
  { s with js := { s.js with state := x, clear := n, previous := some theta } }
theorem witness_JointCycle : clear.resetHeld = false ∧ (resetting .joint 5000 clear).inReset .joint = true ∧
    clear.inReset .joint = false ∧ clear.mc.joint.usable = false ∧ (withJoint (usable 0) clear).mc.joint.usable = true ∧
    (withJoint (usable 0) clear).mc.actuator.usable = false ∧ pullOut.mc.joint.usable = true ∧ pullOut.mc.actuator.usable = true ∧
    (after .jsCycle (leaning 50 540 .normal 0)).js.state = .limit ∧ (after .jsCycle (leaning 50 539 .normal 0)).js.state = .watch ∧
    (after .jsCycle (leaning 49 550 .normal 0)).js.state = .watch ∧ (leaning 50 479 .limit 98).js.clear < 99 ∧
    (leaning 50 479 .limit 99).js.clear = 99 ∧ (leaning 50 479 .limit 99).mc.joint.count.natAbs < 480 ∧
    (after .jsCycle pullOut).js.engaged = false ∧ 2 < (after .jsCycle pullOut).js.error ∧
    (after .jsCycle (withActuator (usable 6) pullOut)).js.error = -2 ∧ (after .jsCycle (withActuator (usable 7) pullOut)).js.error = -3 := by
  decide +kernel

/-- At an entry of LIMIT: no JOINT_LIMIT, one in RELEASING, one that is ACTIVE. At a leaving: none, one already released, one that goes
at once and one with a release delay. -/
def limiting (r : Record) : State := put 24 r (leaning 50 540 .normal 0)
def leaving (r : Record) : State := put 24 r (leaning 50 479 .limit 99)
def jl : Record := rec .jointLimit .joint
theorem witness_JointCycle_entry : (leaning 50 540 .normal 0).js.state ≠ .limit ∧
    (leaning 50 540 .normal 0).find .jointLimit .joint = none ∧
    (24 ≤ (24 : Slot).val ∧ (leaning 50 540 .normal 0).recordAt 24 = none) ∧
    ProfileCond.fixed .ownerRelease ∈ ((leaning 50 540 .normal 0).profile .jointLimit).conds ∧
    (limiting { jl with state := .releasing }).find .jointLimit .joint = some 24 ∧
    (limiting { jl with state := .releasing }).recordAt 24 = some { jl with state := .releasing } ∧ Cond.ownerRelease ∈ jl.conds ∧
    (after .jsCycle (limiting { jl with state := .releasing })).js.state = .limit ∧ (limiting jl).find .jointLimit .joint = some 24 ∧
    (limiting jl).recordAt 24 = some jl ∧ jl.state ≠ .releasing ∧ (after .jsCycle (limiting jl)).js.state = .limit := by decide +kernel
theorem witness_JointCycle_leaving : (after .jsCycle (leaning 50 479 .limit 99)).js.state ≠ .limit ∧
    (leaning 50 479 .limit 99).find .jointLimit .joint = none ∧ (leaving { jl with ownerRelease := true }).find .jointLimit .joint = some 24 ∧
    (leaving { jl with ownerRelease := true }).recordAt 24 = some { jl with ownerRelease := true } ∧ jl.state ≠ .armed ∧
    (after .jsCycle (leaving jl)).js.state ≠ .limit ∧ (leaving { jl with delay := 0 }).recordAt 24 = some { jl with delay := 0 } ∧
    (leaving { jl with delay := 0 }).GoesAtOnce 24 { jl with delay := 0 } ∧ (leaving jl).find .jointLimit .joint = some 24 ∧
    (leaving jl).recordAt 24 = some jl ∧ jl.state = .active ∧ jl.ownerRelease = false ∧ jl.conds = [.ownerRelease] ∧ jl.Lingers ∧
    (leaving jl).hasChild 24 = false := by unfold State.GoesAtOnce; decide +kernel

/-- Lines: LISTENING and PRESENT, LOST, RECEIVING, with a prefix set. -/
def onLine (d : Door) (l : Line) : State := clear.withLine d l
theorem witness_DoorWordTaken : clear.resetHeld = false ∧ clear.inReset .doors = false ∧
    (onLine 1 quietLine).line 1 = quietLine ∧ quietLine.activity = .listening ∧ quietLine.clockLow = false ∧
    oddOnes 0x15 false = true ∧ StopBit.cutOff ≠ .low ∧ quietLine.present = true ∧ (clear.line 1).present = false ∧
    (clear.line 1).activity = .listening ∧ (clear.line 1).clockLow = false ∧
    ((onLine 1 { quietLine with prefixPending := true, activity := .receiving }).line 1).prefixPending = true ∧
    ((onLine 1 { quietLine with activity := .receiving }).line 1).activity = .receiving ∧ quietLine.prefixPending = false := by
  decide +kernel

theorem witness_DoorWordsDiscarded : (onLine 0 quietLine).resetHeld = false ∧ (onLine 0 quietLine).inReset .doors = false ∧
    (onLine 0 quietLine).line 0 = quietLine ∧ quietLine.clockLow = false ∧ quietLine.activity = .listening ∧
    oddOnes 0x01 true = false ∧ StopBit.low = .low ∧
    ((onLine 0 { quietLine with activity := .receiving }).line 0).activity = .receiving := by decide +kernel

/-- A line whose minimum inhibit runs alone; one that is HELD; one ready to send after 999 and 1000 µs; one that waits; a send. -/
def lowLine : Line := { quietLine with clockLow := true, minimumAt := some 100, loss := .paused 250000 }
def readyLine : Line := { quietLine with queue := [.permit] }
def aSend : Send := ⟨.permit, false, .alone, 100, 2100, none⟩
def sendingLine : Line :=
  { readyLine with activity := .sending, clockLow := true, dataLow := true, minimumAt := some 100, send := some aSend }
theorem witness_LineClock : clear.resetHeld = false ∧ (onLine 3 lowLine).line 3 = lowLine ∧ lowLine.minimumAt = some 100 ∧
    lowLine.clockLow = true ∧ lowLine.activity = .listening ∧ clear.inReset .doors = false ∧
    ((onLine 3 { lowLine with activity := .held, holding := some 1 }).line 3).activity = .held ∧
    readyLine.queue = .permit :: [] ∧ readyLine.present = true ∧ readyLine.sendWait = false ∧ readyLine.holding = none ∧
    readyLine.activity = .listening ∧ readyLine.clockLow = false ∧ (onLine 3 readyLine).line 3 = readyLine ∧
    ((onLine 3 { readyLine with sendWait := true }).line 3).sendWait = true ∧ quietLine.queue = [] ∧
    sendingLine.send = some aSend ∧ aSend.released = false ∧ sendingLine.activity = .sending ∧ sendingLine.clockLow = true ∧
    (∀ m ∈ sendingLine.minimumAt, m ≤ aSend.releaseAt) := by decide +kernel

/-- A send whose clock is released, with 1 and with 2 attempts behind it, alone and with its queue replaced. -/
def sentLine (fate : SendFate) (n : Nat) : Line :=
  { sendingLine with clockLow := false, minimumAt := none, attempts := n, send := some ⟨.permit, true, fate, 100, 2100, none⟩ }
theorem witness_SendAttemptEnds : clear.resetHeld = false ∧ (onLine 0 (sentLine .alone 1)).line 0 = sentLine .alone 1 ∧
    (sentLine .alone 1).send = some ⟨.permit, true, .alone, 100, 2100, none⟩ ∧ (sentLine .alone 1).attempts < 2 ∧
    2 ≤ (sentLine .alone 2).attempts ∧ SendFate.replaced ≠ .alone ∧
    (sentLine .replaced 0).send = some ⟨.permit, true, .replaced, 100, 2100, none⟩ ∧
    Instr.sendAttemptEnd 0 true = .sendAttemptEnd 0 true ∧ (Instr.sendTimeout 0 = .sendTimeout 0 ∧ false = false) := by
  decide +kernel

/-- A send that kept a good word, one of even parity, and one with a low stop bit. -/
def keptLine (w : KeptWord) : Line := { sentLine .alone 0 with send := some ⟨.permit, true, .alone, 100, 2100, some w⟩ }
theorem witness_SendAttemptEnds_kept : (0x41 : BitVec 7).toNat = Command.permit.code ∧
    (keptLine ⟨0x01, false, .high⟩).send = some ⟨.permit, true, .alone, 100, 2100, some ⟨0x01, false, .high⟩⟩ ∧
    oddOnes 0x01 false = true ∧ StopBit.high ≠ .low ∧ (keptLine ⟨0x01, false, .high⟩).present = true ∧ oddOnes 0x01 true = false ∧
    (onLine 0 (keptLine ⟨0x01, true, .low⟩)).line 0 = keptLine ⟨0x01, true, .low⟩ ∧
    ({ keptLine ⟨0x01, false, .high⟩ with prefixPending := true } : Line).prefixPending = true := by decide +kernel

theorem witness_LineIsLost : (onLine 1 quietLine).resetHeld = false ∧ (onLine 1 quietLine).line 1 = quietLine ∧
    quietLine.loss = .running 250000 ∧ quietLine.door ≠ .unknown ∧
    ((onLine 0 { quietLine with door := .unknown }).line 0).door = .unknown ∧ clear.dl.ramp = .unknown := by decide +kernel

/-- Words 0x7F, 0x08 (a row of IGNORE), 0x06 (CHIME_SHORT), 0x03 (DOOR_OPEN) and a row loaded with nothing, on line 1. -/
def word (code : BitVec 7) (prefixed : Bool) : State :=
  onLine 0 { quietLine with holding := some code, activity := .held, clockLow := true, prefixPending := prefixed }
def bare : State := let s := word 0x08 false
  { s with dt := { s.dt with cells := Vector.replicate 1024 [] } }
theorem witness_TranslatorTakesWord : clear.resetHeld = false ∧ (∀ d : Door, (clear.line d).holding = none) ∧
    (0 : Door) = (word 0x7F false).dt.lastServed + 1 + 0 ∧ (∀ j : Door, ¬ j < (0 : Door)) ∧
    ((word 0x7F false).line 0).holding = some 0x7F ∧ ((word 0x7F false).line 0).prefixPending = false ∧
    ((word 0x08 true).line 0).prefixPending = true ∧
    Context.held = (if (word 0x08 false).hl.service = true then .service else if (word 0x08 false).mc.moving = true then .moving
      else if (word 0x08 false).dt.releaseSet.getLsbD (0 : Door).val = true then .released else .held) ∧
    cellAt (word 0x08 false) 8 .held = [.ignore] ∧ (0x08 : BitVec 7) ≠ 0x7F ∧
    cellAt bare 8 .held = [] ∧
    cellAt (word 0x06 false) 6 .held = [.send .chimeShort] ∧ clear.inReset .doors = false ∧
    cellAt (word 0x03 false) 3 .held = [.place .doorOpen .front] ∧ Kind.doorOpen.permits (.door 0) = true ∧
    (word 0x03 false).find .doorOpen (.door 0) = none ∧ (word 0x03 false).find .stopHold .driver = none ∧
    freeSlotFor (word 0x03 false) (.door 0) = some 0 ∧
    Cond.ownerRelease ∈ placedConds ((word 0x03 false).profile .doorOpen) { kind := .doorOpen, owner := .door 0, variant := some .front } ∧
    ({ clear with dt := { clear.dt with prefixAt := #v[some 100, none, none, none] } } : State).dt.prefixAt[(0 : Door).val] = some 100 := by
  decide +kernel

/-- Line 1's word 0x03 in the context MOVING, whose cell has two actions. -/
def movingWord : State := moving true (word 0x03 false)
theorem witness_TranslatorActions : movingWord.resetHeld = false ∧
    ∃ u, CellBegins movingWord 0 [.place .doorEmergency .front, .send .chimeLong] u :=
  ⟨by decide +kernel, _, 0, 0x03, 3, by decide +kernel, fun j hj => absurd hj (by simp), by decide +kernel, .inr (by decide),
   by decide +kernel, by decide +kernel, rfl⟩
/-- DOOR1's record already released, waiting for its door, with nothing left to wait for, and ARMED. -/
def doorRec (x : RecState) (released : Bool) (cs : List Cond) : Record :=
  { rec .doorOpen (.door 0) with state := x, ownerRelease := released, conds := cs }
def withDoorRec (r : Record) : State := put 0 r clear
theorem witness_TranslatorActions_release : clear.find .doorOpen (.door 0) = none ∧ Kind.speedCap.permits (.door 0) = false ∧
    (withDoorRec (doorRec .active true [.ownerRelease])).find .doorOpen (.door 0) = some 0 ∧
    (withDoorRec (doorRec .active true [.ownerRelease])).recordAt 0 = some (doorRec .active true [.ownerRelease]) ∧
    (withDoorRec (doorRec .active false [.ownerRelease, .doorLocked 0])).recordAt 0 =
      some (doorRec .active false [.ownerRelease, .doorLocked 0]) ∧ (clear.line 0).door ≠ .locked ∧
    (withDoorRec (doorRec .active false [.ownerRelease])).recordAt 0 = some (doorRec .active false [.ownerRelease]) ∧
    (doorRec .active false [.ownerRelease]).kind ≠ .kneel ∧ (doorRec .active false [.ownerRelease]).Lingers ∧
    ¬ ({ doorRec .active false [.ownerRelease] with delay := 0, swing := some 0 } : Record).Lingers ∧
    (doorRec .active false [.ownerRelease]).parent = none ∧
    (withDoorRec (doorRec .active false [.ownerRelease])).hasChild 0 = false ∧
    (∀ c ∈ (doorRec .active false [.ownerRelease]).conds, c = .ownerRelease ∨
      condHolds (withDoorRec (doorRec .active false [.ownerRelease])) 0 (doorRec .active false [.ownerRelease]) c = true) ∧
    (withDoorRec (doorRec .armed false [.ownerRelease])).recordAt 0 = some (doorRec .armed false [.ownerRelease]) ∧
    (doorRec .armed false [.ownerRelease]).parent = none ∧ Kind.doorOpen.permits (.door 0) = true := by decide +kernel
/-- The DRIVER's STOP_HOLD, ARMED, of depth 4, of depth 3 in ACTIVE, and in RELEASING. -/
def under (x : RecState) (depth : Nat) : Record := { rec .stopHold .driver with state := x, depth := depth }
theorem witness_TranslatorActions_parent (x : RecState) (n : Nat) (hn : n = 3 ∨ n = 4) : Kind.doorOpen.permits (.door 0) = true ∧
    (put 0 (under x n) clear).find .doorOpen (.door 0) = none ∧ (put 0 (under x n) clear).find .stopHold .driver = some 0 ∧
    (put 0 (under x n) clear).recordAt 0 = some (under x n) ∧ (under x n).state = x ∧ (under x n).depth = n ∧
    freeSlotFor (put 0 (under x n) clear) (.door 0) = some 1 ∧
    Cond.ownerRelease ∈ placedConds ((put 0 (under x n) clear).profile .doorOpen)
      { kind := .doorOpen, owner := .door 0, variant := some .front } := by
  rcases hn with rfl | rfl <;> cases x <;> decide +kernel

/-! ### Witnesses of the invariants -/

/-- A state in which much goes on: records in every state and class, a kneel, a fill under a grant and one that waits, a sliding channel
below its floor, and door lines at work. -/
def busy : State :=
  let s := after .brakeCycle (slide 400 352 158 .relieve 150 0)
  let s := put 0 { rec .stopHold .driver with state := .active } (put 1 (swinging 250 5000) (put 2 { waiting with owner := .depot }
    (put 4 (child .driver ⟨0, 0⟩ 2) (put 24 (rec .jointLimit .joint) s))))
  let s := { s with lc := { s.lc with reserve := .above, grants := #v[some 0, some 3] } }
  let s := withGen (.fill 0) ((freshGenerator).start 0 (.single 36)) (withGen (.fill 3) ((freshGenerator).start 0 (.single 30)) s)
  let s := s.withCorner 1 { s.corner 1 with waiting := some ⟨9, .single 27⟩ }
  evalInhibit (s.withLine 2 sendingLine)

/-- The optional values of a record or a row stand in their ranges. -/
def tops (fl ce st da sw : Option Nat) (off : Option Int) : Bool :=
  fl.all (· ≤ 800) && ce.all (· ≤ 800) && st.all (· ≤ 140) && da.all (· ≤ 7) && sw.all (· ≤ 300) && off.all fun x => -90 ≤ x ∧ x ≤ 0
theorem tops_spec {fl ce st da sw : Option Nat} {off : Option Int} (h : tops fl ce st da sw off = true) :
    (∀ x, fl = some x → x ≤ 800) ∧ (∀ x, ce = some x → x ≤ 800) ∧ (∀ x, st = some x → x ≤ 140) ∧
    (∀ x, off = some x → -90 ≤ x ∧ x ≤ 0) ∧ (∀ x, da = some x → x ≤ 7) ∧ (∀ x, sw = some x → x ≤ 300) := by
  simp only [tops, Bool.and_eq_true] at h
  obtain ⟨⟨⟨⟨⟨h1, h2⟩, h3⟩, h4⟩, h5⟩, h6⟩ := h
  exact ⟨optAll h1, optAll h2, optAll h3, optAll h6, optAll h4, optAll h5⟩
abbrev Good (r : Record) : Prop :=
  tops r.floor r.ceiling r.steer r.damping r.swing r.offset = true ∧ r.delay ≤ 5000 ∧ r.armTimeout ≤ 60000 ∧ r.conds.length ≤ 4 ∧
    1 ≤ r.depth ∧ r.depth ≤ 4 ∧ r.releaseLeft ≤ r.delay ∧
      r.distLeft ≤ 30000 ∧ (r.state ≠ .releasing → r.releaseLeft = 0 ∧ r.distLeft = 0)
theorem inRange_of {r : Record} (h : Good r) : r.InRange := by
  obtain ⟨a, b, c, d, e, f⟩ := tops_spec h.1
  exact ⟨a, b, c, d, e, f, h.2⟩
theorem profileInRange_of {r : Profile} (h : tops r.floor r.ceiling r.steer r.damping r.swing r.offset = true)
    (h' : r.delay ≤ 5000 ∧ r.armTimeout ≤ 60000 ∧ r.conds.length ≤ 4) : r.InRange := by
  obtain ⟨a, b, c, d, e, f⟩ := tops_spec h
  exact ⟨a, b, c, d, e, f, h'⟩

/-- `busy` with a brake cycle in front of its queue. -/
def busyWaits : State := { busy with pending := [.brakeCycle] }
theorem brakeCycle_next (s : State) : exec .brakeCycle s = .next (after .brakeCycle s) := rfl
theorem step_brakeCycle (s : State) : step { s with pending := [.brakeCycle] } = .next (after .brakeCycle { s with pending := [] }) := rfl
theorem witness_LawsKept_step : step busyWaits = .next (after .brakeCycle { busy with pending := [] }) := step_brakeCycle busy
theorem witness_InhibitLawKept : busyWaits.InhibitLaw := by unfold State.InhibitLaw; decide +kernel
theorem witness_EnvelopeLawKept : busyWaits.EnvelopeLaw := by decide +kernel
theorem witness_InterlockLawKept : busyWaits.InterlockLaw := by
  unfold State.InterlockLaw Pair.Sound Generator.Sound; decide +kernel
theorem witness_FillLawKept : busyWaits.FillLaw := fillLaw_of (by decide +kernel)
theorem witness_RecordLawKept : busyWaits.RecordLaw := by
  constructor
  · intro i j r q hr hq
    have := (by decide +kernel : ∀ i j : Slot, ((busyWaits.recordAt i).all fun r => (busyWaits.recordAt j).all fun q =>
      decide (r.kind = q.kind → r.owner = q.owner → i = j)) = true) i j
    rw [hr, hq] at this; exact of_decide_eq_true this
  · exact onRecords (by decide +kernel)
theorem witness_RangeLawKept : busyWaits.RangeLaw := by
  refine ⟨fun i r hr => inRange_of (onRecords (P := fun _ r => Good r) (by decide +kernel) i r hr), ?_, ?_⟩
  · intro k; cases k <;> exact profileInRange_of (by decide +kernel) (by decide +kernel)
  and_intros <;> first | decide +kernel | (intro a; cases a <;> decide +kernel)
/-- One of its records is the child of another. -/
theorem witness_ParentLawKept : busyWaits.ParentLaw := by
  intro i r hr
  have h := onRecords (s := busyWaits) (P := fun _ r => r.depth ≤ 4 ∧ (r.parent = none → r.depth = 1) ∧
    r.parent.all (fun h => busyWaits.names h && (busyWaits.recordAt h.slot).any fun p => p.state == .active && r.depth == p.depth + 1) = true)
    (by decide +kernel) i r hr
  refine ⟨h.1, h.2.1, fun x hx => ?_⟩
  have g := h.2.2
  rw [hx] at g
  simp only [Option.all_some, Bool.and_eq_true, Option.any_eq_true, beq_iff_eq] at g
  obtain ⟨g1, p, g2, g3, g4⟩ := g
  exact ⟨g1, p, g2, g3, g4⟩
theorem witness_ParentLawKept_child : (busyWaits.recordAt 4).map (·.parent) = some (some ⟨0, 0⟩) := by decide +kernel

/-- Every generator at once. -/
theorem allGens {P : GenId → Prop} (h : ∀ c : Corner, P (.apply c) ∧ P (.brakeExhaust c) ∧ P (.fill c) ∧ P (.cornerExhaust c))
    (h' : P .kerbward ∧ P .offward ∧ P .damping) : ∀ g, P g
  | .apply c => (h c).1 | .brakeExhaust c => (h c).2.1 | .fill c => (h c).2.2.1 | .cornerExhaust c => (h c).2.2.2
  | .kerbward => h'.1 | .offward => h'.2.1 | .damping => h'.2.2
theorem command_of {k : BrakeCommand} (h : (match k with | .none => true | .apply n => 1 ≤ n && n ≤ 10 | .exhaust n => 1 ≤ n && n ≤ 10) = true) :
    ∀ n, k = .apply n ∨ k = .exhaust n → 1 ≤ n ∧ n ≤ 10 := by
  rintro n (rfl | rfl) <;> simpa using h
theorem witness_CountLawKept_axles (a : Axle) : busyWaits.bc.axles[a.val].InRange := by
  have h : ∀ a : Axle, let x := busyWaits.bc.axles[a.val]
      x.load ≤ 1000 ∧ (x.lastFree.all fun y => decide (y ≤ 1000)) = true ∧ (x.latch.all fun y => decide (y ≤ 1000)) = true ∧
        x.ceiling ≤ 1000 ∧ x.driver ≤ 1000 ∧ x.floor ≤ 800 ∧ x.base ≤ 1000 := by decide +kernel
  exact ⟨(h a).1, optAll (h a).2.1, optAll (h a).2.2.1, (h a).2.2.2⟩
theorem witness_CountLawKept_channels (c : Corner) : busyWaits.bc.channels[c.val].InRange := by
  have h : ∀ c : Corner, let x := busyWaits.bc.channels[c.val]
      (x.target.all fun y => decide (y ≤ 1000)) = true ∧ x.holdCount ≤ 100 ∧ x.slipValue ≤ 1000 ∧ x.wheelUsed ≤ 1500 ∧ x.sampleUsed ≤ 1000 ∧
        (match x.command with | .none => true | .apply n => 1 ≤ n && n ≤ 10 | .exhaust n => 1 ≤ n && n ≤ 10) = true := by decide +kernel
  exact ⟨optAll (h c).1, (h c).2.1, (h c).2.2.1, (h c).2.2.2.1, (h c).2.2.2.2.1, command_of (h c).2.2.2.2.2⟩
theorem witness_CountLawKept_corners (c : Corner) : (busyWaits.corner c).InRange := by
  have h : ∀ c : Corner, let r := busyWaits.corner c
      r.revs ≤ 15 ∧ r.count ≤ 4095 ∧ r.sum ≤ 400 * r.count ∧ (r.last.all fun h => decide (h ≤ 400)) = true ∧ -90 ≤ r.offset ∧ r.offset ≤ 0 ∧
        0 ≤ r.haltHeight ∧ r.haltHeight ≤ 350 := by decide +kernel
  exact ⟨(h c).1, (h c).2.1, (h c).2.2.1, optAll (h c).2.2.2.1, (h c).2.2.2.2⟩
theorem witness_CountLawKept : busyWaits.CountLaw := by
  have params : busyWaits.hl.params.InRange := by unfold Params.InRange Band.InRange; decide +kernel
  have joint : busyWaits.js.InRange :=
    ⟨by decide +kernel, optAll (p := fun y => -600 ≤ y ∧ y ≤ 600) (by decide +kernel), by decide +kernel⟩
  refine ⟨params, ?_, ?_, ⟨?_, ?_, witness_CountLawKept_axles, witness_CountLawKept_channels⟩,
    ⟨witness_CountLawKept_corners, ?_⟩, joint, allGens (by decide +kernel) (by decide +kernel), ?_⟩
  all_goals and_intros <;> first | decide +kernel | (intro a; cases a <;> decide +kernel)
/-- A brake channel in RELIEVE stands below its axle's floor. -/
theorem witness_BrakeTargetLaws : busyWaits.BrakeLaw := by
  intro c
  refine ⟨optAll (p := fun x => x ≤ max (busyWaits.brakeAxle c).ceiling (busyWaits.brakeAxle c).floor ∧ x ≤ 1000 ∧
    (x < (busyWaits.brakeAxle c).floor → busyWaits.bc.channels[c.val].slip = .relieve ∨ busyWaits.bc.channels[c.val].slip = .hold ∨
      busyWaits.bc.channels[c.val].slip = .reapply)) ?_, ?_⟩
  · revert c; decide +kernel
  · revert c; decide +kernel
theorem atSpeed_range {v : Nat} {s : State} (hv : v ≤ 1500) : s.RangeLaw → (atSpeed v s).RangeLaw :=
  fun ⟨a, b, c, d, e, f, g, h, _, j, k⟩ => ⟨a, b, c, d, e, f, g, h, hv, j, k⟩
/-- Below 30 the same channel's cycle ends at its base. -/
theorem witness_BrakeTargetLaws_range : (atSpeed 29 busyWaits).RangeLaw := atSpeed_range (by decide) witness_RangeLawKept
theorem witness_BrakeTargetLaws_floor : (atSpeed 29 busyWaits).resetHeld = false ∧ (atSpeed 29 busyWaits).inReset .brake = false ∧
    (atSpeed 29 busyWaits).mc.speed < 30 ∧ ((after .brakeCycle (atSpeed 29 busyWaits)).bc.channels[1]).target.isSome = true := by
  decide +kernel
theorem witness_BrakeTargetLaws_next :
    exec .brakeCycle (atSpeed 29 busyWaits) = .next (after .brakeCycle (atSpeed 29 busyWaits)) := brakeCycle_next _

end Sys2Proof.Tests
end

section
/-! PROOFS. R31 to R36: what each item of the envelope of a table is (O25). -/

namespace Sys2Proof.Machine

/-! ### The extreme of a list -/

/-- The smallest of a list and a top is one of them, and none of them is smaller. -/
theorem foldl_min_spec {α : Type} [LinearOrder α] (top : α) (xs : List α) :
    (xs.foldl min top = top ∨ xs.foldl min top ∈ xs) ∧ ∀ x ∈ xs, xs.foldl min top ≤ x := by
  obtain ⟨attained, least⟩ := List.min?_eq_some_iff.1 (List.min?_cons' (x := top) (xs := xs))
  exact ⟨List.mem_cons.1 attained, fun x hx => least x (List.mem_cons_of_mem _ hx)⟩

theorem smallest_le {top x : Nat} {xs : List Nat} (h : x ∈ xs) : smallest top xs ≤ x := (foldl_min_spec top xs).2 x h

theorem smallest_attained (top : Nat) (xs : List Nat) : smallest top xs = top ∨ smallest top xs ∈ xs := (foldl_min_spec top xs).1

theorem largest_spec (xs : List Nat) : (largest xs = 0 ∨ largest xs ∈ xs) ∧ ∀ x ∈ xs, x ≤ largest xs := by
  obtain ⟨attained, greatest⟩ := List.max?_eq_some_iff.1 (List.max?_cons' (x := 0) (xs := xs))
  exact ⟨List.mem_cons.1 attained, fun x hx => greatest x (List.mem_cons_of_mem _ hx)⟩

theorem le_largest {x : Nat} {xs : List Nat} (h : x ∈ xs) : x ≤ largest xs := (largest_spec xs).2 x h

theorem largest_attained (xs : List Nat) : largest xs = 0 ∨ largest xs ∈ xs := (largest_spec xs).1

/-! ### What one record contributes -/

theorem Record.ceilingPart_eq_some_iff {r : Record} {x : Nat} : r.ceilingPart = some x ↔ r.state = .active ∧ r.ceiling = some x := by
  unfold Record.ceilingPart
  cases r.state <;> simp

theorem Record.steerPart_eq_some_iff {r : Record} {x : Nat} :
    r.steerPart = some x ↔ r.steer = some x ∧ (r.state = .active ∨ (r.state = .releasing ∧ 0 < r.distLeft)) := by
  unfold Record.steerPart
  cases r.state <;> simp [and_comm]

theorem Record.offsetPart_eq_some_iff {c : Corner} {r : Record} {x : Int} :
    r.offsetPart c = some x ↔ r.kind = .kneel ∧ r.state = .active ∧ r.scope.has c = true ∧ r.offset = some x := by
  unfold Record.offsetPart
  split
  · simp [*]
  · rename_i other
    simp only [reduceCtorEq, false_iff, not_and]
    exact fun hk hs => absurd hs (other hk)

theorem Record.floorPart_active {r : Record} {x : Nat} (hf : r.floor = some x) (hs : r.state = .active) : r.floorPart = x := by
  simp [Record.floorPart, hf, hs]

theorem Record.floorPart_releasing {r : Record} {x : Nat} (hf : r.floor = some x) (hs : r.state = .releasing) (hd : r.delay ≠ 0) :
    r.floorPart = x * r.releaseLeft / r.delay := by
  simp [Record.floorPart, hf, hs, hd]

/-- A contribution above 0 comes from a floor in force: whole while ACTIVE, the part still to run while RELEASING. -/
theorem Record.floorPart_pos {r : Record} (h : r.floorPart ≠ 0) :
    ∃ x, r.floor = some x ∧ ((r.state = .active ∧ r.floorPart = x) ∨
      (r.state = .releasing ∧ r.delay ≠ 0 ∧ r.floorPart = x * r.releaseLeft / r.delay)) := by
  cases hf : r.floor with
  | none => simp [Record.floorPart, hf] at h
  | some x =>
    refine ⟨x, rfl, ?_⟩
    cases hs : r.state with
    | armed => simp [Record.floorPart, hf, hs] at h
    | active => exact .inl ⟨rfl, floorPart_active hf hs⟩
    | releasing =>
      have hd : r.delay ≠ 0 := fun hd => by simp [Record.floorPart, hf, hs, hd] at h
      exact .inr ⟨rfl, hd, floorPart_releasing hf hs hd⟩

theorem Record.floorOn_of_touches {a : Axle} {r : Record} (h : r.scope.touches a = true) : r.floorOn a = r.floorPart := if_pos h

theorem Record.floorOn_pos {a : Axle} {r : Record} (h : r.floorOn a ≠ 0) :
    r.scope.touches a = true ∧ r.floorOn a = r.floorPart := by
  have touched : r.scope.touches a = true := by
    by_contra untouched
    exact h (if_neg untouched)
  exact ⟨touched, floorOn_of_touches touched⟩

theorem Record.dampingPart_eq (r : Record) :
    r.dampingPart = if r.kind = .jointLimit ∧ r.state ≠ .armed then r.damping.getD 0 else 0 := by
  unfold Record.dampingPart
  split
  · simp [*]
  · simp [*]
  · rename_i notActive notReleasing
    refine (if_neg fun ⟨hk, hs⟩ => ?_).symm
    cases state : r.state with
    | armed => exact hs state
    | active => exact notActive hk state
    | releasing => exact notReleasing hk state

/-- A contribution above 0 comes from a JOINT_LIMIT that is not ARMED. -/
theorem Record.dampingPart_pos {r : Record} (h : r.dampingPart ≠ 0) :
    r.kind = .jointLimit ∧ r.state ≠ .armed ∧ r.damping = some r.dampingPart := by
  by_cases limit : r.kind = .jointLimit ∧ r.state ≠ .armed
  · rw [dampingPart_eq, if_pos limit] at h ⊢
    cases value : r.damping with
    | none => simp [value] at h
    | some x => exact ⟨limit.1, limit.2, rfl⟩
  · exact absurd ((dampingPart_eq r).trans (if_neg limit)) h

/-! ### The items -/

variable {slots : Vector SlotEntry 32} {r : Record}

theorem envelope_ceiling_le {x : Nat} (hr : r ∈ liveRecords slots) (h : r.ceilingPart = some x) : (envelopeOf slots).ceiling ≤ x :=
  smallest_le (List.mem_filterMap.2 ⟨r, hr, h⟩)

theorem envelope_ceiling_attained (slots : Vector SlotEntry 32) :
    (envelopeOf slots).ceiling = 800 ∨ ∃ r ∈ liveRecords slots, r.ceilingPart = some (envelopeOf slots).ceiling :=
  (smallest_attained _ _).imp_right List.mem_filterMap.1

theorem envelope_steer_le {x : Nat} (hr : r ∈ liveRecords slots) (h : r.steerPart = some x) : (envelopeOf slots).steer ≤ x :=
  smallest_le (List.mem_filterMap.2 ⟨r, hr, h⟩)

theorem envelope_steer_attained (slots : Vector SlotEntry 32) :
    (envelopeOf slots).steer = 140 ∨ ∃ r ∈ liveRecords slots, r.steerPart = some (envelopeOf slots).steer :=
  (smallest_attained _ _).imp_right List.mem_filterMap.1

theorem envelope_floor (slots : Vector SlotEntry 32) (a : Axle) :
    (envelopeOf slots).floors[a.val] = floorOf (liveRecords slots) a := by simp [envelopeOf]

theorem le_envelope_floor (a : Axle) (hr : r ∈ liveRecords slots) : r.floorOn a ≤ (envelopeOf slots).floors[a.val] := by
  rw [envelope_floor]
  exact le_largest (List.mem_map_of_mem hr)

theorem envelope_floor_attained (slots : Vector SlotEntry 32) (a : Axle) :
    (envelopeOf slots).floors[a.val] = 0 ∨ ∃ r ∈ liveRecords slots, r.floorOn a = (envelopeOf slots).floors[a.val] := by
  rw [envelope_floor]
  exact (largest_attained _).imp_right List.mem_map.1

theorem envelope_offset (slots : Vector SlotEntry 32) (c : Corner) :
    (envelopeOf slots).offsets[c.val] = offsetOf (liveRecords slots) c := by simp [envelopeOf]

theorem envelope_offset_le {c : Corner} {x : Int} (hr : r ∈ liveRecords slots) (h : r.offsetPart c = some x) :
    (envelopeOf slots).offsets[c.val] ≤ x := by
  rw [envelope_offset]
  exact (foldl_min_spec 0 _).2 x (List.mem_filterMap.2 ⟨r, hr, h⟩)

theorem envelope_offset_attained (slots : Vector SlotEntry 32) (c : Corner) :
    (envelopeOf slots).offsets[c.val] = 0 ∨
      ∃ r ∈ liveRecords slots, r.offsetPart c = some (envelopeOf slots).offsets[c.val] := by
  rw [envelope_offset]
  exact (foldl_min_spec 0 _).1.imp_right List.mem_filterMap.1

theorem le_envelope_damping (hr : r ∈ liveRecords slots) : r.dampingPart ≤ (envelopeOf slots).damping :=
  le_largest (List.mem_map_of_mem hr)

theorem envelope_damping_attained (slots : Vector SlotEntry 32) :
    (envelopeOf slots).damping = 0 ∨ ∃ r ∈ liveRecords slots, r.dampingPart = (envelopeOf slots).damping :=
  (largest_attained _).imp_right List.mem_map.1

theorem envelope_kneel_iff : (envelopeOf slots).kneel = true ↔ ∃ r ∈ liveRecords slots, r.kind = .kneel := by
  simp [envelopeOf]

/-- Settles O25: each item is the extreme of the contributions, which the lemmas on the parts of a record spell out. -/
theorem envelopeItems : Obligations.EnvelopeItems := by
  rintro slots e rfl
  refine ⟨fun r hr active => ⟨fun x hx => ?_, fun x hx => ?_, fun x a hx ha => ?_, fun x c hk hx hc => ?_⟩,
    fun r hr releasing => ⟨fun x hx hd => ?_, fun x a hx ha hd => ?_⟩, fun r hr live hk x hx => ?_, ?_, ?_, fun a => ?_, fun c => ?_,
    ?_, envelope_kneel_iff⟩
  · exact envelope_ceiling_le hr (Record.ceilingPart_eq_some_iff.2 ⟨active, hx⟩)
  · exact envelope_steer_le hr (Record.steerPart_eq_some_iff.2 ⟨hx, .inl active⟩)
  · rw [← Record.floorPart_active hx active, ← Record.floorOn_of_touches ha]
    exact le_envelope_floor a hr
  · exact envelope_offset_le hr (Record.offsetPart_eq_some_iff.2 ⟨hk, active, hc, hx⟩)
  · exact envelope_steer_le hr (Record.steerPart_eq_some_iff.2 ⟨hx, .inr ⟨releasing, hd⟩⟩)
  · rw [← Record.floorPart_releasing hx releasing hd.ne', ← Record.floorOn_of_touches ha]
    exact le_envelope_floor a hr
  · have given : r.dampingPart = x := by rw [Record.dampingPart_eq, if_pos ⟨hk, live⟩, hx, Option.getD_some]
    exact given ▸ le_envelope_damping hr
  · exact (envelope_ceiling_attained slots).imp_right fun ⟨r, hr, h⟩ => ⟨r, hr, Record.ceilingPart_eq_some_iff.1 h⟩
  · exact (envelope_steer_attained slots).imp_right fun ⟨r, hr, h⟩ => ⟨r, hr, Record.steerPart_eq_some_iff.1 h⟩
  · refine or_iff_not_imp_left.2 fun positive => ?_
    obtain ⟨r, hr, h⟩ := (envelope_floor_attained slots a).resolve_left positive
    obtain ⟨touched, whole⟩ := Record.floorOn_pos (h ▸ positive)
    rw [← h, whole] at positive ⊢
    obtain ⟨x, hx, part⟩ := Record.floorPart_pos positive
    exact ⟨r, hr, x, hx, touched, part⟩
  · exact (envelope_offset_attained slots c).imp_right fun ⟨r, hr, h⟩ => ⟨r, hr, Record.offsetPart_eq_some_iff.1 h⟩
  · refine or_iff_not_imp_left.2 fun positive => ?_
    obtain ⟨r, hr, h⟩ := (envelope_damping_attained slots).resolve_left positive
    exact ⟨r, hr, h ▸ Record.dampingPart_pos (h ▸ positive)⟩

end Sys2Proof.Machine
end

section
/-! PROOFS. R40, R41: every step leaves the drive-inhibit line as R40 calls for (O51). In a part that is not held in reset the law is
`State.InhibitCurrent`, and one lemma for each operation says that it keeps it: most move nothing that R40 names, and the three that do
(the forming of the envelope, a door's change, a change of speed) evaluate the line. Here: the law, and the Restraint Table. -/

namespace Sys2Proof.Machine

variable {s : State}

/-! ### The law of a part that is not held in reset -/

theorem inhibitCalled_eq_true_iff {lines : Vector Line 4} {ceiling speed : Nat} :
    inhibitCalled lines ceiling speed = true ↔
      (∃ d : Door, lines[d.val].door ≠ .locked) ∨ ceiling = 0 ∨ ceiling < speed + 20 := by
  simp [inhibitCalled, or_assoc, Vector.any_eq_true, Fin.exists_iff]

/-- Only the doors' states matter to R40, not the rest of their lines. -/
theorem inhibitCalled_congr {xs ys : Vector Line 4} (h : ∀ d : Door, xs[d.val].door = ys[d.val].door) (ceiling speed : Nat) :
    inhibitCalled xs ceiling speed = inhibitCalled ys ceiling speed := by
  rw [Bool.eq_iff_iff, inhibitCalled_eq_true_iff, inhibitCalled_eq_true_iff]
  simp only [h]

theorem inhibitCalled_of_not_locked {lines : Vector Line 4} (d : Door) (h : lines[d.val].door ≠ .locked) (ceiling speed : Nat) :
    inhibitCalled lines ceiling speed = true :=
  inhibitCalled_eq_true_iff.2 (.inl ⟨d, h⟩)

/-- The reset input is not held, and the drive-inhibit line is what R41's evaluation would make it now. -/
def State.InhibitCurrent (s : State) : Prop :=
  s.resetHeld = false ∧ s.eu.inhibit = inhibitCalled s.dl.lines s.eu.env.ceiling s.mc.speed

theorem inhibitLaw_iff_inhibitCurrent (h : s.resetHeld = false) : s.InhibitLaw ↔ s.InhibitCurrent := by
  unfold State.InhibitLaw State.InhibitCurrent
  rw [Bool.eq_iff_iff (b := inhibitCalled _ _ _), inhibitCalled_eq_true_iff]
  simp [h, State.line]

theorem State.InhibitCurrent.law (h : s.InhibitCurrent) : s.InhibitLaw := (inhibitLaw_iff_inhibitCurrent h.1).2 h

theorem foldl_inhibitCurrent {α : Type} {f : State → α → State} (hf : ∀ a {x : State}, x.InhibitCurrent → (f x a).InhibitCurrent)
    (xs : List α) (h : s.InhibitCurrent) : (xs.foldl f s).InhibitCurrent :=
  foldl_rel (fun x y : State => x.InhibitCurrent → y.InhibitCurrent) (fun _ => id) (fun h k => k ∘ h) f (fun _ a => hf a) xs s h

theorem forAll_inhibitCurrent {n : Nat} {f : Fin n → State → State}
    (hf : ∀ i {x : State}, x.InhibitCurrent → (f i x).InhibitCurrent) (h : s.InhibitCurrent) : (forAll n f s).InhibitCurrent :=
  foldl_inhibitCurrent hf _ h

/-- R41: an evaluation leaves the line current whatever it was. -/
theorem evalInhibit_inhibitCurrent (h : s.resetHeld = false) : (evalInhibit s).InhibitCurrent := ⟨h, rfl⟩

/-- The Levelling Controller moves nothing that R40 names. -/
theorem LevelOnly.inhibitCurrent {t : State} (k : LevelOnly s t) (h : s.InhibitCurrent) : t.InhibitCurrent := by
  unfold State.InhibitCurrent
  rw [k.resetHeld, k.eu, k.dl, k.mc]
  exact h

theorem setFlagIf_inhibitCurrent (b : Bool) (f : Flag) (h : s.InhibitCurrent) : (setFlagIf b f s).InhibitCurrent := by
  unfold setFlagIf; split
  · exact h
  · exact h

/-! ### The Restraint Table -/

/-- R37, R41: the line is evaluated when the ceiling differs, and stands when it does not. -/
theorem formEnvelope_inhibitCurrent (h : s.InhibitCurrent) : (formEnvelope s).InhibitCurrent := by
  unfold formEnvelope
  dsimp only
  refine (sendOffsets_only _ _ _).inhibitCurrent ?_
  split
  · rename_i same
    exact ⟨h.1, by simp [same, h.2]⟩
  · exact evalInhibit_inhibitCurrent h.1

theorem enterRising_inhibitCurrent (i : Slot) (x : Scope) (h : s.InhibitCurrent) : (enterRising i x s).InhibitCurrent := by
  unfold enterRising; dsimp only; split
  · exact h
  · exact h

theorem noticeRising_inhibitCurrent (i : Slot) (r : Record) (h : s.InhibitCurrent) : (noticeRising i r s).InhibitCurrent := by
  unfold noticeRising; split
  · exact h
  · split
    · exact h
    · exact enterRising_inhibitCurrent i _ h

theorem enterReleasing_inhibitCurrent (i : Slot) (r : Record) (h : s.InhibitCurrent) : (enterReleasing i r s).InhibitCurrent :=
  noticeRising_inhibitCurrent i r (formEnvelope_inhibitCurrent h)

theorem returnActive_inhibitCurrent (i : Slot) (h : s.InhibitCurrent) : (returnActive i s).InhibitCurrent :=
  formEnvelope_inhibitCurrent (s := changeRecord i Record.reactivate s) h

theorem endService_inhibitCurrent (k : Kind) (h : s.InhibitCurrent) : (endService k s).InhibitCurrent := by
  unfold endService; split
  · exact h
  · exact h

theorem freeSlot_inhibitCurrent (i : Slot) (r : Record) (h : s.InhibitCurrent) : (freeSlot i r s).InhibitCurrent :=
  formEnvelope_inhibitCurrent (endService_inhibitCurrent r.kind h)

theorem evaluate_inhibitCurrent (forced : List Slot) :
    ∀ (n : Nat) (i : Slot) {s : State}, s.InhibitCurrent → (evaluate forced n i s).InhibitCurrent
  | 0, _, _, h => h
  | n + 1, i, s, h => by
    have chain (xs : List Slot) {x : State} (hx : x.InhibitCurrent) :
        (xs.foldl (fun s j => evaluate forced n j s) x).InhibitCurrent :=
      foldl_inhibitCurrent (fun j _ hy => evaluate_inhibitCurrent forced n j hy) xs hx
    unfold evaluate
    split
    · exact h
    · split
      · exact h
      · split
        · extract_lets x y
          have hx : x.InhibitCurrent := enterReleasing_inhibitCurrent i _ h
          have hy : y.InhibitCurrent := by
            unfold y; split
            · exact chain _ hx
            · exact hx
          split
          · split
            · exact chain _ (freeSlot_inhibitCurrent i _ hy)
            · exact hy
          · exact hy
        · exact h
      · split
        · exact returnActive_inhibitCurrent i h
        · exact h

theorem evalRecord_inhibitCurrent (i : Slot) (h : s.InhibitCurrent) : (evalRecord i s).InhibitCurrent :=
  evaluate_inhibitCurrent _ _ i h

theorem evalListing_inhibitCurrent (p : Cond → Bool) (h : s.InhibitCurrent) : (evalListing p s).InhibitCurrent :=
  foldl_inhibitCurrent (fun i _ => evalRecord_inhibitCurrent i) _ h

theorem retire_inhibitCurrent (i : Slot) (h : s.InhibitCurrent) : (retire i s).InhibitCurrent := by
  unfold retire; split
  · exact h
  · exact foldl_inhibitCurrent (fun j _ => evalRecord_inhibitCurrent j) _ (freeSlot_inhibitCurrent i _ h)

theorem checkRetire_inhibitCurrent (i : Slot) (h : s.InhibitCurrent) : (checkRetire i s).InhibitCurrent := by
  unfold checkRetire; split
  · split
    · exact retire_inhibitCurrent i h
    · exact h
  · exact h

theorem riseRecord_inhibitCurrent (k : Handle) (h : s.InhibitCurrent) : (riseRecord k s).InhibitCurrent := by
  unfold riseRecord
  apply iteInduction
  · intro _
    exact checkRetire_inhibitCurrent (s := markRisen k.slot s) _ h
  · intro _
    exact h

theorem kneelChanged_inhibitCurrent (k : Kind) (h : s.InhibitCurrent) : (kneelChanged k s).InhibitCurrent := by
  unfold kneelChanged; split
  · exact evalListing_inhibitCurrent _ h
  · exact h

theorem adopt_inhibitCurrent (k : Handle) (h : s.InhibitCurrent) : (adopt k s).InhibitCurrent := by
  unfold adopt; split
  · split
    · exact returnActive_inhibitCurrent _ h
    · exact h
  · exact h

theorem createRecord_inhibitCurrent (i : Slot) (r : Record) (h : s.InhibitCurrent) : (createRecord i r s).InhibitCurrent := by
  have formed : (formEnvelope (putRecord i r s)).InhibitCurrent := formEnvelope_inhibitCurrent h
  unfold createRecord
  refine evalRecord_inhibitCurrent i (kneelChanged_inhibitCurrent _ ?_)
  split
  · exact evalRecord_inhibitCurrent _ (adopt_inhibitCurrent _ formed)
  · exact formed

theorem reviveRecord_inhibitCurrent (i : Slot) (k : Kind) (h : s.InhibitCurrent) : (reviveRecord i k s).InhibitCurrent :=
  evalRecord_inhibitCurrent i (kneelChanged_inhibitCurrent k (returnActive_inhibitCurrent i h))

theorem placeAgain_inhibitCurrent (i : Slot) (r : Record) (h : s.InhibitCurrent) : (placeAgain i r s).state.InhibitCurrent := by
  unfold placeAgain; split
  · exact h
  · exact h
  · exact reviveRecord_inhibitCurrent i _ h

theorem placeNew_inhibitCurrent (p : Placement) (h : s.InhibitCurrent) : (placeNew p s).state.InhibitCurrent := by
  unfold placeNew; split
  · exact h
  · split
    · exact h
    · exact createRecord_inhibitCurrent _ _ h

theorem placeRecord_inhibitCurrent (p : Placement) (h : s.InhibitCurrent) : (placeRecord p s).state.InhibitCurrent := by
  unfold placeRecord; split
  · exact h
  · split
    · exact h
    · split
      · split
        · exact placeAgain_inhibitCurrent _ _ h
        · exact placeNew_inhibitCurrent p h
      · exact placeNew_inhibitCurrent p h

theorem armRecord_inhibitCurrent (i : Slot) (h : s.InhibitCurrent) : (armRecord i s).InhibitCurrent := by
  unfold armRecord; split
  · split
    · exact evalRecord_inhibitCurrent i (kneelChanged_inhibitCurrent _ (formEnvelope_inhibitCurrent h))
    · exact h
  · exact h

theorem ownerRetire_inhibitCurrent (i : Slot) (h : s.InhibitCurrent) : (ownerRetire i s).2.InhibitCurrent := by
  unfold ownerRetire; split
  · exact h
  · split
    · exact retire_inhibitCurrent i h
    · split
      · exact h
      · exact evalRecord_inhibitCurrent (s := changeRecord i _ s) i h
    · exact h

theorem forceOne_inhibitCurrent (set : List Slot) (i : Slot) (h : s.InhibitCurrent) : (forceOne set i s).InhibitCurrent := by
  unfold forceOne; split
  · exact h
  · exact foldl_inhibitCurrent (fun j _ => evaluate_inhibitCurrent set _ j) _ (freeSlot_inhibitCurrent i _ h)

theorem forceRetire_inhibitCurrent (i : Slot) (h : s.InhibitCurrent) : (forceRetire i s).InhibitCurrent :=
  foldl_inhibitCurrent (fun j _ => forceOne_inhibitCurrent _ j) _ h

theorem amendRecord_inhibitCurrent (i : Slot) (r : Record) (c : Change) (h : s.InhibitCurrent) :
    (amendRecord i r c s).InhibitCurrent := by
  unfold amendRecord
  extract_lets fails x
  have formed : x.InhibitCurrent := formEnvelope_inhibitCurrent h
  split
  · exact formed
  · exact evalRecord_inhibitCurrent i formed
  · rename_i y _ _
    have noticed : y.InhibitCurrent := by
      unfold y; split
      · exact noticeRising_inhibitCurrent i _ formed
      · exact formed
    split
    · exact evalRecord_inhibitCurrent i (returnActive_inhibitCurrent i noticed)
    · exact checkRetire_inhibitCurrent i noticed

theorem amendOne_inhibitCurrent (o : Owner) (k : Option Handle) (c : Change) (h : s.InhibitCurrent) :
    (amendOne o k c s).2.InhibitCurrent := by
  unfold amendOne; split
  · exact h
  · split
    · exact h
    · split
      · exact h
      · split
        · exact h
        · split
          · exact h
          · exact amendRecord_inhibitCurrent _ _ c h

theorem reportRisen_inhibitCurrent (e : RisingEntry) (h : s.InhibitCurrent) : (reportRisen e s).InhibitCurrent := by
  unfold reportRisen; split
  · exact riseRecord_inhibitCurrent (s := leaveRising e.handle s) _ h
  · exact h

theorem lookRisen_inhibitCurrent (h : s.InhibitCurrent) : (lookRisen s).InhibitCurrent := by
  unfold lookRisen; split
  · exact h
  · exact foldl_inhibitCurrent (fun e _ => reportRisen_inhibitCurrent e) _ h

theorem distanceIncrement_inhibitCurrent (inc : Nat) (h : s.InhibitCurrent) : (distanceIncrement inc s).InhibitCurrent := by
  unfold distanceIncrement
  exact foldl_inhibitCurrent (fun i _ hx => checkRetire_inhibitCurrent i (formEnvelope_inhibitCurrent hx)) _
    ⟨h.1, h.2⟩

end Sys2Proof.Machine
end

section
/-! PROOFS. O51, continued: the lines of the doors and the DOORS reset. A change of a line that keeps the door's state keeps R40's
condition, and a change of a door's state ends in an evaluation (R41). -/

namespace Sys2Proof.Machine

variable {s : State}

/-! ### The lines of the doors -/

theorem Line.takeLow_door (now : Nat) (l : Line) : (l.takeLow now).door = l.door := by unfold Line.takeLow; split <;> rfl

theorem Line.tryFree_door (now : Nat) (b : Bool) (l : Line) : (l.tryFree now b).door = l.door := by
  unfold Line.tryFree; split
  · rfl
  · split
    · split <;> rfl
    · rfl

theorem Line.minimumOver_door (now : Nat) (b : Bool) (l : Line) : (l.minimumOver now b).door = l.door :=
  Line.tryFree_door now b { l with minimumAt := none }

theorem Line.queued_door (c : Command) (l : Line) : (l.queued c).door = l.door := by unfold Line.queued; split <;> rfl

theorem Line.attempted_door (ack : Bool) (fate : SendFate) (l : Line) : (l.attempted ack fate).door = l.door := by
  unfold Line.attempted; dsimp only; split
  · split <;> rfl
  · rfl
  · rfl

theorem Line.clockedIn_door (c : Command) (l : Line) : (l.clockedIn c).door = l.door :=
  foldl_rel (fun x y : Line => y.door = x.door) (fun _ => rfl) (fun h k => k.trans h) Line.setBit (fun _ _ => rfl) c.levels
    { l with sent := [] }

/-- A change of a door's line that keeps the door's state. -/
theorem changeLine_inhibitCurrent {f : Line → Line} (d : Door) (hf : ∀ l, (f l).door = l.door) (h : s.InhibitCurrent) :
    (changeLine d f s).InhibitCurrent := by
  refine ⟨h.1, h.2.trans (inhibitCalled_congr (fun e => ?_) _ _).symm⟩
  by_cases hd : d = e
  · subst hd
    exact (congrArg Line.door (upd_get_self _ _ _)).trans (hf _)
  · exact congrArg Line.door (upd_get_ne _ _ hd)

/-- A change of every line that keeps the doors' states. -/
theorem mapLines_inhibitCurrent {f : Line → Line} (hf : ∀ l, (f l).door = l.door) (h : s.InhibitCurrent) :
    State.InhibitCurrent { s with dl := { s.dl with lines := mapAll s.dl.lines fun _ l => f l } } := by
  refine ⟨h.1, h.2.trans (inhibitCalled_congr (fun e => ?_) _ _).symm⟩
  simp only [mapAll_get, hf]

theorem settleClock_inhibitCurrent (d : Door) (h : s.InhibitCurrent) : (settleClock d s).InhibitCurrent := by
  unfold settleClock; dsimp only; split
  · split
    · exact changeLine_inhibitCurrent (s := atLeast _ s) d (Line.minimumOver_door _ _) h
    · exact h
  · exact h

theorem queueCommand_inhibitCurrent (d : Door) (c : Command) (h : s.InhibitCurrent) : (queueCommand d c s).InhibitCurrent := by
  unfold queueCommand; split
  · exact h
  · exact changeLine_inhibitCurrent d (Line.queued_door c) h

theorem clearQueue_inhibitCurrent (d : Door) (h : s.InhibitCurrent) : (clearQueue d s).InhibitCurrent := by
  unfold clearQueue; split
  · exact h
  · exact changeLine_inhibitCurrent d (fun _ => rfl) h

theorem setReleaseSet_inhibitCurrent (x : BitVec 4) (h : s.InhibitCurrent) : (setReleaseSet x s).InhibitCurrent := by
  refine forAll_inhibitCurrent (fun d y hy => ?_) (s := { s with dt := { s.dt with releaseSet := x } }) h
  split
  · exact hy
  · exact queueCommand_inhibitCurrent d _ hy

theorem restorePermission_inhibitCurrent (d : Door) (h : s.InhibitCurrent) : (restorePermission d s).InhibitCurrent :=
  queueCommand_inhibitCurrent d _ (queueCommand_inhibitCurrent d _ h)

/-- R41: a change of a door's state ends in an evaluation, so the line is current whatever it was. -/
theorem doorEvent_inhibitCurrent (d : Door) (h : s.resetHeld = false) : (doorEvent d s).InhibitCurrent :=
  evalInhibit_inhibitCurrent ((evalListing_table _ (setFlag .door s)).resetHeld.trans h)

theorem setDoor_inhibitCurrent (d : Door) (x : DoorState) (h : s.InhibitCurrent) : (setDoor d x s).InhibitCurrent := by
  unfold setDoor; split
  · exact h
  · exact doorEvent_inhibitCurrent d h.1

theorem rampEvent_inhibitCurrent (h : s.InhibitCurrent) : (rampEvent s).InhibitCurrent :=
  evalListing_inhibitCurrent (s := setFlag .door s) _ h

theorem setRamp_inhibitCurrent (x : RampState) (h : s.InhibitCurrent) : (setRamp x s).InhibitCurrent := by
  unfold setRamp; split
  · exact h
  · exact rampEvent_inhibitCurrent h

theorem takeReport_inhibitCurrent (d : Door) (code : Nat) (h : s.InhibitCurrent) : (takeReport d code s).InhibitCurrent := by
  unfold takeReport
  extract_lets x
  have hx : x.InhibitCurrent := by
    unfold x; split
    · exact setDoor_inhibitCurrent d _ h
    · exact h
  split
  · exact setRamp_inhibitCurrent _ hx
  · exact hx

theorem discardWord_inhibitCurrent (d : Door) (h : s.InhibitCurrent) : (discardWord d s).InhibitCurrent :=
  changeLine_inhibitCurrent d (fun _ => rfl) h

theorem acceptWord_inhibitCurrent (d : Door) (code : BitVec 7) (h : s.InhibitCurrent) : (acceptWord d code s).InhibitCurrent := by
  unfold acceptWord
  extract_lets was x y z
  have hx : x.InhibitCurrent := changeLine_inhibitCurrent d (fun _ => rfl) h
  have hy : y.InhibitCurrent := by
    unfold y; split
    · exact hx
    · exact restorePermission_inhibitCurrent d hx
  have hz : z.InhibitCurrent := by
    unfold z; split
    · exact hy
    · exact takeReport_inhibitCurrent d _ hy
  exact changeLine_inhibitCurrent d (fun l => Line.takeLow_door _ _) hz

theorem judgeWord_inhibitCurrent (d : Door) (code : BitVec 7) (parity : Bool) (stop : StopBit) (h : s.InhibitCurrent) :
    (judgeWord d code parity stop s).InhibitCurrent := by
  unfold judgeWord; split
  · exact acceptWord_inhibitCurrent d code h
  · exact discardWord_inhibitCurrent d h

theorem takeWord_inhibitCurrent (d : Door) (code : BitVec 7) (parity : Bool) (stop : StopBit) (h : s.InhibitCurrent) :
    (takeWord d code parity stop s).InhibitCurrent := by
  unfold takeWord; split
  · exact judgeWord_inhibitCurrent d code parity stop (settleClock_inhibitCurrent d h)
  · exact judgeWord_inhibitCurrent d code parity stop (settleClock_inhibitCurrent d h)
  · exact h
  · exact changeLine_inhibitCurrent d (fun _ => rfl) h

theorem startWord_inhibitCurrent (d : Door) (h : s.InhibitCurrent) : (startWord d s).InhibitCurrent := by
  unfold startWord; split
  · exact changeLine_inhibitCurrent d (fun _ => rfl) (settleClock_inhibitCurrent d h)
  all_goals exact h

theorem stopWord_inhibitCurrent (d : Door) (h : s.InhibitCurrent) : (stopWord d s).InhibitCurrent := by
  unfold stopWord; split
  · exact discardWord_inhibitCurrent (s := atLeast _ s) d h
  all_goals exact h

theorem minimumEnd_inhibitCurrent (d : Door) (h : s.InhibitCurrent) : (minimumEnd d s).InhibitCurrent := by
  unfold minimumEnd; split
  · exact h
  · exact changeLine_inhibitCurrent (s := atLeast _ s) d (Line.minimumOver_door _ _) h

theorem beginSend_inhibitCurrent (d : Door) (h : s.InhibitCurrent) : (beginSend d s).InhibitCurrent := by
  unfold beginSend; split
  · extract_lets x y
    have hy : y.InhibitCurrent := settleClock_inhibitCurrent d h
    split
    · exact changeLine_inhibitCurrent d (fun l => Line.takeLow_door _ _) hy
    · exact hy
  · exact h

theorem releaseClock_inhibitCurrent (d : Door) (h : s.InhibitCurrent) : (releaseClock d s).InhibitCurrent := by
  unfold releaseClock; split
  · split
    · exact h
    · exact changeLine_inhibitCurrent (s := atLeast _ s) d (fun l => Line.tryFree_door _ _ _) h
  · exact h

theorem endSend_inhibitCurrent (d : Door) (ack : Bool) (x : Send) (h : s.InhibitCurrent) : (endSend d ack x s).InhibitCurrent := by
  unfold endSend
  extract_lets y z
  have hy : y.InhibitCurrent := changeLine_inhibitCurrent d (fun _ => rfl) h
  have hz : z.InhibitCurrent := by
    unfold z; split
    · exact judgeWord_inhibitCurrent d _ _ _ hy
    · exact hy
  exact setFlagIf_inhibitCurrent _ _ (changeLine_inhibitCurrent d (Line.attempted_door ack _) hz)

theorem attemptEdge_inhibitCurrent (d : Door) (ack : Bool) (h : s.InhibitCurrent) : (attemptEdge d ack s).InhibitCurrent := by
  unfold attemptEdge; split
  · split
    · exact endSend_inhibitCurrent d ack _ (changeLine_inhibitCurrent d (Line.clockedIn_door _) h)
    · exact h
  · exact h

theorem attemptTimeout_inhibitCurrent (d : Door) (h : s.InhibitCurrent) : (attemptTimeout d s).InhibitCurrent := by
  unfold attemptTimeout; split
  · split
    · exact endSend_inhibitCurrent (s := atLeast _ s) d false _ h
    · exact h
  · exact h

theorem lossExpiry_inhibitCurrent (d : Door) (h : s.InhibitCurrent) : (lossExpiry d s).InhibitCurrent := by
  unfold lossExpiry; split
  · extract_lets x y
    have hx : x.InhibitCurrent := changeLine_inhibitCurrent (s := atLeast _ s) d (fun _ => rfl) h
    have hy : y.InhibitCurrent := setDoor_inhibitCurrent d _ hx
    split
    · exact setRamp_inhibitCurrent _ hy
    · exact hy
  all_goals exact h

/-! ### The DOORS reset (R154, R155) -/

/-- A fold reaches `P` when one of its steps establishes `P` wherever `I` holds, and every step keeps both. -/
theorem foldl_establishes {σ α : Type} {I P : σ → Prop} {f : σ → α → σ} (inv : ∀ x b, I x → I (f x b))
    (keeps : ∀ x b, P x → P (f x b)) {a : α} (sets : ∀ x, I x → P (f x a)) : ∀ (xs : List α) (x : σ), I x → a ∈ xs → P (xs.foldl f x)
  | b :: xs, x, hI, h => by
    rcases List.mem_cons.1 h with rfl | later
    · exact foldl_rel (fun y z => P y → P z) (fun _ => id) (fun h k => k ∘ h) f keeps xs _ (sets x hI)
    · exact foldl_establishes inv keeps sets xs (f x b) (inv x b hI) later

/-- The part of `sendUnknown` that one door has. -/
def sendDoorUnknown (old : DoorLines) (d : Door) (s : State) : State :=
  if old.lines[d.val].door = .unknown then s else doorEvent d s

theorem sendUnknown_eq (old : DoorLines) (s : State) :
    sendUnknown old s = if old.ramp = .unknown then forAll 4 (sendDoorUnknown old) s
      else rampEvent (forAll 4 (sendDoorUnknown old) s) := rfl

theorem sendDoorUnknown_resetHeld (old : DoorLines) (d : Door) (h : s.resetHeld = false) :
    (sendDoorUnknown old d s).resetHeld = false := by
  unfold sendDoorUnknown; split
  · exact h
  · exact (doorEvent_inhibitCurrent d h).1

theorem sendDoorUnknown_inhibitCurrent (old : DoorLines) (d : Door) (h : s.InhibitCurrent) :
    (sendDoorUnknown old d s).InhibitCurrent := by
  unfold sendDoorUnknown; split
  · exact h
  · exact doorEvent_inhibitCurrent d h.1

theorem sendDoorUnknown_of_known {old : DoorLines} {d : Door} (known : old.lines[d.val].door ≠ .unknown) (h : s.resetHeld = false) :
    (sendDoorUnknown old d s).InhibitCurrent := by
  unfold sendDoorUnknown
  rw [if_neg known]
  exact doorEvent_inhibitCurrent d h

/-- Where a DOORS reset has changed a door's state, that door's event evaluates the line; where it has changed none, the line must have
been current before. -/
theorem sendUnknown_inhibitCurrent (old : DoorLines) (live : s.resetHeld = false)
    (unchanged : (∀ d : Door, old.lines[d.val].door = .unknown) → s.InhibitCurrent) : (sendUnknown old s).InhibitCurrent := by
  have sent : (forAll 4 (sendDoorUnknown old) s).InhibitCurrent := by
    by_cases all : ∀ d : Door, old.lines[d.val].door = .unknown
    · exact forAll_inhibitCurrent (fun d _ => sendDoorUnknown_inhibitCurrent old d) (unchanged all)
    · obtain ⟨d, known⟩ := not_forall.1 all
      exact foldl_establishes (I := fun x => x.resetHeld = false) (fun _ e => sendDoorUnknown_resetHeld old e)
        (fun _ e => sendDoorUnknown_inhibitCurrent old e) (fun _ => sendDoorUnknown_of_known known) _ s live (List.mem_finRange d)
  rw [sendUnknown_eq]; split
  · exact sent
  · exact rampEvent_inhibitCurrent sent

theorem Line.doorsReset_door (now : Nat) (l : Line) : (l.doorsReset now).door = .unknown := Line.takeLow_door _ _

theorem startDoorsReset_inhibitCurrent (h : s.InhibitCurrent) : (startDoorsReset s).InhibitCurrent := by
  refine sendUnknown_inhibitCurrent s.dl h.1 fun all => ⟨h.1, h.2.trans (inhibitCalled_congr (fun d => ?_) _ _).symm⟩
  simp only [mapAll_get, Line.doorsReset_door, all]

theorem endDoorsReset_inhibitCurrent (h : s.InhibitCurrent) : (endDoorsReset s).InhibitCurrent :=
  forAll_inhibitCurrent (fun d _ => restorePermission_inhibitCurrent d) (mapLines_inhibitCurrent (Line.tryFree_door _ _) h)

end Sys2Proof.Machine
end

section
/-! PROOFS. O51, continued: PLAUS, the Sense Port, the corners and the wheels. -/

namespace Sys2Proof.Machine

variable {s : State}

/-! ### PLAUS and the Sense Port -/

theorem emptyReleaseSet_inhibitCurrent (h : s.InhibitCurrent) : (emptyReleaseSet s).InhibitCurrent :=
  setReleaseSet_inhibitCurrent 0 h

theorem placeInternal_inhibitCurrent (k : Kind) (o : Owner) (x : Option Scope) (h : s.InhibitCurrent) :
    (placeInternal k o x s).InhibitCurrent := by
  have placed (p : Placement) : (placeRecord p s).state.InhibitCurrent := placeRecord_inhibitCurrent p h
  unfold placeInternal; dsimp only; split
  · exact emptyReleaseSet_inhibitCurrent (placed _)
  · exact emptyReleaseSet_inhibitCurrent (placed _)
  · exact placed _

theorem withdraw_inhibitCurrent (k : Kind) (o : Owner) (h : s.InhibitCurrent) : (withdraw k o s).InhibitCurrent := by
  unfold withdraw; split
  · exact ownerRetire_inhibitCurrent _ h
  · exact h

theorem amendDegrade_inhibitCurrent (x : Scope) (h : s.InhibitCurrent) : (amendDegrade x s).InhibitCurrent := by
  unfold amendDegrade; split
  · split
    · exact h
    · exact amendOne_inhibitCurrent _ _ _ h
  · exact h

theorem degradedChanged_inhibitCurrent (old new : BitVec 23) (h : s.InhibitCurrent) : (degradedChanged old new s).InhibitCurrent := by
  unfold degradedChanged; split
  · exact withdraw_inhibitCurrent _ _ h
  · refine amendDegrade_inhibitCurrent _ ?_
    split
    · exact placeInternal_inhibitCurrent _ _ _ h
    · exact h

theorem watchDegraded_inhibitCurrent (h : s.InhibitCurrent) : (watchDegraded s).InhibitCurrent := by
  unfold watchDegraded; split
  · exact h
  · dsimp only; split
    · exact h
    · exact degradedChanged_inhibitCurrent (s := { s with degraded := degradedNow s }) _ _ h

theorem watchCritical_inhibitCurrent (h : s.InhibitCurrent) : (watchCritical s).InhibitCurrent := by
  unfold watchCritical; split
  · exact h
  · split
    · exact placeInternal_inhibitCurrent _ _ _ h
    · exact withdraw_inhibitCurrent _ _ h

theorem startWatching_inhibitCurrent (h : s.InhibitCurrent) : (startWatching s).InhibitCurrent := by
  unfold startWatching; dsimp only; split
  · exact watchCritical_inhibitCurrent (watchDegraded_inhibitCurrent h)
  · exact watchDegraded_inhibitCurrent h

theorem setComparators_inhibitCurrent (r l c : Level) (h : s.InhibitCurrent) : (setComparators r l c s).InhibitCurrent := by
  unfold setComparators
  extract_lets old x y z
  have hy : y.InhibitCurrent := setFlagIf_inhibitCurrent (s := x) _ _ h
  have hz : z.InhibitCurrent := by
    unfold z; split
    · exact hy
    · exact (reserveEvent_only r y).inhibitCurrent hy
  split
  · exact hz
  · exact watchCritical_inhibitCurrent hz

theorem evalComparators_inhibitCurrent (v : Nat) (h : s.InhibitCurrent) : (evalComparators v s).InhibitCurrent :=
  setComparators_inhibitCurrent _ _ _ h

theorem meetHeight_inhibitCurrent (c : Corner) (x : SampleState) (h : s.InhibitCurrent) : (meetHeight c x s).InhibitCurrent := by
  unfold meetHeight; split
  · split
    · exact (declareDegraded_only c s).inhibitCurrent h
    · exact (beginStrobe_only c s).inhibitCurrent h
  · exact (declareDegraded_only c s).inhibitCurrent h
  · exact h
  · exact h

theorem heightState_inhibitCurrent (c : Corner) (x : SampleState) (h : s.InhibitCurrent) : (heightState c x s).InhibitCurrent := by
  unfold heightState; split
  · exact h
  · exact meetHeight_inhibitCurrent c x h

theorem sampleStateChanged_inhibitCurrent (ch : Channel) (x : SampleState) (h : s.InhibitCurrent) :
    (sampleStateChanged ch x s).InhibitCurrent := by
  unfold sampleStateChanged
  extract_lets a b c
  have hb : b.InhibitCurrent := by
    unfold b; split
    · exact heightState_inhibitCurrent (s := a) _ x h
    · exact h
  refine watchDegraded_inhibitCurrent ?_
  unfold c; split
  · exact setComparators_inhibitCurrent _ _ _ hb
  · exact hb

theorem setSampleState_inhibitCurrent (ch : Channel) (x : SampleState) (h : s.InhibitCurrent) :
    (setSampleState ch x s).InhibitCurrent := by
  unfold setSampleState; split
  · exact h
  · exact sampleStateChanged_inhibitCurrent ch x h

theorem goodSample_inhibitCurrent (ch : Channel) (v : Nat) (h : s.InhibitCurrent) : (goodSample ch v s).InhibitCurrent := by
  unfold goodSample
  extract_lets w a b c
  have hb : b.InhibitCurrent := by
    unfold b; split
    · exact (heightWord_only _ w a).inhibitCurrent h
    · exact h
  have hc : c.InhibitCurrent := setSampleState_inhibitCurrent ch .valid hb
  split
  · exact evalComparators_inhibitCurrent w hc
  · exact hc

theorem takeSample_inhibitCurrent (channel : BitVec 5) (fault : Bool) (value : BitVec 11) (h : s.InhibitCurrent) :
    (takeSample channel fault value s).InhibitCurrent := by
  unfold takeSample; split
  · exact h
  · split
    · split
      · exact setSampleState_inhibitCurrent _ _ h
      · exact goodSample_inhibitCurrent _ _ h
    · exact h

theorem sampleTimeout_inhibitCurrent (h : s.InhibitCurrent) :
    (if s.inReset .sense then s else countDiscard s).InhibitCurrent := by
  split
  · exact h
  · exact h

theorem ageOut_inhibitCurrent (ch : Channel) (h : s.InhibitCurrent) : (ageOut ch s).InhibitCurrent := by
  unfold ageOut; split
  · exact h
  · dsimp only; split
    · exact setSampleState_inhibitCurrent _ _ h
    · exact h

theorem changeAngle_inhibitCurrent (a : Angle) (f : AngleCounter → AngleCounter) (h : s.InhibitCurrent) :
    (changeAngle a f s).InhibitCurrent := by
  cases a
  · exact h
  · exact h

theorem stepAngle_inhibitCurrent (a : Angle) (f : AngleCounter → AngleCounter) (h : s.InhibitCurrent) :
    (stepAngle a f s).InhibitCurrent := by
  have hx : (changeAngle a f s).InhibitCurrent := changeAngle_inhibitCurrent a f h
  unfold stepAngle; dsimp only; split
  · exact hx
  · exact watchDegraded_inhibitCurrent (s := setFlag .sensor (changeAngle a f s)) hx

theorem dropIllegal_inhibitCurrent (a : Angle) (h : s.InhibitCurrent) : (dropIllegal a s).InhibitCurrent := by
  unfold dropIllegal; split
  · exact h
  · exact changeAngle_inhibitCurrent (s := atLeast _ s) a _ h

theorem centreMark_inhibitCurrent (a : Angle) (h : s.InhibitCurrent) :
    (if s.inReset .sense then s else stepAngle a AngleCounter.marked s).InhibitCurrent := by
  split
  · exact h
  · exact stepAngle_inhibitCurrent a _ h

theorem startSenseReset_inhibitCurrent (h : s.InhibitCurrent) : (startSenseReset s).InhibitCurrent := by
  unfold startSenseReset
  extract_lets a _ b c
  have ha : a.InhibitCurrent :=
    forAll_inhibitCurrent (fun ch _ hx => setSampleState_inhibitCurrent ch .stale (s := changeSample ch _ _) hx) h
  clear_value a
  have hc : c.InhibitCurrent := setComparators_inhibitCurrent (s := b) _ _ _ ha
  exact stepAngle_inhibitCurrent _ _ (stepAngle_inhibitCurrent _ _ hc)

/-! ### The corners -/

theorem bandTransition_inhibitCurrent (c : Corner) (v : Nat) (h : s.InhibitCurrent) : (bandTransition c v s).InhibitCurrent := by
  unfold bandTransition; dsimp only; split
  · split
    · exact setFlagIf_inhibitCurrent (s := changeCorner c _ s) _ _ h
    · exact h
  · split
    · exact lookRisen_inhibitCurrent h
    · exact h
  all_goals exact h

theorem workCorner_inhibitCurrent (c : Corner) (h : s.InhibitCurrent) : (workCorner c s).InhibitCurrent := by
  unfold workCorner; dsimp only; split
  · exact h
  · exact (judge_only false c _ _).inhibitCurrent (bandTransition_inhibitCurrent c _ (s := changeCorner c _ s) h)

theorem controlEvent_inhibitCurrent (c : Corner) (h : s.InhibitCurrent) : (controlEvent c s).InhibitCurrent := by
  have formed : (formContext s).InhibitCurrent := (formContext_only s).inhibitCurrent h
  unfold controlEvent; dsimp only; split
  · exact workCorner_inhibitCurrent c formed
  · exact formed

theorem revolveCorner_inhibitCurrent (c : Corner) (h : s.InhibitCurrent) : (revolveCorner c s).InhibitCurrent := by
  unfold revolveCorner; dsimp only; split
  · exact h
  · split
    · exact controlEvent_inhibitCurrent c (s := changeCorner c _ s) h
    · exact h

theorem revolutionEvent_inhibitCurrent (a : Axle) (h : s.InhibitCurrent) : (revolutionEvent a s).InhibitCurrent :=
  forAll_inhibitCurrent (fun c _ hx => by
    split
    · exact revolveCorner_inhibitCurrent c hx
    · exact hx) h

theorem sourceExpiry_inhibitCurrent (c : Corner) (h : s.InhibitCurrent) : (sourceExpiry c s).InhibitCurrent := by
  unfold sourceExpiry; split
  · exact h
  · exact controlEvent_inhibitCurrent c (s := changeCorner c _ (atLeast _ s)) h

theorem strobeExpiry_inhibitCurrent (c : Corner) (h : s.InhibitCurrent) : (strobeExpiry c s).InhibitCurrent := by
  unfold strobeExpiry; split
  · exact h
  · exact h

theorem waitExpiry_inhibitCurrent (c : Corner) (h : s.InhibitCurrent) : (waitExpiry c s).InhibitCurrent := by
  unfold waitExpiry; split
  · refine watchDegraded_inhibitCurrent ?_
    split
    all_goals exact h
  · exact h

theorem recoveryExpiry_inhibitCurrent (c : Corner) (h : s.InhibitCurrent) : (recoveryExpiry c s).InhibitCurrent := by
  unfold recoveryExpiry; split
  · exact h
  · exact h

theorem haltExpiry_inhibitCurrent (h : s.InhibitCurrent) : (haltExpiry s).InhibitCurrent := by
  unfold haltExpiry; split
  · exact h
  · dsimp only; split
    · exact (resumeNow_only _).inhibitCurrent h
    · exact h

theorem endLevelReset_inhibitCurrent (h : s.InhibitCurrent) : (endLevelReset s).InhibitCurrent := by
  unfold endLevelReset
  extract_lets _ a b c
  have ha : a.InhibitCurrent := ⟨h.1, h.2⟩
  have hb : b.InhibitCurrent := (levelOnly_forAll _ (fun c x => takeSource_only c _ x) a).inhibitCurrent ha
  have hc : c.InhibitCurrent := forAll_inhibitCurrent (fun d _ => meetHeight_inhibitCurrent d _) hb
  exact lookRisen_inhibitCurrent (watchDegraded_inhibitCurrent hc)

/-! ### The wheels -/

theorem rollOn_inhibitCurrent (h : s.InhibitCurrent) : (rollOn s).InhibitCurrent := by
  unfold rollOn; dsimp only; split
  · exact h
  · exact distanceIncrement_inhibitCurrent _ h

theorem countRevolution_inhibitCurrent (a : Axle) (h : s.InhibitCurrent) : (countRevolution a s).InhibitCurrent := by
  unfold countRevolution; dsimp only; split
  · exact revolutionEvent_inhibitCurrent a ⟨h.1, h.2⟩
  · exact ⟨h.1, h.2⟩

theorem wheelPulse_inhibitCurrent (w : Corner) (h : s.InhibitCurrent) : (wheelPulse w s).InhibitCurrent := by
  unfold wheelPulse
  extract_lets _ a b
  have ha : a.InhibitCurrent := ⟨h.1, h.2⟩
  have hb : b.InhibitCurrent := by
    unfold b; split
    · exact rollOn_inhibitCurrent ha
    · exact ha
  split
  · exact countRevolution_inhibitCurrent _ hb
  · exact hb

theorem armRecords_inhibitCurrent (h : s.InhibitCurrent) : (armRecords s).InhibitCurrent :=
  forAll_inhibitCurrent (fun i _ => armRecord_inhibitCurrent i) h

theorem movingChanged_inhibitCurrent (h : s.InhibitCurrent) : (movingChanged s).InhibitCurrent := by
  unfold movingChanged
  refine (formContext_only _).inhibitCurrent ?_
  split
  · exact emptyReleaseSet_inhibitCurrent h
  · exact h

theorem stationaryChanged_inhibitCurrent (h : s.InhibitCurrent) : (stationaryChanged s).InhibitCurrent := by
  unfold stationaryChanged
  refine (formContext_only _).inhibitCurrent ?_
  split
  · exact armRecords_inhibitCurrent h
  · exact h

theorem setMoving_inhibitCurrent (b : Bool) (h : s.InhibitCurrent) : (setMoving b s).InhibitCurrent := by
  unfold setMoving; split
  · exact h
  · exact movingChanged_inhibitCurrent h

theorem setStationary_inhibitCurrent (b : Bool) (h : s.InhibitCurrent) : (setStationary b s).InhibitCurrent := by
  unfold setStationary; split
  · exact h
  · exact stationaryChanged_inhibitCurrent h

/-- R41: a changed speed has the line evaluated before anything else reads it. -/
theorem setSpeed_inhibitCurrent (v : Nat) (h : s.InhibitCurrent) : (setSpeed v s).InhibitCurrent := by
  unfold setSpeed
  extract_lets old _ a b
  have hb : b.InhibitCurrent := by
    unfold b; split
    · rename_i same
      exact ⟨h.1, by simp only [a, same]; exact h.2⟩
    · exact setStationary_inhibitCurrent _ (setMoving_inhibitCurrent _ (evalInhibit_inhibitCurrent h.1))
  exact hb

theorem bucketExpiry_inhibitCurrent (h : s.InhibitCurrent) : (bucketExpiry s).InhibitCurrent :=
  setSpeed_inhibitCurrent _ ⟨h.1, h.2⟩

theorem stationaryExpiry_inhibitCurrent (h : s.InhibitCurrent) : (stationaryExpiry s).InhibitCurrent := by
  unfold stationaryExpiry; split
  · exact h
  · exact setStationary_inhibitCurrent true h

theorem armExpiry_inhibitCurrent (i : Slot) (h : s.InhibitCurrent) : (armExpiry i s).InhibitCurrent := by
  unfold armExpiry; split
  · exact h
  · split
    · exact retire_inhibitCurrent i (s := setFlag .recordTimeout (atLeast _ s)) h
    · exact h

theorem stepExpiry_inhibitCurrent (i : Slot) (h : s.InhibitCurrent) : (stepExpiry i s).InhibitCurrent := by
  unfold stepExpiry; split
  · exact h
  · split
    · exact checkRetire_inhibitCurrent i (formEnvelope_inhibitCurrent h)
    · exact h

end Sys2Proof.Machine
end

section
/-! PROOFS. O51, continued: the generators, the brakes, the joint, the translator, the parameters and the group resets. -/

namespace Sys2Proof.Machine

variable {s : State}

/-! ### Generators, brakes and the joint -/

theorem ranOut_inhibitCurrent (g : GenId) (h : s.InhibitCurrent) : (ranOut g s).InhibitCurrent := by
  unfold ranOut; split
  · exact (returnGrant_only _ s).inhibitCurrent h
  all_goals exact h

theorem singleEnd_inhibitCurrent (g : GenId) (h : s.InhibitCurrent) : (singleEnd g s).InhibitCurrent := by
  unfold singleEnd; dsimp only; split
  · exact ranOut_inhibitCurrent g (s := changeGen g _ (atLeast _ s)) h
  · exact h

theorem trainEnd_inhibitCurrent (g : GenId) (h : s.InhibitCurrent) : (trainEnd g s).InhibitCurrent := by
  unfold trainEnd; dsimp only; split
  · split
    · exact h
    · split
      · exact h
      · exact ranOut_inhibitCurrent g (s := changeGen g _ (atLeast _ s)) h
  · exact h

theorem dutyOpenOver_inhibitCurrent (g : GenId) (h : s.InhibitCurrent) : (dutyOpenOver g s).InhibitCurrent := by
  unfold dutyOpenOver; dsimp only; split
  · exact h
  · exact h

theorem dutyPeriodOver_inhibitCurrent (g : GenId) (h : s.InhibitCurrent) : (dutyPeriodOver g s).InhibitCurrent := by
  unfold dutyPeriodOver; dsimp only; split
  · exact h
  · exact h

theorem deadTimeOver_inhibitCurrent (g : GenId) (h : s.InhibitCurrent) : (deadTimeOver g s).InhibitCurrent := by
  unfold deadTimeOver; dsimp only; split
  · exact h
  · exact h

theorem handBrake_inhibitCurrent (c : Corner) (side : Side) (p : Program) (h : s.InhibitCurrent) :
    (handBrake c side p s).InhibitCurrent := by
  unfold handBrake; split
  · exact h
  · exact ⟨h.1, h.2⟩

theorem handCommand_inhibitCurrent (c : Corner) (x : BrakeCommand) (h : s.InhibitCurrent) : (handCommand c x s).InhibitCurrent := by
  unfold handCommand; split
  · exact handBrake_inhibitCurrent c _ _ h
  · exact handBrake_inhibitCurrent c _ _ h
  · exact handBrake_inhibitCurrent c _ _ (handBrake_inhibitCurrent c _ _ h)

theorem channelStage_inhibitCurrent (c : Corner) (h : s.InhibitCurrent) : (channelStage c s).InhibitCurrent := by
  unfold channelStage
  extract_lets _ _ _ _ new a b
  have ha : a.InhibitCurrent := h
  have hb : b.InhibitCurrent := setFlagIf_inhibitCurrent _ _ ha
  exact handCommand_inhibitCurrent c _ hb

theorem pedalStage_inhibitCurrent (h : s.InhibitCurrent) : (pedalStage s).InhibitCurrent :=
  setFlagIf_inhibitCurrent _ _ ⟨h.1, h.2⟩

theorem brakeWork_inhibitCurrent (h : s.InhibitCurrent) : (brakeWork s).InhibitCurrent := by
  have pedal : (pedalStage s).InhibitCurrent := pedalStage_inhibitCurrent h
  unfold brakeWork
  exact forAll_inhibitCurrent (fun c _ => channelStage_inhibitCurrent c) ⟨pedal.1, pedal.2⟩

theorem brakeExpiry_inhibitCurrent (h : s.InhibitCurrent) : (brakeExpiry s).InhibitCurrent := by
  unfold brakeExpiry; dsimp only; split
  · exact h
  · exact brakeWork_inhibitCurrent h

theorem handSteer_inhibitCurrent (side : Side) (p : Program) (h : s.InhibitCurrent) : (handSteer side p s).InhibitCurrent := by
  unfold handSteer; split
  · exact h
  · exact h

theorem handDamping_inhibitCurrent (p : Program) (h : s.InhibitCurrent) : (handDamping p s).InhibitCurrent := by
  unfold handDamping; split
  · exact h
  · exact h

theorem steerValves_inhibitCurrent (engaged : Bool) (e : Int) (h : s.InhibitCurrent) : (steerValves engaged e s).InhibitCurrent := by
  have still : (handSteer .second .idle (handSteer .first .idle s)).InhibitCurrent :=
    handSteer_inhibitCurrent _ _ (handSteer_inhibitCurrent _ _ h)
  unfold steerValves; split
  · exact still
  · split
    · exact handSteer_inhibitCurrent _ _ h
    · split
      · exact handSteer_inhibitCurrent _ _ h
      · exact still

theorem jointRecord_inhibitCurrent (old new : JointState) (h : s.InhibitCurrent) : (jointRecord old new s).InhibitCurrent := by
  unfold jointRecord; split
  · exact placeInternal_inhibitCurrent .jointLimit .joint none h
  · split
    · exact withdraw_inhibitCurrent _ _ h
    · exact h

theorem jointWork_inhibitCurrent (h : s.InhibitCurrent) : (jointWork s).InhibitCurrent := by
  unfold jointWork
  extract_lets old new a b
  have hb : b.InhibitCurrent := jointRecord_inhibitCurrent _ _ (s := a) h
  exact steerValves_inhibitCurrent _ _ (handDamping_inhibitCurrent _ hb)

theorem jointExpiry_inhibitCurrent (h : s.InhibitCurrent) : (jointExpiry s).InhibitCurrent := by
  unfold jointExpiry; dsimp only; split
  · exact h
  · exact jointWork_inhibitCurrent h

/-! ### The translator -/

theorem kneelAction_inhibitCurrent (d : Door) (kneel : Bool) {f : State → State} (hf : LevelOnly s (f s))
    (h : s.InhibitCurrent) : (if kneel then f s else countIgnored d s).InhibitCurrent := by
  split
  · exact hf.inhibitCurrent h
  · exact h

theorem actPlace_inhibitCurrent (d : Door) (k : Kind) (v : Variant) (h : s.InhibitCurrent) : (actPlace d k v s).InhibitCurrent := by
  have placed := placeRecord_inhibitCurrent (doorPlacement s d k v) h
  unfold actPlace; dsimp only; split
  · exact placed
  · exact placed

theorem actRelease_inhibitCurrent (d : Door) (k : Kind) (h : s.InhibitCurrent) : (actRelease d k s).InhibitCurrent := by
  unfold actRelease; split
  · exact ownerRetire_inhibitCurrent _ h
  · exact h

theorem act_inhibitCurrent (d : Door) (kneel : Bool) (a : Action) (h : s.InhibitCurrent) : (act d kneel a s).InhibitCurrent := by
  cases a with
  | ignore => exact h
  | place k v => exact actPlace_inhibitCurrent d k v h
  | release k => exact actRelease_inhibitCurrent d k h
  | send c => exact queueCommand_inhibitCurrent d c h
  | haltKneel => exact kneelAction_inhibitCurrent d kneel (haltKneel_only s) h
  | resumeKneel => exact kneelAction_inhibitCurrent d kneel (resumeKneel_only s) h
  | clearQueue => exact clearQueue_inhibitCurrent d h

theorem runCell_inhibitCurrent (d : Door) (row : Fin 256) (h : s.InhibitCurrent) : (runCell d row s).InhibitCurrent :=
  foldl_inhibitCurrent (fun a _ => act_inhibitCurrent d _ a) _ h

theorem takePrefix_inhibitCurrent (d : Door) (h : s.InhibitCurrent) : (takePrefix d s).InhibitCurrent :=
  changeLine_inhibitCurrent (f := fun l => { l with prefixPending := true }) d (fun _ => rfl) h

theorem Line.taken_door (now : Nat) (b : Bool) (l : Line) : (l.taken now b).door = l.door := Line.tryFree_door _ _ _

theorem translate_inhibitCurrent (d : Door) (code : BitVec 7) (extended : Bool) (h : s.InhibitCurrent) :
    (translate d code extended s).InhibitCurrent := by
  unfold translate
  extract_lets a _ b
  have ha : a.InhibitCurrent := changeLine_inhibitCurrent d (Line.taken_door _ _) h
  have hb : b.InhibitCurrent := ⟨ha.1, ha.2⟩
  split
  · exact runCell_inhibitCurrent d _ (changeLine_inhibitCurrent d (fun _ => rfl) hb)
  · split
    · exact takePrefix_inhibitCurrent d hb
    · exact runCell_inhibitCurrent d _ hb

theorem translateNext_inhibitCurrent (h : s.InhibitCurrent) : (translateNext s).InhibitCurrent := by
  unfold translateNext; split
  · exact h
  · split
    · exact translate_inhibitCurrent _ _ _ h
    · exact h

theorem prefixExpiry_inhibitCurrent (d : Door) (h : s.InhibitCurrent) : (prefixExpiry d s).InhibitCurrent := by
  unfold prefixExpiry; split
  · exact h
  · exact changeLine_inhibitCurrent (s := stopPrefixTimer d (atLeast _ s)) d (fun _ => rfl) h

/-! ### Parameters, supervision and group resets -/

theorem thresholdsRewritten_inhibitCurrent (old : Params) (h : s.InhibitCurrent) : (thresholdsRewritten old s).InhibitCurrent := by
  unfold thresholdsRewritten; dsimp only; split
  · exact h
  · split
    · exact evalComparators_inhibitCurrent _ h
    · exact h

theorem sourceRewritten_inhibitCurrent (h : s.InhibitCurrent) : (sourceRewritten s).InhibitCurrent := by
  unfold sourceRewritten; split
  · exact h
  · exact (levelOnly_forAll _ refreshSource_only s).inhibitCurrent h

theorem paramWritten_inhibitCurrent (n : Nat) (old : Params) (h : s.InhibitCurrent) : (paramWritten n old s).InhibitCurrent := by
  unfold paramWritten; split
  · exact h
  · exact h
  · exact thresholdsRewritten_inhibitCurrent old h
  · exact sourceRewritten_inhibitCurrent h
  · exact h

theorem configure_inhibitCurrent (h : s.InhibitCurrent) : (configure s).InhibitCurrent := by
  unfold configure
  extract_lets _ a b _
  have hb : b.InhibitCurrent := startWatching_inhibitCurrent (evalListing_inhibitCurrent _ (s := a) h)
  exact hb

theorem regainSupervision_inhibitCurrent (h : s.InhibitCurrent) : (regainSupervision s).InhibitCurrent :=
  withdraw_inhibitCurrent (s := { s with hl := { s.hl with supervised := true, runCount := 0 } }) _ _ h

theorem beat_inhibitCurrent (h : s.InhibitCurrent) : (beat s).InhibitCurrent := by
  unfold beat
  extract_lets _ a _
  have ha : a.InhibitCurrent := by
    unfold a; split
    · exact h
    · split
      · split
        · exact regainSupervision_inhibitCurrent h
        · exact h
      · exact h
  exact ⟨ha.1, ha.2⟩

theorem heartExpiry_inhibitCurrent (h : s.InhibitCurrent) : (heartExpiry s).InhibitCurrent := by
  unfold heartExpiry; split
  · exact h
  · dsimp only; split
    · exact placeInternal_inhibitCurrent _ _ _ h
    · exact h

theorem quietGroup_inhibitCurrent (g : Group) (h : s.InhibitCurrent) : (quietGroup g s).InhibitCurrent := by
  cases g
  all_goals exact ⟨h.1, h.2⟩

theorem startBrakeReset_inhibitCurrent (h : s.InhibitCurrent) : (startBrakeReset s).InhibitCurrent := ⟨h.1, h.2⟩

theorem startLevelReset_inhibitCurrent (h : s.InhibitCurrent) : (startLevelReset s).InhibitCurrent := ⟨h.1, h.2⟩

theorem startJointReset_inhibitCurrent (h : s.InhibitCurrent) : (startJointReset s).InhibitCurrent := ⟨h.1, h.2⟩

theorem startReset_inhibitCurrent (g : Group) (h : s.InhibitCurrent) : (startReset g s).InhibitCurrent := by
  unfold startReset
  extract_lets x
  have quiet : x.InhibitCurrent := quietGroup_inhibitCurrent g h
  clear_value x
  cases g with
  | brake => exact startBrakeReset_inhibitCurrent quiet
  | level => exact startLevelReset_inhibitCurrent quiet
  | joint => exact startJointReset_inhibitCurrent quiet
  | doors => exact startDoorsReset_inhibitCurrent quiet
  | sense => exact startSenseReset_inhibitCurrent quiet

theorem endReset_inhibitCurrent (g : Group) (h : s.InhibitCurrent) : (endReset g s).InhibitCurrent := by
  cases g with
  | level => exact endLevelReset_inhibitCurrent h
  | doors => exact endDoorsReset_inhibitCurrent h
  | brake => exact h
  | joint => exact h
  | sense => exact h

theorem setReset_inhibitCurrent (g : Group) (t : Option Nat) (h : s.InhibitCurrent) : (setReset g t s).InhibitCurrent := ⟨h.1, h.2⟩

theorem resetGroup_inhibitCurrent (g : Group) (time : Nat) (h : s.InhibitCurrent) : (resetGroup g time s).InhibitCurrent := by
  unfold resetGroup; dsimp only; split
  · exact setReset_inhibitCurrent g _ h
  · exact startReset_inhibitCurrent g (setReset_inhibitCurrent g _ h)

theorem groupEnd_inhibitCurrent (g : Group) (h : s.InhibitCurrent) : (groupEnd g s).InhibitCurrent := by
  unfold groupEnd; split
  · exact h
  · exact endReset_inhibitCurrent g (setReset_inhibitCurrent g none (s := atLeast _ s) h)

/-- R42, R153: after a reset of the doors no state is known, so an asserted line is current. -/
theorem resetLines_inhibitCurrent {now : Nat} {lines : Vector Line 4} (live : s.resetHeld = false) (line : s.eu.inhibit = true)
    (doors : s.dl = resetLines now lines) : s.InhibitCurrent := by
  refine ⟨live, line.trans (inhibitCalled_of_not_locked 0 ?_ _ _).symm⟩
  rw [doors]
  unfold resetLines
  rw [mapAll_get]
  exact nofun

theorem allReset_inhibitCurrent (s : State) : s.allReset.InhibitCurrent := resetLines_inhibitCurrent rfl rfl rfl

end Sys2Proof.Machine
end

section
/-! PROOFS. O51, concluded: the host's requests, every command, and the step. -/

namespace Sys2Proof.Machine

variable {s : State}

/-! ### The host's requests -/

/-- A request's body keeps the line current, whoever asks and whatever the payload is. -/
def BodyKeepsInhibit (body : HostOwner → List Byte → State → State) : Prop :=
  ∀ (o : HostOwner) (payload : List Byte) (s : State), s.InhibitCurrent → (body o payload s).InhibitCurrent

theorem serve_inhibitCurrent {code : Byte} {accepts : Accepts} {body : HostOwner → List Byte → State → State}
    (hb : BodyKeepsInhibit body) (f : HostFrame) (h : s.InhibitCurrent) : (serve code accepts body f s).InhibitCurrent := by
  unfold serve; dsimp only; split
  · exact h
  · split
    · exact h
    · split
      · exact hb _ _ _ h
      · exact h

theorem answerPage_inhibitCurrent (code : Byte) (image : List Byte) (page : Byte) (h : s.InhibitCurrent) :
    (answerPage code image page s).InhibitCurrent := by
  unfold answerPage; split
  · exact h
  · exact h

theorem readWhole_keepsInhibit (code : Byte) (image : State → List Byte) : BodyKeepsInhibit fun _ => readWhole code image := by
  intro o payload s h
  show (readWhole code image payload s).InhibitCurrent
  unfold readWhole; split
  · exact answerPage_inhibitCurrent _ _ _ h
  · exact h

theorem readIndexed_keepsInhibit {α : Type} (code : Byte) (index : Byte → Option α) (image : State → α → List Byte) :
    BodyKeepsInhibit fun _ => readIndexed code index image := by
  intro o payload s h
  show (readIndexed code index image payload s).InhibitCurrent
  unfold readIndexed; split
  · split
    · exact answerPage_inhibitCurrent _ _ _ h
    · exact h
  · exact h

theorem placeChecked_inhibitCurrent (o : Owner) (kind variant : Byte) (v : Supplied) (parent : Option (Option Handle))
    (h : s.InhibitCurrent) : (placeChecked o kind variant v parent s).state.InhibitCurrent := by
  unfold placeChecked; split
  · exact h
  · split
    · exact h
    · split
      · exact h
      · exact placeRecord_inhibitCurrent _ h

theorem bodyPlace_keepsInhibit : BodyKeepsInhibit bodyPlace := by
  intro o payload s h
  unfold bodyPlace; split
  · split
    · exact placeChecked_inhibitCurrent _ _ _ _ _ h
    · exact h
  · exact h

theorem bodyQuery_keepsInhibit : BodyKeepsInhibit bodyQuery := by
  intro o payload s h
  unfold bodyQuery; split
  · split
    · exact answerPage_inhibitCurrent _ _ _ h
    · exact h
  · exact h

theorem bodyFind_keepsInhibit : BodyKeepsInhibit bodyFind := by
  intro o payload s h
  unfold bodyFind; split
  · exact h
  · exact h

theorem bodyList_keepsInhibit : BodyKeepsInhibit bodyList := by
  intro o payload s h
  unfold bodyList; split
  · exact h
  · exact h

theorem applyBatch_inhibitCurrent (o : Owner) : ∀ (es : List AmendEntry) (n : Nat) (clamped : Bool) {s : State},
    s.InhibitCurrent → (applyBatch o es n clamped s).state.InhibitCurrent
  | [], _, _, _, h => h
  | e :: es, n, clamped, s, h => by
    have amended : (amendOne o e.handle e.change s).2.InhibitCurrent := amendOne_inhibitCurrent _ _ _ h
    unfold applyBatch
    split
    · rename_i answered
      rw [answered] at amended
      exact applyBatch_inhibitCurrent o es _ _ amended
    · rename_i answered
      rw [answered] at amended
      exact applyBatch_inhibitCurrent o es _ _ amended
    · exact h

theorem bodyAmend_keepsInhibit : BodyKeepsInhibit bodyAmend := by
  intro o payload s h
  unfold bodyAmend; split
  · split
    · exact h
    · split
      · exact h
      · exact applyBatch_inhibitCurrent _ _ _ _ h
  · exact h

theorem bodyRetire_keepsInhibit : BodyKeepsInhibit bodyRetire := by
  intro o payload s h
  unfold bodyRetire; split
  · split
    · exact h
    · split
      · exact h
      · exact ownerRetire_inhibitCurrent _ h
  · exact h

theorem bodyRetireForce_keepsInhibit : BodyKeepsInhibit bodyRetireForce := by
  intro o payload s h
  unfold bodyRetireForce; split
  · split
    · exact h
    · split
      · exact h
      · split
        · exact h
        · split
          · exact h
          · exact h
          all_goals exact forceRetire_inhibitCurrent _ h
  · exact h

theorem bodySetDoorRelease_keepsInhibit : BodyKeepsInhibit bodySetDoorRelease := by
  intro o payload s h
  unfold bodySetDoorRelease; split
  · split
    · exact h
    · split
      · exact h
      · split
        · exact h
        · exact setReleaseSet_inhibitCurrent _ h
  · exact h

theorem bodyDoorCommand_keepsInhibit : BodyKeepsInhibit bodyDoorCommand := by
  intro o payload s h
  unfold bodyDoorCommand; split
  · split
    · exact h
    · split
      · split
        · exact h
        · exact queueCommand_inhibitCurrent _ _ h
      · exact h
  · exact h

theorem bodySetMode_keepsInhibit : BodyKeepsInhibit bodySetMode := by
  intro o payload s h
  unfold bodySetMode
  repeat' split
  all_goals exact h

theorem bodyHeartbeat_keepsInhibit : BodyKeepsInhibit bodyHeartbeat := by
  intro o payload s h
  have beaten : (if s.hl.configured then beat s else s).InhibitCurrent := by
    split
    · exact beat_inhibitCurrent h
    · exact h
  unfold bodyHeartbeat; split
  · exact beaten
  · exact h

theorem bodyAckAttention_keepsInhibit : BodyKeepsInhibit bodyAckAttention := by
  intro o payload s h
  unfold bodyAckAttention; split
  · exact h
  · exact h

theorem bodySetAttentionMask_keepsInhibit : BodyKeepsInhibit bodySetAttentionMask := by
  intro o payload s h
  unfold bodySetAttentionMask; split
  · exact h
  · exact h

theorem bodyLastStatus_keepsInhibit : BodyKeepsInhibit bodyLastStatus := by
  intro o payload s h
  unfold bodyLastStatus; split
  · exact h
  · exact h

theorem bodyWriteParam_keepsInhibit : BodyKeepsInhibit bodyWriteParam := by
  intro o payload s h
  unfold bodyWriteParam; split
  · split
    · exact h
    · split
      · exact h
      · exact paramWritten_inhibitCurrent _ _ (s := { s with hl := { s.hl with params := _ } }) h
  · exact h

theorem writeProfile_inhibitCurrent (kind variant : Byte) (v : Supplied) (h : s.InhibitCurrent) :
    (writeProfile kind variant v s).2.InhibitCurrent := by
  unfold writeProfile; split
  · exact h
  · dsimp only; split
    · exact h
    · split
      · exact h
      · exact ⟨h.1, h.2⟩

theorem bodyWriteProfile_keepsInhibit : BodyKeepsInhibit bodyWriteProfile := by
  intro o payload s h
  unfold bodyWriteProfile; split
  · split
    · exact h
    · split
      · exact h
      · exact writeProfile_inhibitCurrent _ _ _ h
  · exact h

theorem bodyWriteXlate_keepsInhibit : BodyKeepsInhibit bodyWriteXlate := by
  intro o payload s h
  unfold bodyWriteXlate; split
  · split
    · exact h
    · split
      · exact h
      · split
        · split
          · exact h
          · exact ⟨h.1, h.2⟩
        · exact h
  · exact h

theorem bodyConfigDone_keepsInhibit : BodyKeepsInhibit bodyConfigDone := by
  intro o payload s h
  unfold bodyConfigDone; split
  · split
    · exact h
    · exact configure_inhibitCurrent h
  · exact h

theorem bodyResetGroup_keepsInhibit : BodyKeepsInhibit bodyResetGroup := by
  intro o payload s h
  unfold bodyResetGroup; split
  · split
    · exact h
    · split
      · exact h
      · split
        · exact h
        · exact resetGroup_inhibitCurrent _ _ h
  · exact h

theorem bodyResetAll_keepsInhibit : BodyKeepsInhibit bodyResetAll := by
  intro o payload s h
  unfold bodyResetAll; split
  · split
    · exact h
    · exact allReset_inhibitCurrent s
  · exact h

/-! ### The commands -/

/-- Every request of the host keeps the line current (R170 to R182), whichever its code names. -/
theorem requestOf_inhibitCurrent {code : Nat} {r : HostFrame → State → State} (hr : requestOf code = some r) (f : HostFrame)
    (h : s.InhibitCurrent) : (r f s).InhibitCurrent := by
  unfold requestOf at hr
  split at hr
  all_goals cases hr
  exacts [serve_inhibitCurrent bodyPlace_keepsInhibit f h,
    serve_inhibitCurrent bodyQuery_keepsInhibit f h,
    serve_inhibitCurrent bodyFind_keepsInhibit f h,
    serve_inhibitCurrent bodyList_keepsInhibit f h,
    serve_inhibitCurrent bodyAmend_keepsInhibit f h,
    serve_inhibitCurrent bodyRetire_keepsInhibit f h,
    serve_inhibitCurrent bodyRetireForce_keepsInhibit f h,
    serve_inhibitCurrent (readWhole_keepsInhibit _ _) f h,
    serve_inhibitCurrent (readIndexed_keepsInhibit _ _ _) f h,
    serve_inhibitCurrent (readIndexed_keepsInhibit _ _ _) f h,
    serve_inhibitCurrent (readWhole_keepsInhibit _ _) f h,
    serve_inhibitCurrent (readIndexed_keepsInhibit _ _ _) f h,
    serve_inhibitCurrent (readIndexed_keepsInhibit _ _ _) f h,
    serve_inhibitCurrent bodySetDoorRelease_keepsInhibit f h,
    serve_inhibitCurrent bodyDoorCommand_keepsInhibit f h,
    serve_inhibitCurrent bodySetMode_keepsInhibit f h,
    serve_inhibitCurrent bodyHeartbeat_keepsInhibit f h,
    serve_inhibitCurrent bodyAckAttention_keepsInhibit f h,
    serve_inhibitCurrent bodySetAttentionMask_keepsInhibit f h,
    serve_inhibitCurrent bodyLastStatus_keepsInhibit f h,
    serve_inhibitCurrent bodyWriteParam_keepsInhibit f h,
    serve_inhibitCurrent bodyWriteProfile_keepsInhibit f h,
    serve_inhibitCurrent bodyWriteXlate_keepsInhibit f h,
    serve_inhibitCurrent bodyConfigDone_keepsInhibit f h,
    serve_inhibitCurrent bodyResetGroup_keepsInhibit f h,
    serve_inhibitCurrent bodyResetAll_keepsInhibit f h]

theorem takeBytes_inhibitCurrent (bytes : List Byte) (h : s.InhibitCurrent) : (takeBytes bytes s).InhibitCurrent := by
  unfold takeBytes; split
  · exact h
  · split
    · exact h
    · split
      · rename_i hr
        exact requestOf_inhibitCurrent hr _ h
      · exact h

theorem doorWord_inhibitCurrent (d : Door) (code : BitVec 7) (parity : Bool) (stop : StopBit) (h : s.InhibitCurrent) :
    (if s.inReset .doors then s else takeWord d code parity stop s).InhibitCurrent := by
  split
  · exact h
  · exact takeWord_inhibitCurrent d code parity stop h

theorem doorStartBit_inhibitCurrent (d : Door) (h : s.InhibitCurrent) :
    (if s.inReset .doors then s else startWord d s).InhibitCurrent := by
  split
  · exact h
  · exact startWord_inhibitCurrent d h

/-- R40, R42: a command's effect that keeps the line current keeps the law, as a part held in reset takes nothing. -/
theorem running_inhibitLaw {f : State → State} (hf : ∀ {x : State}, x.InhibitCurrent → (f x).InhibitCurrent) {t : State}
    (h : s.InhibitLaw) (e : running f s = .next t) : t.InhibitLaw := by
  unfold running at e
  obtain rfl := Host.Outcome.next.inj e
  split
  · exact h
  · rename_i live
    rw [Bool.not_eq_true] at live
    exact (hf ((inhibitLaw_iff_inhibitCurrent live).1 h)).law

/-- POWER_ON leaves every door UNKNOWN and the line asserted (R42). -/
theorem powerOn_inhibitLaw {t : State} (e : execPowerOn s = .next t) : t.InhibitLaw := by
  obtain rfl := Host.Outcome.next.inj e
  exact (resetLines_inhibitCurrent rfl rfl rfl).law

/-- RESET_INPUT asserts the line and holds it so (R42). -/
theorem resetInput_inhibitLaw {t : State} (e : execResetInput s = .next t) : t.InhibitLaw := by
  obtain rfl := Host.Outcome.next.inj e
  exact ⟨fun _ => rfl, nofun⟩

/-- PHASE_TRANSITION moves the pins of a part held in reset too (R65), which R40 does not name. -/
theorem phaseTransition_inhibitLaw {t : State} (a : Angle) (p : Phases) (h : s.InhibitLaw)
    (e : execPhaseTransition a p s = .next t) : t.InhibitLaw := by
  obtain rfl := Host.Outcome.next.inj e
  have moved : (changeAngle a (fun x => { x with phases := p }) s).InhibitLaw := by
    cases a
    · exact h
    · exact h
  split
  · exact moved
  · rename_i live
    simp only [Bool.or_eq_true, not_or, Bool.not_eq_true] at live
    exact (stepAngle_inhibitCurrent a _ ((inhibitLaw_iff_inhibitCurrent live.1).1 h)).law

/-- The command's effect is that of the request of a code. -/
theorem request_inhibitLaw {code : Nat} {r : HostFrame → State → State} (hr : requestOf code = some r) {f : HostFrame} {t : State}
    (h : s.InhibitLaw) (e : running (r f) s = .next t) : t.InhibitLaw :=
  running_inhibitLaw (requestOf_inhibitCurrent hr f) h e

/-- R40, R41: every command keeps the law. -/
theorem exec_inhibitLaw {t : State} (h : s.InhibitLaw) : ∀ c : Instr, exec c s = .next t → t.InhibitLaw
  | .powerOn => powerOn_inhibitLaw
  | .resetInput => resetInput_inhibitLaw
  | .place _ => request_inhibitLaw (code := 0x01) rfl h
  | .query _ => request_inhibitLaw (code := 0x02) rfl h
  | .find _ => request_inhibitLaw (code := 0x03) rfl h
  | .list _ => request_inhibitLaw (code := 0x04) rfl h
  | .amend _ => request_inhibitLaw (code := 0x05) rfl h
  | .retire _ => request_inhibitLaw (code := 0x06) rfl h
  | .retireForce _ => request_inhibitLaw (code := 0x07) rfl h
  | .readEnvelope _ => request_inhibitLaw (code := 0x10) rfl h
  | .readBrake _ => request_inhibitLaw (code := 0x11) rfl h
  | .readCorner _ => request_inhibitLaw (code := 0x12) rfl h
  | .readJoint _ => request_inhibitLaw (code := 0x13) rfl h
  | .readDoor _ => request_inhibitLaw (code := 0x14) rfl h
  | .readSample _ => request_inhibitLaw (code := 0x15) rfl h
  | .setDoorRelease _ => request_inhibitLaw (code := 0x20) rfl h
  | .doorCommand _ => request_inhibitLaw (code := 0x21) rfl h
  | .setMode _ => request_inhibitLaw (code := 0x22) rfl h
  | .heartbeat _ => request_inhibitLaw (code := 0x23) rfl h
  | .ackAttention _ => request_inhibitLaw (code := 0x24) rfl h
  | .setAttentionMask _ => request_inhibitLaw (code := 0x25) rfl h
  | .lastStatus _ => request_inhibitLaw (code := 0x26) rfl h
  | .writeParam _ => request_inhibitLaw (code := 0x30) rfl h
  | .writeProfile _ => request_inhibitLaw (code := 0x31) rfl h
  | .writeXlate _ => request_inhibitLaw (code := 0x32) rfl h
  | .configDone _ => request_inhibitLaw (code := 0x33) rfl h
  | .resetGroup _ => request_inhibitLaw (code := 0x40) rfl h
  | .resetAll _ => request_inhibitLaw (code := 0x41) rfl h
  | .frameCheckFail bytes => running_inhibitLaw (takeBytes_inhibitCurrent bytes) h
  | .heartbeatTimerExpiry => running_inhibitLaw heartExpiry_inhibitCurrent h
  | .groupResetEnd g => running_inhibitLaw (groupEnd_inhibitCurrent g) h
  | .sampleWord channel fault value => running_inhibitLaw (takeSample_inhibitCurrent channel fault value) h
  | .sampleWordTimeout => running_inhibitLaw sampleTimeout_inhibitCurrent h
  | .sampleAgeExpiry ch => running_inhibitLaw (ageOut_inhibitCurrent ch) h
  | .wheelPulse w => running_inhibitLaw (wheelPulse_inhibitCurrent w) h
  | .bucketTimerExpiry => running_inhibitLaw bucketExpiry_inhibitCurrent h
  | .stationaryTimerExpiry => running_inhibitLaw stationaryExpiry_inhibitCurrent h
  | .phaseTransition a p => phaseTransition_inhibitLaw a p h
  | .illegalEntryExpiry a => running_inhibitLaw (dropIllegal_inhibitCurrent a) h
  | .centreMark a => running_inhibitLaw (centreMark_inhibitCurrent a) h
  | .armTimeout i => running_inhibitLaw (armExpiry_inhibitCurrent i) h
  | .releaseStep i => running_inhibitLaw (stepExpiry_inhibitCurrent i) h
  | .singlePeriodEnd g => running_inhibitLaw (singleEnd_inhibitCurrent g) h
  | .trainPeriodEnd g => running_inhibitLaw (trainEnd_inhibitCurrent g) h
  | .dutyOpenEnd g => running_inhibitLaw (dutyOpenOver_inhibitCurrent g) h
  | .dutyPeriodEnd g => running_inhibitLaw (dutyPeriodOver_inhibitCurrent g) h
  | .deadTimeEnd g => running_inhibitLaw (deadTimeOver_inhibitCurrent g) h
  | .brakeCycle => running_inhibitLaw brakeExpiry_inhibitCurrent h
  | .cornerTimerExpiry c => running_inhibitLaw (sourceExpiry_inhibitCurrent c) h
  | .strobeTimerExpiry c => running_inhibitLaw (strobeExpiry_inhibitCurrent c) h
  | .waitTimerExpiry c => running_inhibitLaw (waitExpiry_inhibitCurrent c) h
  | .recoveryWindowExpiry c => running_inhibitLaw (recoveryExpiry_inhibitCurrent c) h
  | .haltTimerExpiry => running_inhibitLaw haltExpiry_inhibitCurrent h
  | .jsCycle => running_inhibitLaw jointExpiry_inhibitCurrent h
  | .doorWord d code parity stop => running_inhibitLaw (doorWord_inhibitCurrent d code parity stop) h
  | .doorWordClockStop d => running_inhibitLaw (stopWord_inhibitCurrent d) h
  | .inhibitMinEnd d => running_inhibitLaw (minimumEnd_inhibitCurrent d) h
  | .lossTimerExpiry d => running_inhibitLaw (lossExpiry_inhibitCurrent d) h
  | .sendStart d => running_inhibitLaw (beginSend_inhibitCurrent d) h
  | .sendClockRelease d => running_inhibitLaw (releaseClock_inhibitCurrent d) h
  | .sendAttemptEnd d ack => running_inhibitLaw (attemptEdge_inhibitCurrent d ack) h
  | .sendTimeout d => running_inhibitLaw (attemptTimeout_inhibitCurrent d) h
  | .translateWord => running_inhibitLaw translateNext_inhibitCurrent h
  | .prefixTimerExpiry d => running_inhibitLaw (prefixExpiry_inhibitCurrent d) h
  | .doorStartBit d => running_inhibitLaw (doorStartBit_inhibitCurrent d) h

/-- Settles O51: an idle step moves the clock alone, and every command keeps the law. -/
theorem inhibitLawKept : Obligations.InhibitLawKept := by
  intro s t h e
  unfold step at e
  split at e
  · obtain rfl := Host.Outcome.next.inj e
    exact h
  · rename_i c rest _
    exact exec_inhibitLaw (s := { s with pending := rest }) h c e

end Sys2Proof.Machine
end

section
/-! PROOFS. Chapter 05's brake cycle (O37, O38, O59). R78's stages as one state: the axle stages, then the six channels, each of which
reads nothing that another channel's stages write. -/

namespace Sys2Proof.Machine

variable {s : State}

/-! ### Tables, entry by entry -/

/-- `g` done at the entries of `done`, and then at one more. -/
theorem upd_mapAll_if_mem {α : Type} {n : Nat} (g : Fin n → α → α) {done : List (Fin n)} {i : Fin n} (new : i ∉ done)
    (v : Vector α n) :
    upd (mapAll v fun j x => if j ∈ done then g j x else x) i (g i) = mapAll v fun j x => if j ∈ done ++ [i] then g j x else x := by
  refine Vector.ext fun j hj => ?_
  by_cases h : i = ⟨j, hj⟩
  · subst h
    simp [upd, mapAll, new]
  · have other : i.val ≠ j := fun e => h (Fin.ext e)
    simp [upd, mapAll, Vector.getElem_set_ne _ _ other, Ne.symm h]

/-! ### The cycle as one state -/

/-- What setting a flag under a condition adds to the flags. -/
def Flag.maskIf (b : Bool) (f : Flag) : BitVec 11 := if b then f.mask else 0

theorem setFlagIf_eq (b : Bool) (f : Flag) (s : State) :
    setFlagIf b f s = { s with hl := { s.hl with flags := s.hl.flags ||| f.maskIf b } } := by
  cases b
  · simp [setFlagIf, Flag.maskIf]
  · rfl

theorem Flag.maskIf_or (a b : Bool) (f : Flag) : f.maskIf a ||| f.maskIf b = f.maskIf (a || b) := by
  cases a <;> cases b <;> simp [Flag.maskIf]

/-- Setting a flag under a condition sets it when the condition holds, and no other (R174). -/
theorem setFlagIf_flag (b : Bool) (f g : Flag) (s : State) : (setFlagIf b f s).flag g = (s.flag g || (b && decide (g = f))) := by
  cases b
  · simp [setFlagIf]
  · simp [setFlagIf, setFlag_flag, Bool.or_comm]

/-- The cycle timer's expiry, before the cycle's work. -/
def State.cycleBegun (s : State) : State :=
  let x := atLeast s.bc.cycleAt s
  { x with bc := { x.bc with cycleAt := x.now + cyclePeriod } }

/-- A disagreement of the pedals arises at the cycle (R80). -/
def State.pedalArises (s : State) : Bool :=
  pedalDisagrees (s.sample 18) (s.sample 19) s.bc.disagreement && !s.bc.disagreement

/-- After the pedal stage (R79, R80). -/
def State.pedalJudged (s : State) : State :=
  { s with
    bc := { s.bc with
      demand := pedalDemand (s.sample 18) (s.sample 19)
      disagreement := pedalDisagrees (s.sample 18) (s.sample 19) s.bc.disagreement
      speedUsed := s.mc.speed }
    hl := { s.hl with flags := s.hl.flags ||| Flag.maskIf s.pedalArises .pedal } }

/-- After the axle stages (R81 to R85). -/
def State.axlesFormed (s : State) : State :=
  { s.pedalJudged with
    bc := { s.pedalJudged.bc with axles := mapAll s.bc.axles (axleStage s.pedalJudged) } }

/-- A channel's record after its stages (R86 to R94). -/
def State.channelAfter (s : State) (c : Corner) : BrakeChannel :=
  if (s.chamber c).ok then
    runningChannel s.hl.params (s.brakeAxle c).base s.mc.speed s.mc.wheels[c.val].speed (s.chamber c) s.bc.channels[c.val]
  else degradedChannel (s.brakeAxle c).base s.mc.wheels[c.val].speed (s.chamber c)

/-- The channel enters RELIEVE at the cycle (R90). -/
def State.entersRelieve (s : State) (c : Corner) : Bool :=
  (s.channelAfter c).slip == .relieve && s.bc.channels[c.val].slip != .relieve

/-- A channel's pair of valves after it is handed a command (R91). -/
def Pair.commanded (now : Nat) (x : BrakeCommand) (p : Pair) : Pair :=
  match x with
  | .apply t => p.hand now .first (.single t)
  | .exhaust t => p.hand now .second (.single t)
  | .none => (p.hand now .first .idle).hand now .second .idle

/-- After the stages of the channels in `done`, from the state that the axle stages left. -/
def State.channelsFormed (s : State) (done : List Corner) : State :=
  { s with
    bc := { s.bc with channels := mapAll s.bc.channels fun c x => if c ∈ done then s.channelAfter c else x }
    valves := { s.valves with brake := mapAll s.valves.brake fun c p =>
      if c ∈ done then p.commanded s.now (s.channelAfter c).command else p }
    hl := { s.hl with flags := s.hl.flags ||| Flag.maskIf (done.any s.entersRelieve) .slip } }

/-- After a whole cycle (R78). -/
def State.cycled (s : State) : State := s.cycleBegun.axlesFormed.channelsFormed (List.finRange 6)

/-- R91: outside a BRAKE reset a command reaches its own channel's pair and nothing else. -/
theorem handCommand_eq (live : s.inReset .brake = false) (c : Corner) (x : BrakeCommand) :
    handCommand c x s = { s with valves := { s.valves with brake := upd s.valves.brake c (Pair.commanded s.now x) } } := by
  have one (side : Side) (p : Program) {u : State} (h : u.inReset .brake = false) : handBrake c side p u =
      { u with valves := { u.valves with brake := upd u.valves.brake c (Pair.hand u.now side p) } } := by
    simp [handBrake, h]
  cases x with
  | apply t => exact one .first (.single t) live
  | exhaust t => exact one .second (.single t) live
  | none =>
    have twice : upd (upd s.valves.brake c (Pair.hand s.now .first .idle)) c (Pair.hand s.now .second .idle) =
        upd s.valves.brake c (Pair.commanded s.now .none) := by simp [upd, Pair.commanded]
    rw [handCommand, one .first .idle live, one .second .idle (by exact live), ← twice]

/-- R86 to R94: a channel's stages, outside a BRAKE reset. -/
theorem channelStage_eq (live : s.inReset .brake = false) (c : Corner) :
    channelStage c s = { s with
      bc := { s.bc with channels := upd s.bc.channels c fun _ => s.channelAfter c }
      valves := { s.valves with brake := upd s.valves.brake c (Pair.commanded s.now (s.channelAfter c).command) }
      hl := { s.hl with flags := s.hl.flags ||| Flag.maskIf (s.entersRelieve c) .slip } } := by
  unfold channelStage
  simp only [setFlagIf_eq]
  exact handCommand_eq (by exact live) c _

/-- The stages of one more channel. -/
theorem channelStage_channelsFormed (live : s.inReset .brake = false) {done : List Corner} {c : Corner} (new : c ∉ done) :
    channelStage c (s.channelsFormed done) = s.channelsFormed (done ++ [c]) := by
  have kept : (s.channelsFormed done).bc.channels[c.val] = s.bc.channels[c.val] := by simp [State.channelsFormed, new]
  have after : (s.channelsFormed done).channelAfter c = s.channelAfter c := by
    unfold State.channelAfter
    rw [kept]
    rfl
  have enters : (s.channelsFormed done).entersRelieve c = s.entersRelieve c := by
    unfold State.entersRelieve
    rw [after, kept]
  rw [channelStage_eq (by exact live), after, enters]
  have channels := upd_mapAll_if_mem (fun i _ => s.channelAfter i) new s.bc.channels
  have pairs := upd_mapAll_if_mem (fun i => Pair.commanded s.now (s.channelAfter i).command) new s.valves.brake
  have flags : s.hl.flags ||| Flag.maskIf (done.any s.entersRelieve) .slip ||| Flag.maskIf (s.entersRelieve c) .slip =
      s.hl.flags ||| Flag.maskIf ((done ++ [c]).any s.entersRelieve) .slip := by
    simp [BitVec.or_assoc, Flag.maskIf_or]
  unfold State.channelsFormed
  dsimp only
  rw [channels, pairs, flags]

theorem foldl_channelStage (live : s.inReset .brake = false) : ∀ (left done : List Corner), (done ++ left).Nodup →
    left.foldl (fun x c => channelStage c x) (s.channelsFormed done) = s.channelsFormed (done ++ left)
  | [], done, _ => by simp
  | c :: left, done, nodup => by
    have new : c ∉ done := fun h => (List.nodup_append.1 nodup).2.2 c h c (by simp) rfl
    have grown : (done ++ [c] ++ left).Nodup := by simpa using nodup
    rw [List.foldl_cons, channelStage_channelsFormed live new, foldl_channelStage live left _ grown]
    simp

theorem channelsFormed_nil (s : State) : s.channelsFormed [] = s := by
  simp [State.channelsFormed, mapAll, Flag.maskIf]

/-- The work of a cycle (R78): the axle stages, then every channel's. -/
theorem brakeWork_eq (live : s.inReset .brake = false) : brakeWork s = s.axlesFormed.channelsFormed (List.finRange 6) := by
  have stages := foldl_channelStage (s := s.axlesFormed) live (List.finRange 6) [] (List.nodup_finRange 6)
  rw [channelsFormed_nil] at stages
  unfold brakeWork forAll pedalStage
  simp only [setFlagIf_eq]
  exact stages

/-- R78, R99: a brake cycle of a part that is not held in reset. -/
theorem exec_brakeCycle (held : s.resetHeld = false) :
    exec .brakeCycle s =
      .next (if s.inReset .brake then s.cycleBegun else s.cycled) := by
  have unheld : exec .brakeCycle s = .next (brakeExpiry s) := by
    show running brakeExpiry s = _
    simp [running, held]
  rw [unheld]
  cases live : s.inReset .brake with
  | true => exact congrArg Host.Outcome.next (if_pos live)
  | false =>
    have work := brakeWork_eq (s := s.cycleBegun) live
    exact congrArg Host.Outcome.next ((if_neg (ne_true_of_eq_false live)).trans work)

theorem exec_brakeCycle_of_live (held : s.resetHeld = false) (live : s.inReset .brake = false) :
    exec .brakeCycle s = .next s.cycled := by
  rw [exec_brakeCycle held, if_neg (ne_true_of_eq_false live)]

/-! ### What a whole cycle leaves -/

theorem cycled_axle (s : State) (a : Axle) :
    s.cycled.bc.axles[a.val] = axleStage s.cycleBegun.pedalJudged a s.bc.axles[a.val] :=
  mapAll_get _ _ a

theorem cycled_channel (s : State) (c : Corner) : s.cycled.bc.channels[c.val] = s.cycleBegun.axlesFormed.channelAfter c :=
  (mapAll_get _ _ c).trans (if_pos (List.mem_finRange c))

theorem cycled_pair (s : State) (c : Corner) :
    s.cycled.valves.brake[c.val] = s.valves.brake[c.val].commanded s.cycled.now s.cycled.bc.channels[c.val].command := by
  rw [cycled_channel]
  exact (mapAll_get _ _ c).trans (if_pos (List.mem_finRange c))

/-- The flags of a cycle: PEDAL when a disagreement arises (R80), SLIP when a channel enters RELIEVE (R90). -/
theorem cycled_flag (s : State) (fl : Flag) :
    s.cycled.flag fl = (s.flag fl || (s.pedalArises && decide (fl = .pedal)) ||
      ((List.finRange 6).any s.cycleBegun.axlesFormed.entersRelieve && decide (fl = .slip))) := by
  have pedal := setFlagIf_flag s.pedalArises .pedal fl s
  have slip := setFlagIf_flag ((List.finRange 6).any s.cycleBegun.axlesFormed.entersRelieve) .slip fl
    (setFlagIf s.pedalArises .pedal s)
  rw [pedal] at slip
  rw [← slip]
  simp only [setFlagIf_eq]
  rfl

end Sys2Proof.Machine
end

section
/-! PROOFS. The axle stages of a brake cycle (O37): R79 to R85 as rules of their functions, and the cycle they make. -/

namespace Sys2Proof.Machine

variable {s : State}

/-! ### Pedals and load (R79 to R82) -/

theorem Sample.ok_iff {x : Sample} : x.ok = true ↔ x.state = .valid := by simp [Sample.ok]

/-- R79: the larger of two VALID pedals, the VALID one of two, or 0. -/
theorem pedalDemand_eq (a b : Sample) : pedalDemand a b = (match a.state, b.state with
    | .valid, .valid => max a.value b.value
    | .valid, _ => a.value
    | _, .valid => b.value
    | _, _ => 0) := by
  unfold pedalDemand Sample.ok
  cases a.state <;> cases b.state <;> rfl

/-- R81: the mean of two VALID bellows, the VALID one of two, or the full load. -/
theorem freeLoad_eq (k o : Sample) (full : Nat) : freeLoad k o full = (match k.state, o.state with
    | .valid, .valid => (k.value + o.value) / 2
    | .valid, _ => k.value
    | _, .valid => o.value
    | _, _ => full) := by
  unfold freeLoad Sample.ok
  cases k.state <;> cases o.state <;> rfl

theorem pedalDisagrees_eq (a b : Sample) (was : Bool) : pedalDisagrees a b was =
    if a.state = .valid ∧ b.state = .valid then decide (120 < ((a.value : Int) - (b.value : Int)).natAbs) else was := by
  simp [pedalDisagrees, Sample.ok]

/-- R82: with both corners LEVEL the load index is free and the latch is released. -/
theorem loadStage_level (free : Nat) (x : BrakeAxle) :
    (loadStage true free x).load = free ∧ (loadStage true free x).lastFree = some free ∧ (loadStage true free x).latch = none :=
  ⟨rfl, rfl, rfl⟩

/-- R82: otherwise the index stands at the latch, which takes the last free index where it held none. -/
theorem loadStage_latched (free : Nat) (x : BrakeAxle) :
    (loadStage false free x).load = x.latch.getD (x.lastFree.getD free) ∧
      (loadStage false free x).latch = some (loadStage false free x).load ∧ (loadStage false free x).lastFree = x.lastFree := by
  obtain ⟨_, _, latch, _, _, _, _⟩ := x
  cases latch with
  | none => exact ⟨rfl, rfl, rfl⟩
  | some v => exact ⟨rfl, rfl, rfl⟩

/-! ### Load ceiling and driver pressure (R83, R84) -/

theorem loadCeiling_of_le {cmin cmax lempty lfull load : Nat} (h : lfull ≤ lempty) :
    loadCeiling cmin cmax lempty lfull load = cmax := if_pos h

theorem loadCeiling_of_swapped {cmin cmax lempty lfull load : Nat} (swapped : cmax < cmin) :
    loadCeiling cmin cmax lempty lfull load = cmax := by
  have low : min cmin cmax = cmax := Nat.min_eq_right swapped.le
  simp [loadCeiling, low]

theorem loadCeiling_of_lt {cmin cmax lempty lfull load : Nat} (h : lempty < lfull) (ordered : cmin ≤ cmax) :
    loadCeiling cmin cmax lempty lfull load =
      cmin + (cmax - cmin) * min (load - lempty) (lfull - lempty) / (lfull - lempty) := by
  have low : min cmin cmax = cmin := Nat.min_eq_left ordered
  simp [loadCeiling, low, h]

/-- R84: the nearest integer to the thousandth part, a half rounding up. -/
theorem driverPressure_nearest (d ceiling : Nat) :
    2 * (d * ceiling) < 2 * (1000 * driverPressure d ceiling) + 1000 ∧
      2 * (1000 * driverPressure d ceiling) ≤ 2 * (d * ceiling) + 1000 := by
  unfold driverPressure
  omega

theorem driverPressure_full (ceiling : Nat) : driverPressure 1000 ceiling = ceiling := by
  unfold driverPressure
  omega

theorem driverPressure_mono {d e : Nat} (h : d ≤ e) (ceiling : Nat) : driverPressure d ceiling ≤ driverPressure e ceiling :=
  Nat.div_le_div_right (Nat.add_le_add_right (Nat.mul_le_mul_right ceiling h) 500)

/-- R84: no pedal gives more than the load ceiling. -/
theorem driverPressure_le {d : Nat} (h : d ≤ 1000) (ceiling : Nat) : driverPressure d ceiling ≤ ceiling :=
  (driverPressure_mono h ceiling).trans_eq (driverPressure_full ceiling)

theorem driverPressure_zero (ceiling : Nat) : driverPressure 0 ceiling = 0 := by simp [driverPressure]

/-! ### The axle stages (R81 to R85) -/

/-- Both corners of the axle are LEVEL. -/
def State.axleLevel (s : State) (a : Axle) : Bool :=
  (s.corner (kerbOf a)).phase == .level && (s.corner (offsideOf a)).phase == .level

/-- The load index that R81 forms for the axle at this cycle. -/
def State.axleFree (s : State) (a : Axle) : Nat :=
  freeLoad (s.bellows (kerbOf a)) (s.bellows (offsideOf a)) s.hl.params.lfull[a.val]

/-- An axle's record after a cycle of demand `d` that began in `s` (R81 to R85). -/
structure AxleFormed (s : State) (d : Nat) (a : Axle) (x y : BrakeAxle) : Prop where
  load     : y.load = (loadStage (s.axleLevel a) (s.axleFree a) x).load
  lastFree : y.lastFree = (loadStage (s.axleLevel a) (s.axleFree a) x).lastFree
  latch    : y.latch = (loadStage (s.axleLevel a) (s.axleFree a) x).latch
  ceiling  : y.ceiling = loadCeiling s.hl.params.cmin[a.val] s.hl.params.cmax[a.val] s.hl.params.lempty[a.val]
    s.hl.params.lfull[a.val] y.load
  driver   : y.driver = driverPressure d y.ceiling
  floor    : y.floor = s.eu.env.floors[a.val]
  base     : y.base = min 1000 (max y.driver y.floor)

theorem cycled_axleFormed (s : State) (a : Axle) : AxleFormed s s.cycled.bc.demand a s.bc.axles[a.val] s.cycled.bc.axles[a.val] := by
  rw [cycled_axle]
  constructor <;> rfl

variable {d : Nat} {a : Axle} {x y : BrakeAxle}

theorem AxleFormed.level (h : AxleFormed s d a x y) (kerb : (s.corner (kerbOf a)).phase = .level)
    (offside : (s.corner (offsideOf a)).phase = .level) :
    y.latch = none ∧ y.lastFree = some y.load ∧ y.load = s.axleFree a := by
  have level : s.axleLevel a = true := by simp [State.axleLevel, kerb, offside]
  obtain ⟨load, lastFree, latch⟩ := loadStage_level (s.axleFree a) x
  have loaded : y.load = s.axleFree a := by rw [h.load, level, load]
  exact ⟨by rw [h.latch, level, latch], by rw [h.lastFree, level, lastFree, loaded], loaded⟩

theorem AxleFormed.latched (h : AxleFormed s d a x y)
    (low : (s.corner (kerbOf a)).phase ≠ .level ∨ (s.corner (offsideOf a)).phase ≠ .level) :
    y.load = x.latch.getD (x.lastFree.getD (s.axleFree a)) ∧ y.latch = some y.load ∧ y.lastFree = x.lastFree := by
  have uneven : s.axleLevel a = false := by
    simpa [State.axleLevel, ← not_and_or] using low
  obtain ⟨load, latch, lastFree⟩ := loadStage_latched (s.axleFree a) x
  have loaded := h.load
  rw [uneven] at loaded
  exact ⟨loaded.trans load, by rw [h.latch, uneven, latch, loaded], by rw [h.lastFree, uneven, lastFree]⟩

/-! ### The cycle -/

theorem cycled_pedal_flag (s : State) :
    s.cycled.flag .pedal = (s.flag .pedal || (!s.bc.disagreement && s.cycled.bc.disagreement)) := by
  rw [cycled_flag]
  simp [State.pedalArises, Bool.and_comm]
  rfl

theorem cycled_other_flag {fl : Flag} (pedal : fl ≠ .pedal) (slip : fl ≠ .slip) : s.cycled.flag fl = s.flag fl := by
  simp [cycled_flag, pedal, slip]

/-- Settles O37: outside a BRAKE reset the cycle is `State.cycled`, axle by axle as `AxleFormed` says. -/
theorem brakeCycleAxles : Obligations.BrakeCycleAxles := by
  intro s held
  cases live : s.inReset .brake with
  | true =>
    refine ⟨s.cycleBegun, (exec_brakeCycle held).trans (by rw [if_pos live]), rfl, fun _ => rfl, nofun, rfl⟩
  | false =>
    refine ⟨s.cycled, exec_brakeCycle_of_live held live, rfl, nofun, fun _ => ?_, rfl⟩
    refine ⟨rfl, fun fl pedal slip => cycled_other_flag pedal slip, pedalDemand_eq _ _, pedalDisagrees_eq _ _ _,
      cycled_pedal_flag s, ?_⟩
    rintro a y free rfl freeIs
    have formed := cycled_axleFormed s a
    generalize s.cycled.bc.axles[a.val] = y at formed ⊢
    replace freeIs : free = s.axleFree a := freeIs.trans (freeLoad_eq _ _ _).symm
    obtain ⟨below, above⟩ := driverPressure_nearest s.cycled.bc.demand y.ceiling
    rw [← formed.driver] at below above
    refine ⟨fun kerb offside => freeIs ▸ formed.level kerb offside, fun low => ?_,
      fun h => formed.ceiling.trans (loadCeiling_of_le h), fun _ swapped => formed.ceiling.trans (loadCeiling_of_swapped swapped),
      fun h ordered => formed.ceiling.trans (loadCeiling_of_lt h ordered), ⟨formed.driver, below, above, fun full => ?_,
      fun most => formed.driver.trans_le (driverPressure_le most _), fun none => ?_⟩, formed.floor, formed.base⟩
    · obtain ⟨load, latch, lastFree⟩ := formed.latched low
      refine ⟨latch, lastFree, fun v was => ?_, fun v was last => ?_, fun was last => ?_⟩
      · rw [load, was]; rfl
      · rw [load, was, last]; rfl
      · rw [load, was, last, freeIs]; rfl
    · rw [formed.driver, full, driverPressure_full]
    · rw [formed.driver, none, driverPressure_zero]

end Sys2Proof.Machine
end

section
/-! PROOFS. The channel stages of a brake cycle (O38): R86 to R94 as rules of their functions, and the cycle they make. -/

namespace Sys2Proof.Machine

variable {s : State}

/-! ### Slip states and targets (R87, R88) -/

/-- R87: no base target, or a speed below 30, brings every state to FOLLOW. -/
theorem slipNext_rest {p : Params} {base vref : Nat} (h : base = 0 ∨ vref < 30) (slip hold prev : Nat) (x : SlipState) :
    slipNext p base vref slip hold prev x = .follow := if_pos h

/-- R87's rows in their order, at a speed of 30 or more and with a base target. -/
theorem slipNext_moving {p : Params} {base vref : Nat} (braking : base ≠ 0) (fast : 30 ≤ vref) (slip hold prev : Nat) (x : SlipState) :
    slipNext p base vref slip hold prev x = match x with
      | .follow => if p.slipIn ≤ slip then .relieve else .follow
      | .relieve => if slip < min p.slipOut p.slipIn then .hold else .relieve
      | .hold => if p.slipIn ≤ slip then .relieve else if p.holds ≤ hold then .reapply else .hold
      | .reapply => if p.slipIn ≤ slip then .relieve else if base ≤ prev then .follow else .reapply :=
  if_neg (by omega)

/-- R87: a slip of S_in or more takes any other state to RELIEVE. -/
theorem slipNext_slips {p : Params} {base vref slip : Nat} (braking : base ≠ 0) (fast : 30 ≤ vref) (slips : p.slipIn ≤ slip)
    (hold prev : Nat) {x : SlipState} (other : x ≠ .relieve) : slipNext p base vref slip hold prev x = .relieve := by
  rw [slipNext_moving braking fast]
  cases x with
  | relieve => exact absurd rfl other
  | follow => exact if_pos slips
  | hold => exact if_pos slips
  | reapply => exact if_pos slips

theorem holdNext_eq (old new : SlipState) (hold : Nat) :
    holdNext old new hold = if new = .hold then (if old = .hold then hold + 1 else 1) else 0 := by
  cases new <;> rfl

/-- R88: no slip state takes a channel's target above its base. -/
theorem targetNext_le (p : Params) (base prev pressure : Nat) (old new : SlipState) :
    targetNext p base prev pressure old new ≤ base := by
  cases new with
  | follow => exact le_rfl
  | relieve => exact Nat.min_le_left _ _
  | hold => exact Nat.min_le_left _ _
  | reapply => exact Nat.min_le_left _ _

/-! ### The valve command (R91) -/

theorem openingOf_bounds (e : Int) : 1 ≤ openingOf e ∧ openingOf e ≤ 10 := by
  unfold openingOf clamp
  split
  · decide
  · split
    · decide
    · omega

theorem commandOf_apply {e : Int} (h : 15 < e) : commandOf e = .apply (clamp (e / 8) 1 10).toNat := by
  rw [commandOf, if_pos h, openingOf, quot, Int.tdiv_eq_ediv_of_nonneg (by omega)]

theorem commandOf_exhaust {e : Int} (h : e < -15) : commandOf e = .exhaust (clamp (-e / 8) 1 10).toNat := by
  rw [commandOf, if_neg (by omega), if_pos h, openingOf, quot, Int.tdiv_eq_ediv_of_nonneg (by omega)]

theorem commandOf_none {e : Int} (low : -15 ≤ e) (high : e ≤ 15) : commandOf e = .none := by
  rw [commandOf, if_neg (by omega), if_neg (by omega)]

/-- The opening of a command is one that a generator takes as it is (R67, R91). -/
def BrakeCommand.Fits : BrakeCommand → Prop
  | .apply n | .exhaust n => 1 ≤ n ∧ n ≤ 10
  | .none => True

theorem commandOf_fits (e : Int) : (commandOf e).Fits := by
  unfold commandOf
  split
  · exact openingOf_bounds e
  · split
    · exact openingOf_bounds (-e)
    · exact trivial

/-! ### Handing a pair a program (R67, R71 to R73) -/

theorem Program.inRange_single {n : Nat} (low : 1 ≤ n) (high : n ≤ 10) : (Program.single n).inRange = .single n := by
  have opens : n ≠ 0 := by omega
  have short : min n 1000 = n := by omega
  simp [Program.inRange, opens, short]

theorem Pair.hand_single {n : Nat} (low : 1 ≤ n) (high : n ≤ 10) (now : Nat) (side : Side) (p : Pair) :
    p.hand now side (.single n) = Pair.make side
      ((p.at side).begin now ((p.at side.other).toIdle now).closedAt (.single n)) ((p.at side.other).toIdle now) := by
  unfold Pair.hand
  rw [Program.inRange_single low high]

theorem Generator.begin_single_prog (now : Nat) (partner : Option Nat) (n : Nat) (g : Generator) :
    (g.begin now partner (.single n)).prog = .single n := by
  unfold Generator.begin
  split
  · split
    · rfl
    · rfl
  · rfl

/-- The program that a command leaves the member on a side with (R91). -/
def BrakeCommand.program : BrakeCommand → Side → Program
  | .apply n, .first | .exhaust n, .second => .single n
  | .apply _, .second | .exhaust _, .first | .none, .first | .none, .second => .idle

theorem Pair.commanded_prog {x : BrakeCommand} (fits : x.Fits) (now : Nat) (p : Pair) (side : Side) :
    ((p.commanded now x).at side).prog = x.program side := by
  cases x with
  | none => cases side <;> rfl
  | apply n =>
    show ((p.hand now .first (.single n)).at side).prog = _
    rw [Pair.hand_single fits.1 fits.2]
    cases side with
    | first => exact Generator.begin_single_prog _ _ _ _
    | second => rfl
  | exhaust n =>
    show ((p.hand now .second (.single n)).at side).prog = _
    rw [Pair.hand_single fits.1 fits.2]
    cases side with
    | first => rfl
    | second => exact Generator.begin_single_prog _ _ _ _

/-! ### The cycle -/

/-- R93: a channel whose pressure is not VALID. -/
theorem cycled_channel_degraded {c : Corner} (h : (s.chamber c).state ≠ .valid) : s.cycled.bc.channels[c.val] =
    degradedChannel (s.cycled.brakeAxle c).base s.mc.wheels[c.val].speed (s.chamber c) :=
  (cycled_channel s c).trans (if_neg fun ok => h (Sample.ok_iff.1 ok))

/-- R86 to R88, R91, R94: a channel whose pressure is VALID. -/
theorem cycled_channel_running {c : Corner} (h : (s.chamber c).state = .valid) : s.cycled.bc.channels[c.val] =
    runningChannel s.hl.params (s.cycled.brakeAxle c).base s.mc.speed s.mc.wheels[c.val].speed (s.chamber c) s.bc.channels[c.val] :=
  (cycled_channel s c).trans (if_pos (Sample.ok_iff.2 h))

theorem cycled_command_fits (s : State) (c : Corner) : s.cycled.bc.channels[c.val].command.Fits := by
  by_cases h : (s.chamber c).state = .valid
  · rw [cycled_channel_running h]
    exact commandOf_fits _
  · rw [cycled_channel_degraded h]
    exact trivial

/-- R91: after a cycle each channel's valves hold what its command gives them. -/
theorem cycled_prog (s : State) (c : Corner) (side : Side) :
    (s.cycled.valves.brake[c.val].at side).prog = s.cycled.bc.channels[c.val].command.program side := by
  rw [cycled_pair]
  exact Pair.commanded_prog (cycled_command_fits s c) _ _ side

/-- R90: SLIP is set exactly when a channel enters RELIEVE. -/
theorem cycled_slip_flag (s : State) : s.cycled.flag .slip = true ↔ s.flag .slip = true ∨
    ∃ d : Corner, s.cycled.bc.channels[d.val].slip = .relieve ∧ s.bc.channels[d.val].slip ≠ .relieve := by
  have enters (d : Corner) : s.cycleBegun.axlesFormed.entersRelieve d = true ↔
      s.cycled.bc.channels[d.val].slip = .relieve ∧ s.bc.channels[d.val].slip ≠ .relieve := by
    rw [cycled_channel]
    unfold State.entersRelieve
    rw [Bool.and_eq_true, beq_iff_eq, bne_iff_ne]
    exact Iff.rfl
  rw [cycled_flag]
  simp [enters]

/-- R86 to R88, R91: what a running channel's record shows, with `x` the record before. -/
structure ChannelRan (s : State) (c : Corner) (base : Nat) (x y : BrakeChannel) : Prop where
  run : y.run = .running
  slipValue : y.slipValue = slipOf s.mc.speed s.mc.wheels[c.val].speed
  slip : y.slip = slipNext s.hl.params base s.mc.speed y.slipValue x.holdCount (x.target.getD 0) x.slip
  holdCount : y.holdCount = holdNext x.slip y.slip x.holdCount
  target : y.target = some (targetNext s.hl.params base (x.target.getD 0) (s.chamber c).value x.slip y.slip)
  command : y.command = commandOf (((y.target.getD 0 : Nat) : Int) - ((s.chamber c).value : Int))

theorem cycled_channelRan {c : Corner} (h : (s.chamber c).state = .valid) :
    ChannelRan s c (s.cycled.brakeAxle c).base s.bc.channels[c.val] s.cycled.bc.channels[c.val] := by
  rw [cycled_channel_running h]
  constructor <;> rfl

/-- Settles O38: a cycle is `State.cycled`; its channels are degraded, or as `ChannelRan` says, and their valves are as commanded. -/
theorem brakeCycleChannels : Obligations.BrakeCycleChannels := by
  rintro s t c x y base p held live next rfl yIs rfl rfl
  obtain rfl : s.cycled = t := Host.Outcome.next.inj ((exec_brakeCycle_of_live held live).symm.trans next)
  have slips := cycled_slip_flag s
  have progs (x : BrakeCommand) (is : y.command = x) : (s.cycled.gen (.apply c)).prog = x.program .first ∧
      (s.cycled.gen (.brakeExhaust c)).prog = x.program .second := by
    subst is yIs
    exact ⟨cycled_prog s c .first, cycled_prog s c .second⟩
  refine ⟨fun bad => ?_, fun good => ?_, fun relieves before => ?_, slips.1, fun n is => ?_, fun n is => ?_, fun is => ?_⟩
  · obtain rfl := yIs.trans (cycled_channel_degraded bad)
    exact ⟨rfl, rfl, rfl, rfl, rfl, rfl⟩
  · have ran := cycled_channelRan good
    rw [← yIs] at ran
    refine ⟨ran.run, ran.slipValue, fun rest => ran.slip.trans (slipNext_rest rest _ _ _ _), fun braking fast => ?_,
      ran.holdCount.trans (holdNext_eq _ _ _), ran.target, ?_⟩
    · have moves := ran.slip.trans (slipNext_moving braking fast _ _ _ _)
      refine ⟨fun slips other => ran.slip.trans (slipNext_slips braking fast slips _ _ other), fun was below => ?_, fun was => ?_,
        fun was below => ?_, fun was below => ?_⟩
      · rw [was] at moves
        exact moves.trans (if_neg below.not_ge)
      · rw [was] at moves
        exact moves
      · rw [was] at moves
        exact moves.trans (if_neg below.not_ge)
      · rw [was] at moves
        exact moves.trans (if_neg below.not_ge)
    · rintro err rfl
      exact ⟨fun h => ran.command.trans (commandOf_apply h), fun h => ran.command.trans (commandOf_exhaust h),
        fun low high => ran.command.trans (commandOf_none low high)⟩
  · exact slips.2 (.inr ⟨c, yIs ▸ relieves, before⟩)
  · exact progs _ is
  · exact (progs _ is).symm
  · exact progs _ is

end Sys2Proof.Machine
end

section
/-! PROOFS. R89's laws speak of the Brake Controller alone, and this section says which operations leave it as it was: all of those
that records, sensors, corners, wheels, generators and door lines share (O59). -/

namespace Sys2Proof.Machine

variable {s : State}

/-! ### Folds and records -/

theorem foldl_bc {α : Type} {f : State → α → State} (h : ∀ x a, (f x a).bc = x.bc) (xs : List α) (s : State) :
    (xs.foldl f s).bc = s.bc :=
  foldl_rel (fun x y : State => y.bc = x.bc) (fun _ => rfl) (fun h k => k.trans h) f h xs s

theorem forAll_bc {n : Nat} {f : Fin n → State → State} (h : ∀ i x, (f i x).bc = x.bc) (s : State) : (forAll n f s).bc = s.bc :=
  foldl_bc (fun x i => h i x) _ s

@[simp] theorem setFlagIf_bc (b : Bool) (f : Flag) (s : State) : (setFlagIf b f s).bc = s.bc := (setFlagIf_table b f s).bc

@[simp] theorem evalListing_bc (p : Cond → Bool) (s : State) : (evalListing p s).bc = s.bc := (evalListing_table p s).bc

@[simp] theorem formEnvelope_bc (s : State) : (formEnvelope s).bc = s.bc := (formEnvelope_table s).bc

@[simp] theorem checkRetire_bc (i : Slot) (s : State) : (checkRetire i s).bc = s.bc := (checkRetire_table i s).bc

@[simp] theorem retire_bc (i : Slot) (s : State) : (retire i s).bc = s.bc := (retire_table i s).bc

@[simp] theorem placeRecord_bc (p : Placement) (s : State) : (placeRecord p s).state.bc = s.bc := (placeRecord_table p s).bc

@[simp] theorem ownerRetire_bc (i : Slot) (s : State) : (ownerRetire i s).2.bc = s.bc := (ownerRetire_table i s).bc

@[simp] theorem withdraw_bc (k : Kind) (o : Owner) (s : State) : (withdraw k o s).bc = s.bc := (withdraw_table k o s).bc

@[simp] theorem forceRetire_bc (i : Slot) (s : State) : (forceRetire i s).bc = s.bc := (forceRetire_table i s).bc

@[simp] theorem amendOne_bc (o : Owner) (k : Option Handle) (c : Change) (s : State) : (amendOne o k c s).2.bc = s.bc :=
  (amendOne_table o k c s).bc

@[simp] theorem lookRisen_bc (s : State) : (lookRisen s).bc = s.bc := (lookRisen_table s).bc

@[simp] theorem armRecords_bc (s : State) : (armRecords s).bc = s.bc := (armRecords_table s).bc

@[simp] theorem distanceIncrement_bc (n : Nat) (s : State) : (distanceIncrement n s).bc = s.bc := (distanceIncrement_table n s).bc

@[simp] theorem formContext_bc (s : State) : (formContext s).bc = s.bc := (formContext_only s).bc

@[simp] theorem controlEvent_bc (c : Corner) (s : State) : (controlEvent c s).bc = s.bc := (controlEvent_table c s).bc

@[simp] theorem revolutionEvent_bc (a : Axle) (s : State) : (revolutionEvent a s).bc = s.bc := (revolutionEvent_table a s).bc

/-! ### The queues of the door lines and PLAUS -/

@[simp] theorem queueCommand_bc (d : Door) (c : Command) (s : State) : (queueCommand d c s).bc = s.bc := by
  unfold queueCommand; split <;> rfl

@[simp] theorem clearQueue_bc (d : Door) (s : State) : (clearQueue d s).bc = s.bc := by
  unfold clearQueue; split <;> rfl

@[simp] theorem settleClock_bc (d : Door) (s : State) : (settleClock d s).bc = s.bc := by
  unfold settleClock; dsimp only; split
  · split <;> rfl
  · rfl

@[simp] theorem setReleaseSet_bc (x : BitVec 4) (s : State) : (setReleaseSet x s).bc = s.bc :=
  forAll_bc (fun d y => by split <;> simp) { s with dt := { s.dt with releaseSet := x } }

@[simp] theorem emptyReleaseSet_bc (s : State) : (emptyReleaseSet s).bc = s.bc := setReleaseSet_bc 0 s

@[simp] theorem restorePermission_bc (d : Door) (s : State) : (restorePermission d s).bc = s.bc := by simp [restorePermission]

@[simp] theorem placeInternal_bc (k : Kind) (o : Owner) (x : Option Scope) (s : State) : (placeInternal k o x s).bc = s.bc := by
  unfold placeInternal; dsimp only; split <;> simp

@[simp] theorem watchDegraded_bc (s : State) : (watchDegraded s).bc = s.bc := by
  obtain ⟨_, within⟩ := watchDegraded_table s
  exact within.bc

@[simp] theorem watchCritical_bc (s : State) : (watchCritical s).bc = s.bc := (watchCritical_table s).bc

@[simp] theorem startWatching_bc (s : State) : (startWatching s).bc = s.bc := by
  unfold startWatching; dsimp only; split <;> simp

/-! ### The Sense Port and the angle counters -/

@[simp] theorem setComparators_bc (r l c : Level) (s : State) : (setComparators r l c s).bc = s.bc := by
  have told (y : State) : (if r = s.sp.reserve then y else reserveEvent r y).bc = y.bc := by
    split
    · rfl
    · exact (reserveEvent_only r y).bc
  unfold setComparators; dsimp only; split <;> simp [told]

@[simp] theorem evalComparators_bc (v : Nat) (s : State) : (evalComparators v s).bc = s.bc := setComparators_bc _ _ _ s

@[simp] theorem meetHeight_bc (c : Corner) (x : SampleState) (s : State) : (meetHeight c x s).bc = s.bc := by
  unfold meetHeight; split
  · split
    · exact (declareDegraded_only c s).bc
    · exact (beginStrobe_only c s).bc
  · exact (declareDegraded_only c s).bc
  · rfl
  · rfl

@[simp] theorem heightState_bc (c : Corner) (x : SampleState) (s : State) : (heightState c x s).bc = s.bc := by
  unfold heightState; split <;> simp

@[simp] theorem heightWord_bc (c : Corner) (v : Nat) (s : State) : (heightWord c v s).bc = s.bc := (heightWord_only c v s).bc

@[simp] theorem sampleStateChanged_bc (ch : Channel) (x : SampleState) (s : State) : (sampleStateChanged ch x s).bc = s.bc := by
  unfold sampleStateChanged; dsimp only
  rw [watchDegraded_bc]
  split <;> split <;> simp

@[simp] theorem setSampleState_bc (ch : Channel) (x : SampleState) (s : State) : (setSampleState ch x s).bc = s.bc := by
  unfold setSampleState; split <;> simp

@[simp] theorem goodSample_bc (ch : Channel) (v : Nat) (s : State) : (goodSample ch v s).bc = s.bc := by
  unfold goodSample; dsimp only
  split <;> split <;> simp

@[simp] theorem takeSample_bc (channel : BitVec 5) (fault : Bool) (value : BitVec 11) (s : State) :
    (takeSample channel fault value s).bc = s.bc := by
  unfold takeSample faultSample; split
  · rfl
  · split
    · split <;> simp
    · rfl

@[simp] theorem ageOut_bc (ch : Channel) (s : State) : (ageOut ch s).bc = s.bc := by
  unfold ageOut; split
  · rfl
  · dsimp only; split <;> simp

@[simp] theorem changeAngle_bc (a : Angle) (f : AngleCounter → AngleCounter) (s : State) : (changeAngle a f s).bc = s.bc := by
  cases a <;> rfl

@[simp] theorem stepAngle_bc (a : Angle) (f : AngleCounter → AngleCounter) (s : State) : (stepAngle a f s).bc = s.bc := by
  unfold stepAngle; dsimp only; split <;> simp

@[simp] theorem dropIllegal_bc (a : Angle) (s : State) : (dropIllegal a s).bc = s.bc := by
  unfold dropIllegal; split <;> simp

@[simp] theorem startSenseReset_bc (s : State) : (startSenseReset s).bc = s.bc := by
  have samples : (forAll 21 resetSample s).bc = s.bc := forAll_bc (fun ch x => by simp [resetSample]) s
  simp [startSenseReset, samples]

/-! ### The corners -/

@[simp] theorem sourceExpiry_bc (c : Corner) (s : State) : (sourceExpiry c s).bc = s.bc := by
  unfold sourceExpiry; split <;> simp

@[simp] theorem strobeExpiry_bc (c : Corner) (s : State) : (strobeExpiry c s).bc = s.bc := by
  unfold strobeExpiry; split <;> rfl

@[simp] theorem waitExpiry_bc (c : Corner) (s : State) : (waitExpiry c s).bc = s.bc := by
  unfold waitExpiry; split
  · rw [watchDegraded_bc]
    split <;> rfl
  · rfl

@[simp] theorem recoveryExpiry_bc (c : Corner) (s : State) : (recoveryExpiry c s).bc = s.bc := by
  unfold recoveryExpiry; split <;> rfl

@[simp] theorem haltExpiry_bc (s : State) : (haltExpiry s).bc = s.bc := by
  unfold haltExpiry; split
  · rfl
  · dsimp only; split
    · exact (resumeNow_only _).bc
    · rfl

@[simp] theorem endLevelReset_bc (s : State) : (endLevelReset s).bc = s.bc := by
  have sources (f : Corner → State → Source) (x : State) : (forAll 6 (fun c y => takeSource c (f c y) y) x).bc = x.bc :=
    forAll_bc (fun c y => (takeSource_only c (f c y) y).bc) x
  have checks (x : State) : (forAll 6 (fun c y => meetHeight c (y.heightRecord c) y) x).bc = x.bc :=
    forAll_bc (fun _ _ => meetHeight_bc _ _ _) x
  simp [endLevelReset, sources, checks]

/-! ### The wheels and the records' timers -/

@[simp] theorem rollOn_bc (s : State) : (rollOn s).bc = s.bc := by
  unfold rollOn; dsimp only; split <;> simp

@[simp] theorem countRevolution_bc (a : Axle) (s : State) : (countRevolution a s).bc = s.bc := by
  unfold countRevolution; dsimp only; split <;> simp

@[simp] theorem wheelPulse_bc (w : Corner) (s : State) : (wheelPulse w s).bc = s.bc := by
  unfold wheelPulse; dsimp only
  split <;> split <;> simp

@[simp] theorem movingChanged_bc (s : State) : (movingChanged s).bc = s.bc := by
  unfold movingChanged; dsimp only; split <;> simp

@[simp] theorem stationaryChanged_bc (s : State) : (stationaryChanged s).bc = s.bc := by
  unfold stationaryChanged; dsimp only; split <;> simp

@[simp] theorem setMoving_bc (b : Bool) (s : State) : (setMoving b s).bc = s.bc := by
  unfold setMoving; split <;> simp

@[simp] theorem setStationary_bc (b : Bool) (s : State) : (setStationary b s).bc = s.bc := by
  unfold setStationary; split <;> simp

@[simp] theorem setSpeed_bc (v : Nat) (s : State) : (setSpeed v s).bc = s.bc := by
  unfold setSpeed; dsimp only; split <;> simp

@[simp] theorem bucketExpiry_bc (s : State) : (bucketExpiry s).bc = s.bc := setSpeed_bc _ _

@[simp] theorem stationaryExpiry_bc (s : State) : (stationaryExpiry s).bc = s.bc := by
  unfold stationaryExpiry; split <;> simp

@[simp] theorem armExpiry_bc (i : Slot) (s : State) : (armExpiry i s).bc = s.bc := by
  unfold armExpiry; split
  · rfl
  · split <;> simp

@[simp] theorem stepExpiry_bc (i : Slot) (s : State) : (stepExpiry i s).bc = s.bc := by
  unfold stepExpiry; split
  · rfl
  · split <;> simp

/-! ### Generators and the joint -/

@[simp] theorem ranOut_bc (g : GenId) (s : State) : (ranOut g s).bc = s.bc := by
  cases g with
  | fill c => exact (returnGrant_only c s).bc
  | _ => rfl

@[simp] theorem singleEnd_bc (g : GenId) (s : State) : (singleEnd g s).bc = s.bc := by
  unfold singleEnd; dsimp only; split <;> simp

@[simp] theorem trainEnd_bc (g : GenId) (s : State) : (trainEnd g s).bc = s.bc := by
  unfold trainEnd; dsimp only; split
  · split
    · rfl
    · split <;> simp
  · rfl

@[simp] theorem dutyOpenOver_bc (g : GenId) (s : State) : (dutyOpenOver g s).bc = s.bc := by
  unfold dutyOpenOver; dsimp only; split <;> rfl

@[simp] theorem dutyPeriodOver_bc (g : GenId) (s : State) : (dutyPeriodOver g s).bc = s.bc := by
  unfold dutyPeriodOver; dsimp only; split <;> rfl

@[simp] theorem deadTimeOver_bc (g : GenId) (s : State) : (deadTimeOver g s).bc = s.bc := by
  unfold deadTimeOver; dsimp only; split <;> rfl

@[simp] theorem handSteer_bc (side : Side) (p : Program) (s : State) : (handSteer side p s).bc = s.bc := by
  unfold handSteer; split <;> rfl

@[simp] theorem handDamping_bc (p : Program) (s : State) : (handDamping p s).bc = s.bc := by
  unfold handDamping; split <;> rfl

@[simp] theorem steerValves_bc (engaged : Bool) (e : Int) (s : State) : (steerValves engaged e s).bc = s.bc := by
  unfold steerValves; split
  · simp
  · split
    · simp
    · split <;> simp

@[simp] theorem jointRecord_bc (old new : JointState) (s : State) : (jointRecord old new s).bc = s.bc := by
  unfold jointRecord; split
  · simp
  · split <;> simp

@[simp] theorem jointExpiry_bc (s : State) : (jointExpiry s).bc = s.bc := by
  unfold jointExpiry; dsimp only; split
  · rfl
  · simp [jointWork]

end Sys2Proof.Machine
end

section
/-! PROOFS. O59, continued: the door lines, the translator and the Host Link leave the Brake Controller as it was. -/

namespace Sys2Proof.Machine

variable {s : State}

/-! ### The door lines -/

@[simp] theorem doorEvent_bc (d : Door) (s : State) : (doorEvent d s).bc = s.bc := by simp [doorEvent]

@[simp] theorem rampEvent_bc (s : State) : (rampEvent s).bc = s.bc := by simp [rampEvent]

@[simp] theorem setDoor_bc (d : Door) (x : DoorState) (s : State) : (setDoor d x s).bc = s.bc := by
  unfold setDoor; split <;> simp

@[simp] theorem setRamp_bc (x : RampState) (s : State) : (setRamp x s).bc = s.bc := by
  unfold setRamp; split <;> simp

@[simp] theorem takeReport_bc (d : Door) (code : Nat) (s : State) : (takeReport d code s).bc = s.bc := by
  unfold takeReport; dsimp only
  split <;> split <;> simp

@[simp] theorem judgeWord_bc (d : Door) (code : BitVec 7) (parity : Bool) (stop : StopBit) (s : State) :
    (judgeWord d code parity stop s).bc = s.bc := by
  have accepted : (acceptWord d code s).bc = s.bc := by
    unfold acceptWord; dsimp only
    split <;> split <;> simp
  unfold judgeWord; split
  · exact accepted
  · rfl

@[simp] theorem takeWord_bc (d : Door) (code : BitVec 7) (parity : Bool) (stop : StopBit) (s : State) :
    (takeWord d code parity stop s).bc = s.bc := by
  unfold takeWord; split <;> simp

@[simp] theorem startWord_bc (d : Door) (s : State) : (startWord d s).bc = s.bc := by
  unfold startWord; split <;> simp

@[simp] theorem stopWord_bc (d : Door) (s : State) : (stopWord d s).bc = s.bc := by
  unfold stopWord; split <;> rfl

@[simp] theorem minimumEnd_bc (d : Door) (s : State) : (minimumEnd d s).bc = s.bc := by
  unfold minimumEnd; split <;> rfl

@[simp] theorem beginSend_bc (d : Door) (s : State) : (beginSend d s).bc = s.bc := by
  unfold beginSend; split
  · dsimp only; split <;> simp
  · rfl

@[simp] theorem releaseClock_bc (d : Door) (s : State) : (releaseClock d s).bc = s.bc := by
  unfold releaseClock; split
  · split <;> rfl
  · rfl

@[simp] theorem endSend_bc (d : Door) (ack : Bool) (x : Send) (s : State) : (endSend d ack x s).bc = s.bc := by
  unfold endSend settleAttempt; dsimp only; split <;> simp

@[simp] theorem attemptEdge_bc (d : Door) (ack : Bool) (s : State) : (attemptEdge d ack s).bc = s.bc := by
  unfold attemptEdge; split
  · split <;> simp
  · rfl

@[simp] theorem attemptTimeout_bc (d : Door) (s : State) : (attemptTimeout d s).bc = s.bc := by
  unfold attemptTimeout; split
  · split <;> simp
  · rfl

@[simp] theorem lossExpiry_bc (d : Door) (s : State) : (lossExpiry d s).bc = s.bc := by
  unfold lossExpiry; split
  · dsimp only; split <;> simp
  · rfl
  · rfl

@[simp] theorem sendUnknown_bc (old : DoorLines) (s : State) : (sendUnknown old s).bc = s.bc := by
  have doors : (forAll 4 (sendDoorUnknown old) s).bc = s.bc :=
    forAll_bc (fun d x => by unfold sendDoorUnknown; split <;> simp) s
  rw [sendUnknown_eq]; split <;> simp [doors]

@[simp] theorem startDoorsReset_bc (s : State) : (startDoorsReset s).bc = s.bc := sendUnknown_bc _ _

@[simp] theorem endDoorsReset_bc (s : State) : (endDoorsReset s).bc = s.bc := forAll_bc restorePermission_bc _

/-! ### The translator -/

@[simp] theorem act_bc (d : Door) (kneel : Bool) (a : Action) (s : State) : (act d kneel a s).bc = s.bc := by
  cases a with
  | ignore => rfl
  | place k v => unfold act actPlace; dsimp only; split <;> simp
  | release k => unfold act actRelease; dsimp only; split <;> simp
  | send c => exact queueCommand_bc d c s
  | haltKneel => cases kneel <;> simp [act, (haltKneel_only s).bc]
  | resumeKneel => cases kneel <;> simp [act, (resumeKneel_only s).bc]
  | clearQueue => exact clearQueue_bc d s

@[simp] theorem runCell_bc (d : Door) (row : Fin 256) (s : State) : (runCell d row s).bc = s.bc :=
  foldl_bc (fun x a => act_bc d _ a x) _ s

@[simp] theorem translateNext_bc (s : State) : (translateNext s).bc = s.bc := by
  have translated (d : Door) (code : BitVec 7) (extended : Bool) : (translate d code extended s).bc = s.bc := by
    unfold translate; dsimp only; split
    · simp
    · split
      · rfl
      · simp
  unfold translateNext; split
  · rfl
  · split
    · exact translated _ _ _
    · rfl

@[simp] theorem prefixExpiry_bc (d : Door) (s : State) : (prefixExpiry d s).bc = s.bc := by
  unfold prefixExpiry; split <;> rfl

/-! ### Parameters, configuration and supervision -/

@[simp] theorem paramWritten_bc (n : Nat) (old : Params) (s : State) : (paramWritten n old s).bc = s.bc := by
  have thresholds : (thresholdsRewritten old s).bc = s.bc := by
    unfold thresholdsRewritten; dsimp only; split
    · rfl
    · split <;> simp
  have sources : (sourceRewritten s).bc = s.bc := by
    unfold sourceRewritten; split
    · rfl
    · exact (levelOnly_forAll _ refreshSource_only s).bc
  unfold paramWritten; split
  · rfl
  · rfl
  · exact thresholds
  · exact sources
  · rfl

@[simp] theorem configure_bc (s : State) : (configure s).bc = s.bc := by simp [configure]

@[simp] theorem beat_bc (s : State) : (beat s).bc = s.bc := by
  unfold beat; dsimp only; split
  · rfl
  · split
    · split <;> simp [regainSupervision]
    · rfl

@[simp] theorem heartExpiry_bc (s : State) : (heartExpiry s).bc = s.bc := by
  unfold heartExpiry; split
  · rfl
  · dsimp only; split <;> simp

@[simp] theorem groupEnd_bc (g : Group) (s : State) : (groupEnd g s).bc = s.bc := by
  have ended (x : State) : (endReset g x).bc = x.bc := by
    cases g <;> simp [endReset]
  unfold groupEnd; split
  · rfl
  · exact ended _

/-- R75, R180: the start of a reset of any group but BRAKE. -/
theorem startReset_bc {g : Group} (other : g ≠ .brake) (s : State) : (startReset g s).bc = s.bc := by
  cases g with
  | brake => exact absurd rfl other
  | level => rfl
  | joint => rfl
  | doors => simp [startReset, quietGroup]
  | sense => simp [startReset, quietGroup]

end Sys2Proof.Machine
end

section
/-! PROOFS. R89's laws (O59): no brake target above ceiling and floor, none below its floor but in slip control. A brake cycle forms them
anew, a BRAKE reset and a reset of the whole part leave no target, and no other command touches the Brake Controller. -/

namespace Sys2Proof.Machine

variable {s t : State}

/-! ### The law and the Brake Controller -/

theorem State.BrakeLaw.of_bc (h : s.BrakeLaw) (same : t.bc = s.bc) : t.BrakeLaw := by
  unfold State.BrakeLaw State.brakeAxle
  rw [same]
  exact h

/-- Channels without a target meet the law, HELD or not. -/
theorem brakeLaw_of_no_target (h : ∀ c : Corner, s.bc.channels[c.val].target = none) : s.BrakeLaw :=
  fun c => ⟨fun _ is => absurd ((h c).symm.trans is) nofun, fun _ => h c⟩

theorem resetBrake_brakeLaw {now : Nat} (h : s.bc = resetBrake now) : s.BrakeLaw := by
  refine brakeLaw_of_no_target fun c => ?_
  rw [h]
  exact congrArg BrakeChannel.target (Vector.getElem_replicate c.isLt)

/-- R98: the start of a BRAKE reset holds every channel without a target. -/
theorem startReset_brake_brakeLaw (s : State) : (startReset .brake s).BrakeLaw :=
  brakeLaw_of_no_target fun c => congrArg BrakeChannel.target (mapAll_get _ _ c)

/-! ### The targets a cycle forms (R84, R85, R88) -/

theorem pedalDemand_le {a b : Sample} {top : Nat} (ha : a.value ≤ top) (hb : b.value ≤ top) : pedalDemand a b ≤ top := by
  unfold pedalDemand
  split
  · exact Nat.max_le.2 ⟨ha, hb⟩
  · exact ha
  · exact hb
  · exact Nat.zero_le _

/-- R44: the pedals' samples are at most 1000 ‰, and so is the demand. -/
theorem cycled_demand_le (range : s.RangeLaw) : s.cycled.bc.demand ≤ 1000 := by
  obtain ⟨-, -, -, -, -, -, -, samples, -⟩ := range
  exact pedalDemand_le (samples 18) (samples 19)

theorem cycled_floor_le (range : s.RangeLaw) (c : Corner) : (s.cycled.brakeAxle c).floor ≤ 800 := by
  obtain ⟨-, -, floors, -⟩ := range
  exact (cycled_axleFormed s (axleOf c)).floor.trans_le (floors (axleOf c))

/-- R84, R85: a base target stands between its axle's floor and the larger of load ceiling and floor, and at 1000 at most. -/
theorem cycled_base_bounds (range : s.RangeLaw) (c : Corner) :
    (s.cycled.brakeAxle c).base ≤ max (s.cycled.brakeAxle c).ceiling (s.cycled.brakeAxle c).floor ∧
      (s.cycled.brakeAxle c).base ≤ 1000 ∧ (s.cycled.brakeAxle c).floor ≤ (s.cycled.brakeAxle c).base := by
  have formed : AxleFormed s s.cycled.bc.demand (axleOf c) s.bc.axles[(axleOf c).val] (s.cycled.brakeAxle c) :=
    cycled_axleFormed s (axleOf c)
  have floor := cycled_floor_le range c
  have driver : (s.cycled.brakeAxle c).driver ≤ (s.cycled.brakeAxle c).ceiling :=
    formed.driver.trans_le (driverPressure_le (cycled_demand_le range) _)
  have base := formed.base
  omega

/-- R88, R93: after a cycle no channel is HELD; each has a target, its base in FOLLOW and at most its base in any other state. -/
theorem cycled_target (s : State) (c : Corner) : s.cycled.bc.channels[c.val].run ≠ .held ∧
    ∃ x, s.cycled.bc.channels[c.val].target = some x ∧ x ≤ (s.cycled.brakeAxle c).base ∧
      (s.cycled.bc.channels[c.val].slip = .follow → x = (s.cycled.brakeAxle c).base) := by
  by_cases good : (s.chamber c).state = .valid
  · have ran := cycled_channelRan good
    refine ⟨by rw [ran.run]; decide, _, ran.target, targetNext_le _ _ _ _ _ _, fun follow => ?_⟩
    rw [follow]
    rfl
  · rw [cycled_channel_degraded good]
    exact ⟨nofun, _, rfl, le_rfl, fun _ => rfl⟩

/-- R86, R87: at a speed below 30 every channel is in FOLLOW after a cycle. -/
theorem cycled_follow (slow : s.mc.speed < 30) (c : Corner) : s.cycled.bc.channels[c.val].slip = .follow := by
  by_cases good : (s.chamber c).state = .valid
  · exact (cycled_channelRan good).slip.trans (slipNext_rest (.inr slow) _ _ _ _)
  · rw [cycled_channel_degraded good]
    rfl

/-- R89: a cycle meets the law whatever stood before it. -/
theorem cycled_brakeLaw (range : s.RangeLaw) : s.cycled.BrakeLaw := by
  intro c
  obtain ⟨live, x, target, most, follow⟩ := cycled_target s c
  obtain ⟨high, top, low⟩ := cycled_base_bounds range c
  refine ⟨fun y is => ?_, fun held => absurd held live⟩
  obtain rfl : x = y := Option.some.inj (target.symm.trans is)
  refine ⟨most.trans high, most.trans top, fun below => ?_⟩
  cases slip : s.cycled.bc.channels[c.val].slip with
  | follow => exact absurd (low.trans_eq (follow slip).symm) below.not_ge
  | relieve => exact .inl rfl
  | hold => exact .inr (.inl rfl)
  | reapply => exact .inr (.inr rfl)

/-- R89, R99: BRAKE_CYCLE keeps the law: a cycle forms it anew, and within a BRAKE reset only the timer moves. -/
theorem brakeCycle_brakeLaw (range : s.RangeLaw) (h : s.BrakeLaw) (e : exec .brakeCycle s = .next t) : t.BrakeLaw := by
  cases held : s.resetHeld with
  | true =>
    obtain rfl := Host.Outcome.next.inj e
    rw [if_pos held]
    exact h
  | false =>
    obtain rfl := Host.Outcome.next.inj ((exec_brakeCycle held).symm.trans e)
    split
    · exact h
    · exact cycled_brakeLaw range

/-! ### The host's requests -/

@[simp] theorem refuse_bc (code : Byte) (st : Status) (s : State) : (refuse code st s).bc = s.bc := rfl

@[simp] theorem answerPage_bc (code : Byte) (image : List Byte) (page : Byte) (s : State) :
    (answerPage code image page s).bc = s.bc := by
  unfold answerPage; split <;> rfl

theorem readWhole_bc (code : Byte) (image : State → List Byte) (payload : List Byte) (s : State) :
    (readWhole code image payload s).bc = s.bc := by
  unfold readWhole; split <;> simp

theorem readIndexed_bc {α : Type} (code : Byte) (index : Byte → Option α) (image : State → α → List Byte) (payload : List Byte)
    (s : State) : (readIndexed code index image payload s).bc = s.bc := by
  unfold readIndexed; split
  · split <;> simp
  · rfl

theorem bodyPlace_bc (o : HostOwner) (payload : List Byte) (s : State) : (bodyPlace o payload s).bc = s.bc := by
  have placed (w : Owner) (k x : Byte) (v : Supplied) (p : Option (Option Handle)) : (placeChecked w k x v p s).state.bc = s.bc := by
    unfold placeChecked; split
    · rfl
    · split
      · rfl
      · split <;> simp
  unfold bodyPlace; split
  · split <;> simp [placed]
  · rfl

theorem bodyQuery_bc (o : HostOwner) (payload : List Byte) (s : State) : (bodyQuery o payload s).bc = s.bc := by
  unfold bodyQuery; split
  · split <;> simp
  · rfl

theorem bodyFind_bc (o : HostOwner) (payload : List Byte) (s : State) : (bodyFind o payload s).bc = s.bc := by
  unfold bodyFind; split <;> rfl

theorem bodyList_bc (o : HostOwner) (payload : List Byte) (s : State) : (bodyList o payload s).bc = s.bc := by
  unfold bodyList; split <;> rfl

@[simp] theorem applyBatch_bc (o : Owner) : ∀ (es : List AmendEntry) (n : Nat) (clamped : Bool) (s : State),
    (applyBatch o es n clamped s).state.bc = s.bc
  | [], _, _, _ => rfl
  | e :: es, n, clamped, s => by
    have amended : (amendOne o e.handle e.change s).2.bc = s.bc := amendOne_bc _ _ _ s
    unfold applyBatch
    split
    all_goals
      rename_i answered
      rw [answered] at amended
    · exact (applyBatch_bc o es _ _ _).trans amended
    · exact (applyBatch_bc o es _ _ _).trans amended

theorem bodyAmend_bc (o : HostOwner) (payload : List Byte) (s : State) : (bodyAmend o payload s).bc = s.bc := by
  unfold bodyAmend; split
  · split
    · rfl
    · split <;> simp
  · rfl

theorem bodyRetire_bc (o : HostOwner) (payload : List Byte) (s : State) : (bodyRetire o payload s).bc = s.bc := by
  unfold bodyRetire; split
  · split
    · rfl
    · split <;> simp
  · rfl

theorem bodyRetireForce_bc (o : HostOwner) (payload : List Byte) (s : State) : (bodyRetireForce o payload s).bc = s.bc := by
  unfold bodyRetireForce; split
  · split
    · rfl
    · split
      · rfl
      · split
        · rfl
        · split <;> simp
  · rfl

theorem bodySetDoorRelease_bc (o : HostOwner) (payload : List Byte) (s : State) : (bodySetDoorRelease o payload s).bc = s.bc := by
  unfold bodySetDoorRelease; split
  · split
    · rfl
    · split
      · rfl
      · split <;> simp
  · rfl

theorem bodyDoorCommand_bc (o : HostOwner) (payload : List Byte) (s : State) : (bodyDoorCommand o payload s).bc = s.bc := by
  unfold bodyDoorCommand; split
  · split
    · rfl
    · split
      · split <;> simp
      · rfl
  · rfl

theorem bodySetMode_bc (o : HostOwner) (payload : List Byte) (s : State) : (bodySetMode o payload s).bc = s.bc := by
  unfold bodySetMode
  repeat' split
  all_goals rfl

theorem bodyHeartbeat_bc (o : HostOwner) (payload : List Byte) (s : State) : (bodyHeartbeat o payload s).bc = s.bc := by
  have beaten : (if s.hl.configured then beat s else s).bc = s.bc := by split <;> simp
  unfold bodyHeartbeat; split
  · exact beaten
  · rfl

theorem bodyAckAttention_bc (o : HostOwner) (payload : List Byte) (s : State) : (bodyAckAttention o payload s).bc = s.bc := by
  unfold bodyAckAttention; split <;> rfl

theorem bodySetAttentionMask_bc (o : HostOwner) (payload : List Byte) (s : State) :
    (bodySetAttentionMask o payload s).bc = s.bc := by
  unfold bodySetAttentionMask; split <;> rfl

theorem bodyLastStatus_bc (o : HostOwner) (payload : List Byte) (s : State) : (bodyLastStatus o payload s).bc = s.bc := by
  unfold bodyLastStatus; split <;> rfl

theorem bodyWriteParam_bc (o : HostOwner) (payload : List Byte) (s : State) : (bodyWriteParam o payload s).bc = s.bc := by
  unfold bodyWriteParam; split
  · split
    · rfl
    · split <;> simp
  · rfl

theorem bodyWriteProfile_bc (o : HostOwner) (payload : List Byte) (s : State) : (bodyWriteProfile o payload s).bc = s.bc := by
  have written (k x : Byte) (v : Supplied) : (writeProfile k x v s).2.bc = s.bc := by
    unfold writeProfile; split
    · rfl
    · dsimp only; split
      · rfl
      · split <;> rfl
  unfold bodyWriteProfile; split
  · split
    · rfl
    · split <;> simp [written]
  · rfl

theorem bodyWriteXlate_bc (o : HostOwner) (payload : List Byte) (s : State) : (bodyWriteXlate o payload s).bc = s.bc := by
  unfold bodyWriteXlate
  repeat' split
  all_goals rfl

theorem bodyConfigDone_bc (o : HostOwner) (payload : List Byte) (s : State) : (bodyConfigDone o payload s).bc = s.bc := by
  unfold bodyConfigDone; split
  · split <;> simp
  · rfl

/-- A request's body keeps the law, whoever asks and whatever the payload is. -/
def BodyKeepsBrakes (body : HostOwner → List Byte → State → State) : Prop :=
  ∀ (o : HostOwner) (payload : List Byte) (s : State), s.BrakeLaw → (body o payload s).BrakeLaw

theorem keepsBrakes_of_bc {body : HostOwner → List Byte → State → State}
    (same : ∀ o payload s, (body o payload s).bc = s.bc) : BodyKeepsBrakes body :=
  fun o payload s h => h.of_bc (same o payload s)

theorem bodyResetGroup_keepsBrakes : BodyKeepsBrakes bodyResetGroup := by
  intro o payload s h
  have started (g : Group) (n : Nat) : (resetGroup g n s).BrakeLaw := by
    unfold resetGroup; dsimp only; split
    · exact h
    · by_cases brake : g = .brake
      · subst brake
        exact startReset_brake_brakeLaw _
      · exact h.of_bc (startReset_bc brake _)
  unfold bodyResetGroup; split
  · split
    · exact h
    · split
      · exact h
      · split
        · exact h
        · exact started _ _
  · exact h

theorem bodyResetAll_keepsBrakes : BodyKeepsBrakes bodyResetAll := by
  intro o payload s h
  unfold bodyResetAll; split
  · split
    · exact h
    · exact resetBrake_brakeLaw rfl
  · exact h

theorem serve_brakeLaw {code : Byte} {accepts : Accepts} {body : HostOwner → List Byte → State → State}
    (keeps : BodyKeepsBrakes body) (f : HostFrame) (h : s.BrakeLaw) : (serve code accepts body f s).BrakeLaw := by
  unfold serve; dsimp only; split
  · exact h
  · split
    · exact h
    · split
      · exact keeps _ _ _ h
      · exact h

/-- Every request of the host keeps the law (R170 to R182), whichever its code names. -/
theorem requestOf_brakeLaw {code : Nat} {r : HostFrame → State → State} (hr : requestOf code = some r) (f : HostFrame)
    (h : s.BrakeLaw) : (r f s).BrakeLaw := by
  have kept {code : Byte} {accepts : Accepts} {body : HostOwner → List Byte → State → State}
      (same : ∀ o payload s, (body o payload s).bc = s.bc) : (serve code accepts body f s).BrakeLaw :=
    serve_brakeLaw (keepsBrakes_of_bc same) f h
  unfold requestOf at hr
  split at hr
  all_goals cases hr
  exacts [kept bodyPlace_bc, kept bodyQuery_bc, kept bodyFind_bc, kept bodyList_bc, kept bodyAmend_bc, kept bodyRetire_bc,
    kept bodyRetireForce_bc, kept fun _ => readWhole_bc _ _, kept fun _ => readIndexed_bc _ _ _, kept fun _ => readIndexed_bc _ _ _,
    kept fun _ => readWhole_bc _ _, kept fun _ => readIndexed_bc _ _ _, kept fun _ => readIndexed_bc _ _ _, kept bodySetDoorRelease_bc,
    kept bodyDoorCommand_bc, kept bodySetMode_bc, kept bodyHeartbeat_bc, kept bodyAckAttention_bc, kept bodySetAttentionMask_bc,
    kept bodyLastStatus_bc, kept bodyWriteParam_bc, kept bodyWriteProfile_bc, kept bodyWriteXlate_bc, kept bodyConfigDone_bc,
    serve_brakeLaw bodyResetGroup_keepsBrakes f h, serve_brakeLaw bodyResetAll_keepsBrakes f h]

theorem takeBytes_brakeLaw (bytes : List Byte) (h : s.BrakeLaw) : (takeBytes bytes s).BrakeLaw := by
  unfold takeBytes; split
  · exact h
  · split
    · exact h
    · split
      · rename_i hr
        exact requestOf_brakeLaw hr _ h
      · exact h

/-! ### The commands -/

/-- A command that keeps the law where the part takes it keeps it, as a part held in reset takes nothing (R42). -/
theorem running_brakeLaw {f : State → State} (h : s.BrakeLaw) (e : running f s = .next t) (keeps : (f s).BrakeLaw) : t.BrakeLaw := by
  obtain rfl := Host.Outcome.next.inj e
  split
  · exact h
  · exact keeps

/-- A command that is disregarded while a reset of its group lasts. -/
theorem unlessReset_brakeLaw (g : Group) {f : State → State} (h : s.BrakeLaw) (same : (f s).bc = s.bc)
    (e : running (fun s => if s.inReset g then s else f s) s = .next t) : t.BrakeLaw := by
  refine running_brakeLaw h e ?_
  split
  · exact h
  · exact h.of_bc same

theorem phaseTransition_bc (a : Angle) (p : Phases) (e : execPhaseTransition a p s = .next t) : t.bc = s.bc := by
  obtain rfl := Host.Outcome.next.inj e
  split <;> simp

theorem exec_brakeLaw (range : s.RangeLaw) (h : s.BrakeLaw) (c : Instr) (e : exec c s = .next t) : t.BrakeLaw := by
  have request {code : Nat} {r : HostFrame → State → State} (hr : requestOf code = some r) (f : HostFrame)
      (e : running (r f) s = .next t) : t.BrakeLaw := running_brakeLaw h e (requestOf_brakeLaw hr f h)
  have event {f : State → State} (same : (f s).bc = s.bc) (e : running f s = .next t) : t.BrakeLaw :=
    running_brakeLaw h e (h.of_bc same)
  cases c with
  | powerOn =>
    obtain rfl := Host.Outcome.next.inj e
    exact resetBrake_brakeLaw rfl
  | resetInput =>
    obtain rfl := Host.Outcome.next.inj e
    exact h
  | place f => exact request (code := 0x01) rfl f e
  | query f => exact request (code := 0x02) rfl f e
  | find f => exact request (code := 0x03) rfl f e
  | list f => exact request (code := 0x04) rfl f e
  | amend f => exact request (code := 0x05) rfl f e
  | retire f => exact request (code := 0x06) rfl f e
  | retireForce f => exact request (code := 0x07) rfl f e
  | readEnvelope f => exact request (code := 0x10) rfl f e
  | readBrake f => exact request (code := 0x11) rfl f e
  | readCorner f => exact request (code := 0x12) rfl f e
  | readJoint f => exact request (code := 0x13) rfl f e
  | readDoor f => exact request (code := 0x14) rfl f e
  | readSample f => exact request (code := 0x15) rfl f e
  | setDoorRelease f => exact request (code := 0x20) rfl f e
  | doorCommand f => exact request (code := 0x21) rfl f e
  | setMode f => exact request (code := 0x22) rfl f e
  | heartbeat f => exact request (code := 0x23) rfl f e
  | ackAttention f => exact request (code := 0x24) rfl f e
  | setAttentionMask f => exact request (code := 0x25) rfl f e
  | lastStatus f => exact request (code := 0x26) rfl f e
  | writeParam f => exact request (code := 0x30) rfl f e
  | writeProfile f => exact request (code := 0x31) rfl f e
  | writeXlate f => exact request (code := 0x32) rfl f e
  | configDone f => exact request (code := 0x33) rfl f e
  | resetGroup f => exact request (code := 0x40) rfl f e
  | resetAll f => exact request (code := 0x41) rfl f e
  | frameCheckFail bytes => exact running_brakeLaw h e (takeBytes_brakeLaw bytes h)
  | heartbeatTimerExpiry => exact event (heartExpiry_bc s) e
  | groupResetEnd g => exact event (groupEnd_bc g s) e
  | sampleWord channel fault value => exact event (takeSample_bc channel fault value s) e
  | sampleWordTimeout => exact unlessReset_brakeLaw .sense (f := countDiscard) h rfl e
  | sampleAgeExpiry ch => exact event (ageOut_bc ch s) e
  | wheelPulse w => exact event (wheelPulse_bc w s) e
  | bucketTimerExpiry => exact event (bucketExpiry_bc s) e
  | stationaryTimerExpiry => exact event (stationaryExpiry_bc s) e
  | phaseTransition a p => exact h.of_bc (phaseTransition_bc a p e)
  | illegalEntryExpiry a => exact event (dropIllegal_bc a s) e
  | centreMark a => exact unlessReset_brakeLaw .sense h (stepAngle_bc a AngleCounter.marked s) e
  | armTimeout i => exact event (armExpiry_bc i s) e
  | releaseStep i => exact event (stepExpiry_bc i s) e
  | singlePeriodEnd g => exact event (singleEnd_bc g s) e
  | trainPeriodEnd g => exact event (trainEnd_bc g s) e
  | dutyOpenEnd g => exact event (dutyOpenOver_bc g s) e
  | dutyPeriodEnd g => exact event (dutyPeriodOver_bc g s) e
  | deadTimeEnd g => exact event (deadTimeOver_bc g s) e
  | brakeCycle => exact brakeCycle_brakeLaw range h e
  | cornerTimerExpiry c => exact event (sourceExpiry_bc c s) e
  | strobeTimerExpiry c => exact event (strobeExpiry_bc c s) e
  | waitTimerExpiry c => exact event (waitExpiry_bc c s) e
  | recoveryWindowExpiry c => exact event (recoveryExpiry_bc c s) e
  | haltTimerExpiry => exact event (haltExpiry_bc s) e
  | jsCycle => exact event (jointExpiry_bc s) e
  | doorWord d code parity stop => exact unlessReset_brakeLaw .doors h (takeWord_bc d code parity stop s) e
  | doorWordClockStop d => exact event (stopWord_bc d s) e
  | inhibitMinEnd d => exact event (minimumEnd_bc d s) e
  | lossTimerExpiry d => exact event (lossExpiry_bc d s) e
  | sendStart d => exact event (beginSend_bc d s) e
  | sendClockRelease d => exact event (releaseClock_bc d s) e
  | sendAttemptEnd d ack => exact event (attemptEdge_bc d ack s) e
  | sendTimeout d => exact event (attemptTimeout_bc d s) e
  | translateWord => exact event (translateNext_bc s) e
  | prefixTimerExpiry d => exact event (prefixExpiry_bc d s) e
  | doorStartBit d => exact unlessReset_brakeLaw .doors h (startWord_bc d s) e

/-- Settles O59: an idle step moves the clock alone, every command keeps the law, and below 30 each target is its base target. -/
theorem brakeTargetLaws : Obligations.BrakeTargetLaws := by
  refine ⟨fun s t range h e => ?_, fun s t range held live e slow c x target => ?_⟩
  · unfold step at e
    split at e
    · obtain rfl := Host.Outcome.next.inj e
      exact h
    · rename_i c rest _
      exact exec_brakeLaw (s := { s with pending := rest }) range h c e
  · obtain rfl : s.cycled = t := Host.Outcome.next.inj ((exec_brakeCycle_of_live held live).symm.trans e)
    obtain ⟨-, y, is, -, follow⟩ := cycled_target s c
    obtain ⟨-, -, low⟩ := cycled_base_bounds range c
    obtain rfl : y = x := Option.some.inj (is.symm.trans target)
    exact low.trans_eq (follow (cycled_follow slow c)).symm

end Sys2Proof.Machine
end

section
/-! PROOFS. The Restraint Table under an internal owner's record (O43): what one change of a record leaves to the others and to the
envelope, what an evaluation always keeps, and then a placement (R6, R7) and a withdrawal (R13, R17, R18) as JOINT and PLAUS ask for
them. -/

namespace Sys2Proof.Machine

variable {s : State} {i j : Slot} {r : Record}

/-! ### A change of one record -/

/-- What a change leaves alone in the record it changes, it leaves alone in the list of the live records. -/
theorem liveRecords_upd_map {α : Type} {f : Record → Record} {g : Record → α} (same : ∀ q, g (f q) = g q)
    (slots : Vector SlotEntry 32) (i : Slot) :
    (liveRecords (upd slots i fun e => { e with record := e.record.map f })).map g = (liveRecords slots).map g := by
  have entries : (upd slots i fun e => { e with record := e.record.map f }).map (fun e => e.record.map g) =
      slots.map fun e => e.record.map g := by
    refine Vector.ext fun n hn => ?_
    rw [Vector.getElem_map, Vector.getElem_map, upd_get slots i ⟨n, hn⟩]
    split
    · rename_i here
      subst here
      simp [Function.comp_def, same]
    · rfl
  have read (v : Vector SlotEntry 32) : (liveRecords v).map g = (v.map fun e => e.record.map g).toList.filterMap id := by
    rw [liveRecords, List.map_filterMap, Vector.toList_map, List.filterMap_map]
    rfl
  rw [read, read, entries]

/-- A change that keeps a record's parent makes no child and takes none away. -/
theorem changeRecord_hasChild {f : Record → Record} (same : ∀ q, (f q).parent = q.parent) (i j : Slot) (s : State) :
    (changeRecord i f s).hasChild j = s.hasChild j := by
  have parents := liveRecords_upd_map same s.rt.slots i
  have named : (changeRecord i f s).handleAt j = s.handleAt j := by
    simp only [State.handleAt, changeRecord, upd_get]
    split
    · rename_i here
      subst here
      rfl
    · rfl
  have read (x : State) : x.hasChild j = ((liveRecords x.rt.slots).map (·.parent)).any (· == some (x.handleAt j)) := by
    simp [State.hasChild, Function.comp_def]
  rw [read, read, named]
  exact congrArg (List.any · _) parents

/-- A record with its kneel-risen flag clear. -/
def Record.lowered (r : Record) : Record := { r with risen := false }

/-- The envelope that a list of live records forms (R31 to R36). -/
def envelopeFrom (rs : List Record) : Envelope where
  floors := Vector.ofFn (floorOf rs)
  ceiling := smallest 800 (rs.filterMap Record.ceilingPart)
  steer := smallest 140 (rs.filterMap Record.steerPart)
  offsets := Vector.ofFn (offsetOf rs)
  damping := largest (rs.map Record.dampingPart)
  kneel := rs.any (·.kind == .kneel)

theorem envelopeOf_eq_from (slots : Vector SlotEntry 32) : envelopeOf slots = envelopeFrom (liveRecords slots) := rfl

/-- The kneel-risen flag is in no item of the envelope. -/
theorem envelopeFrom_lowered (rs : List Record) : envelopeFrom (rs.map Record.lowered) = envelopeFrom rs := by
  have ceiling (r : Record) : r.lowered.ceilingPart = r.ceilingPart := rfl
  have steer (r : Record) : r.lowered.steerPart = r.steerPart := rfl
  have floor (r : Record) (a : Axle) : r.lowered.floorOn a = r.floorOn a := rfl
  have offset (r : Record) (c : Corner) : r.lowered.offsetPart c = r.offsetPart c := rfl
  have damping (r : Record) : r.lowered.dampingPart = r.dampingPart := rfl
  have kind (r : Record) : r.lowered.kind = r.kind := rfl
  have floors : floorOf (rs.map Record.lowered) = floorOf rs := by
    funext a
    simp [floorOf, Function.comp_def, floor]
  have offsets : offsetOf (rs.map Record.lowered) = offsetOf rs := by
    funext c
    simp [offsetOf, List.filterMap_map, offset]
  simp [envelopeFrom, floors, offsets, List.filterMap_map, Function.comp_def, ceiling, steer, damping, kind]

theorem markRisen_envelopeOf (i : Slot) (s : State) : envelopeOf (markRisen i s).rt.slots = envelopeOf s.rt.slots := by
  have same : (liveRecords (markRisen i s).rt.slots).map Record.lowered = (liveRecords s.rt.slots).map Record.lowered :=
    liveRecords_upd_map (f := fun q => { q with risen := true }) (fun _ => rfl) s.rt.slots i
  rw [envelopeOf_eq_from, envelopeOf_eq_from, ← envelopeFrom_lowered, same, envelopeFrom_lowered]

/-! ### The forming of the envelope (R30) -/

@[simp] theorem formEnvelope_rt (s : State) : (formEnvelope s).rt = s.rt := by
  unfold formEnvelope
  dsimp only
  rw [(sendOffsets_only _ _ _).rt]
  split <;> rfl

theorem formEnvelope_envelopeLaw (s : State) : (formEnvelope s).EnvelopeLaw := by
  have stored : (formEnvelope s).eu.env = envelopeOf s.rt.slots := by
    unfold formEnvelope
    dsimp only
    rw [(sendOffsets_only _ _ _).eu]
    split <;> rfl
  rw [State.EnvelopeLaw, stored, formEnvelope_rt]

@[simp] theorem formEnvelope_recordAt (i : Slot) (s : State) : (formEnvelope s).recordAt i = s.recordAt i := by
  simp [State.recordAt]

theorem leaveRising_envelopeLaw (h : Handle) (law : s.EnvelopeLaw) : (leaveRising h s).EnvelopeLaw := law

theorem markRisen_envelopeLaw (i : Slot) (law : s.EnvelopeLaw) : (markRisen i s).EnvelopeLaw :=
  law.trans (markRisen_envelopeOf i s).symm

/-- R116: a notice of the rising list leaves the envelope as the records form it. -/
theorem noticeRising_envelopeLaw (i : Slot) (r : Record) (law : s.EnvelopeLaw) : (noticeRising i r s).EnvelopeLaw := by
  unfold noticeRising
  split
  · exact law
  · split
    · exact markRisen_envelopeLaw i (leaveRising_envelopeLaw _ law)
    · unfold enterRising
      dsimp only
      split
      · exact markRisen_envelopeLaw i (leaveRising_envelopeLaw _ law)
      · exact law

/-! ### What an evaluation keeps -/

/-- The slot is FREE, and the envelope is the one the records form. -/
def State.FreeAt (i : Slot) (s : State) : Prop := s.recordAt i = none ∧ s.EnvelopeLaw

theorem changeRecord_recordAt_none (f : Record → Record) (free : s.recordAt i = none) :
    (changeRecord j f s).recordAt i = none := by
  by_cases here : j = i
  · subst here
    simp [free]
  · rw [changeRecord_recordAt_ne _ _ here, free]

theorem vacate_recordAt_self (i : Slot) (s : State) : (vacate i s).recordAt i = none := by
  simp [State.recordAt, vacate]

theorem vacate_recordAt_none (free : s.recordAt i = none) : (vacate j s).recordAt i = none := by
  by_cases here : j = i
  · subst here
    exact vacate_recordAt_self j s
  · rw [← free]
    simp [State.recordAt, vacate, upd_get_ne _ _ here]

theorem noticeRising_freeAt (j : Slot) (r : Record) (h : s.FreeAt i) : (noticeRising j r s).FreeAt i := by
  refine ⟨?_, noticeRising_envelopeLaw j r h.2⟩
  unfold noticeRising
  split
  · exact h.1
  · split
    · exact changeRecord_recordAt_none (s := leaveRising _ s) _ h.1
    · unfold enterRising
      dsimp only
      split
      · exact changeRecord_recordAt_none (s := leaveRising _ s) _ h.1
      · exact h.1

theorem formEnvelope_freeAt (free : s.recordAt i = none) : (formEnvelope s).FreeAt i :=
  ⟨(formEnvelope_recordAt i s).trans free, formEnvelope_envelopeLaw s⟩

theorem endService_rt (k : Kind) (s : State) : (endService k s).rt = s.rt := by
  unfold endService
  split <;> rfl

theorem freeSlot_recordAt (j i : Slot) (r : Record) (s : State) :
    (freeSlot j r s).recordAt i = (vacate j s).recordAt i := by
  rw [freeSlot, formEnvelope_recordAt, State.recordAt, endService_rt]
  rfl

/-- R18: the slot of a record that retires is FREE. -/
theorem freeSlot_freeAt_self (i : Slot) (r : Record) (s : State) : (freeSlot i r s).FreeAt i :=
  ⟨(freeSlot_recordAt i i r s).trans (vacate_recordAt_self i s), formEnvelope_envelopeLaw _⟩

/-- A property that the three ends of an evaluation keep, an entry to RELEASING, a retirement and a return to ACTIVE (R12, R18, R19),
is kept by the evaluation with all that follows it. -/
theorem evaluate_invariant {P : State → Prop} (enter : ∀ i r x, P x → P (enterReleasing i r x))
    (free : ∀ i r x, P x → P (freeSlot i r x)) (back : ∀ i x, P x → P (returnActive i x)) (forced : List Slot) :
    ∀ (n : Nat) (i : Slot) (s : State), P s → P (evaluate forced n i s)
  | 0, _, _, h => h
  | n + 1, i, s, h => by
    have chain (xs : List Slot) (x : State) (hx : P x) : P (xs.foldl (fun s j => evaluate forced n j s) x) :=
      foldl_rel (fun x y : State => P x → P y) (fun _ => id) (fun h k => k ∘ h) _
        (fun x j => evaluate_invariant enter free back forced n j x) xs x hx
    unfold evaluate
    split
    · exact h
    · split
      · exact h
      · split
        · extract_lets x y
          have hx : P x := enter i _ s h
          have hy : P y := by
            unfold y
            split
            · exact chain _ x hx
            · exact hx
          split
          · split
            · exact chain _ _ (free i _ y hy)
            · exact hy
          · exact hy
        · exact h
      · split
        · exact back i s h
        · exact h

/-- A FREE slot stays FREE. -/
theorem evaluate_freeAt (forced : List Slot) (n : Nat) (j : Slot) (h : s.FreeAt i) : (evaluate forced n j s).FreeAt i :=
  evaluate_invariant (P := State.FreeAt i)
    (fun j r _ hx => noticeRising_freeAt j r (formEnvelope_freeAt (changeRecord_recordAt_none _ hx.1)))
    (fun j r x hx => ⟨(freeSlot_recordAt j i r x).trans (vacate_recordAt_none hx.1), formEnvelope_envelopeLaw _⟩)
    (fun j _ hx => formEnvelope_freeAt (s := changeRecord j Record.reactivate _) (changeRecord_recordAt_none _ hx.1))
    forced n j s h

/-! ### The evaluation of an ACTIVE record that is no KNEEL (R12, R13, R17) -/

/-- A record that lists OWNER_RELEASE waits for its owner (R12). -/
theorem releasable_of_waits (lists : Cond.ownerRelease ∈ r.conds) (waits : r.ownerRelease = false) : releasable s i r = false := by
  have unmet : r.conds.all (condHolds s i r) = false := by
    rw [List.all_eq_false]
    exact ⟨_, lists, by simp [condHolds, waits]⟩
  simp [releasable, unmet]

/-- One that lists nothing else, told by its owner and without a child, is free to leave (R12). -/
theorem releasable_of_told (lists : r.conds = [.ownerRelease]) (told : r.ownerRelease = true) (childless : s.hasChild i = false) :
    releasable s i r = true := by
  simp [releasable, lists, condHolds, told, childless]

theorem evaluate_of_waits (stands : s.recordAt i = some r) (active : r.state = .active) (lists : Cond.ownerRelease ∈ r.conds)
    (waits : r.ownerRelease = false) (forced : List Slot) (n : Nat) : evaluate forced (n + 1) i s = s := by
  simp [evaluate, stands, active, releasable_of_waits lists waits]

theorem enterReleasing_eq (kind : r.kind ≠ .kneel) :
    enterReleasing i r s = formEnvelope (changeRecord i (Record.release s.now) s) := by
  simp [enterReleasing, noticeRising, kind]

theorem enterReleasing_recordAt (kind : r.kind ≠ .kneel) (stands : s.recordAt i = some r) :
    (enterReleasing i r s).recordAt i = some (r.release s.now) := by
  simp [enterReleasing_eq kind, stands]

/-- R13: a record with something left to run stays in RELEASING. -/
theorem evaluate_of_lingers (stands : s.recordAt i = some r) (kind : r.kind ≠ .kneel) (active : r.state = .active)
    (leaves : releasable s i r = true) (lingers : (r.release s.now).spent = false) (forced : List Slot) (n : Nat) :
    evaluate forced (n + 1) i s = enterReleasing i r s := by
  simp [evaluate, stands, active, leaves, kind, enterReleasing_recordAt kind stands, lingers]

/-- R17, R18: one with nothing left to run retires at its entry to RELEASING. -/
theorem evaluate_of_spent (stands : s.recordAt i = some r) (kind : r.kind ≠ .kneel) (active : r.state = .active)
    (leaves : releasable s i r = true) (spent : (r.release s.now).spent = true) (forced : List Slot) (n : Nat) :
    (evaluate forced (n + 1) i s).FreeAt i := by
  have retired := freeSlot_freeAt_self i (r.release s.now) (enterReleasing i r s)
  simp only [evaluate, stands, active, leaves, if_true, kind, if_false, enterReleasing_recordAt kind stands, spent]
  exact foldl_rel (fun x y : State => x.FreeAt i → y.FreeAt i) (fun _ => id) (fun h k => k ∘ h) _
    (fun _ j => evaluate_freeAt forced n j) _ _ retired

theorem Record.release_eq_released (now : Nat) (r : Record) : r.release now = r.released now := by
  rcases Nat.eq_zero_or_pos r.delay with none | runs
  · simp [Record.release, Record.released, none]
  · simp [Record.release, Record.released, runs, Nat.ne_of_gt runs, stepPeriod]

theorem Record.release_spent_eq_false (lingers : r.Lingers) (now : Nat) : (r.release now).spent = false := by
  rcases lingers with delay | ⟨steer, swing⟩
  · have runs : r.delay ≠ 0 := by omega
    simp [Record.spent, Record.release, runs]
  · have left : r.swing.getD 0 ≠ 0 := by omega
    simp [Record.spent, Record.release, left, steer]

theorem Record.release_spent (kind : r.kind ≠ .kneel) (delay : r.delay = 0) (steer : r.steer = none) (now : Nat) :
    (r.release now).spent = true := by
  simp [Record.spent, Record.release, delay, steer, kind]

/-! ### Finding a record (R6) -/

/-- R6: what is found is a record of that kind and owner. -/
theorem find_kind {k : Kind} {o : Owner} (found : s.find k o = some i) (stands : s.recordAt i = some r) : r.kind = k := by
  have matched := List.find?_some found
  simp only [stands, Bool.and_eq_true, beq_iff_eq] at matched
  exact matched.1

/-- R1: where the owner's class has a FREE slot, a slot of it is found. -/
theorem freeSlotFor_eq_some {o : Owner} (classed : slotOfClass o i = true) (free : s.recordAt i = none) :
    ∃ j, freeSlotFor s o = some j := by
  refine Option.isSome_iff_exists.1 (List.find?_isSome.2 ⟨i, List.mem_finRange i, ?_⟩)
  simp [classed, free]

/-! ### An internal owner's placement (R6, R7, R27) -/

section Placement

variable {k : Kind} {o : Owner}

/-- The record that an internal owner's placement without a scope of its own creates (R7, R27). -/
def State.rowRecord (s : State) (k : Kind) (o : Owner) : Record := newRecord s { kind := k, owner := o } none 1

theorem rowRecord_fromRow (kind : k ≠ .kneel) (immediate : k.trigger = .immediate) :
    (s.rowRecord k o).FromRow k o (s.profile k) ∧ (s.rowRecord k o).scope = (s.profile k).scope := by
  simp [State.rowRecord, newRecord, Record.FromRow, immediate, takeNat, placedScope, kind]

theorem rowRecord_conds {c : Cond} (lists : ProfileCond.fixed c ∈ (s.profile k).conds) : c ∈ (s.rowRecord k o).conds :=
  List.mem_filterMap.2 ⟨_, lists, rfl⟩

/-- R27: for any kind but SUPERVISION_LOST an internal placement is the placement of a record from its row. -/
theorem placeInternal_state (kind : k ≠ .supervisionLost) :
    placeInternal k o none s = (placeRecord { kind := k, owner := o } s).state := by
  unfold placeInternal
  dsimp only
  split
  · exact absurd rfl kind
  · exact absurd rfl kind
  · rfl

/-- R5: a placement that supplies no value passes the checks of its values. -/
theorem suppliedOk_nothing (row : Profile) : suppliedOk row {} = true := rfl

/-- R7: no record of the kind lives and a slot is FREE. -/
theorem placeInternal_new (permitted : k.permits o = true) (kind : k ≠ .supervisionLost) (found : s.find k o = none)
    (free : freeSlotFor s o = some i) : placeInternal k o none s = createRecord i (s.rowRecord k o) s := by
  simp only [placeInternal_state kind, placeRecord, permitted, suppliedOk_nothing, Bool.not_true, Bool.false_eq_true, if_false, found,
    placeNew, checkParent, free, State.rowRecord]

/-- R6: a record of the kind and owner lives. -/
theorem placeInternal_again (permitted : k.permits o = true) (kind : k ≠ .supervisionLost) (found : s.find k o = some i)
    (stands : s.recordAt i = some r) : placeInternal k o none s = (placeAgain i r s).state := by
  simp only [placeInternal_state kind, placeRecord, permitted, suppliedOk_nothing, Bool.not_true, Bool.false_eq_true, if_false, found,
    stands]

/-- R7: a created record that waits for its owner stands as it was made. -/
theorem createRecord_of_waits (kind : r.kind ≠ .kneel) (alone : r.parent = none) (active : r.state = .active)
    (lists : Cond.ownerRelease ∈ r.conds) (waits : r.ownerRelease = false) :
    createRecord i r s = formEnvelope (putRecord i r s) := by
  have made : (formEnvelope (putRecord i r s)).recordAt i = some r := by simp
  simp only [createRecord, alone, kneelChanged, kind, if_false]
  exact evaluate_of_waits made active lists waits [] 64

/-- R6, R19: a return to ACTIVE. -/
theorem returnActive_recordAt (stands : s.recordAt i = some r) : (returnActive i s).recordAt i = some r.returned := by
  have formed := formEnvelope_recordAt i (changeRecord i Record.reactivate s)
  rw [changeRecord_recordAt_self, stands] at formed
  exact formed

theorem returnActive_envelopeLaw (i : Slot) (s : State) : (returnActive i s).EnvelopeLaw :=
  formEnvelope_envelopeLaw (changeRecord i Record.reactivate s)

/-- R6: a revived record that waits for its owner is ACTIVE again. -/
theorem reviveRecord_of_waits (stands : s.recordAt i = some r) (kind : k ≠ .kneel) (lists : Cond.ownerRelease ∈ r.conds) :
    (reviveRecord i k s).recordAt i = some { r.returned with ownerRelease := false } ∧ (reviveRecord i k s).EnvelopeLaw := by
  have untold : (changeRecord i (fun q => { q with ownerRelease := false }) s).recordAt i = some { r with ownerRelease := false } := by
    simp [stands]
  have back := returnActive_recordAt untold
  have stays : reviveRecord i k s = returnActive i (changeRecord i (fun q => { q with ownerRelease := false }) s) := by
    simp only [reviveRecord, kneelChanged, kind, if_false]
    exact evaluate_of_waits back rfl lists rfl [] 64
  rw [stays]
  exact ⟨back, returnActive_envelopeLaw i _⟩

end Placement

/-! ### An internal owner's withdrawal (R13, R17, R21, R27) -/

section Withdrawal

variable {k : Kind} {o : Owner}

/-- A withdrawal that meets no record does nothing. -/
theorem withdraw_of_none (found : s.find k o = none) : withdraw k o s = s := by simp [withdraw, found]

/-- Nor does one that meets a record withdrawn before, or one in RELEASING. -/
theorem withdraw_of_already (found : s.find k o = some i) (stands : s.recordAt i = some r) (notArmed : r.state ≠ .armed)
    (already : r.state ≠ .active ∨ r.ownerRelease = true) : withdraw k o s = s := by
  cases state : r.state with
  | armed => exact absurd state notArmed
  | releasing => simp [withdraw, found, ownerRetire, stands, state]
  | active =>
    have told : r.ownerRelease = true := already.resolve_left (not_not_intro state)
    simp [withdraw, found, ownerRetire, stands, state, told]

/-- A record that has been told of its owner's release (R21). -/
def Record.told (r : Record) : Record := { r with ownerRelease := true }

/-- R21: the first withdrawal of an ACTIVE record tells it of its owner's release and evaluates it. -/
theorem withdraw_of_active (found : s.find k o = some i) (stands : s.recordAt i = some r) (active : r.state = .active)
    (waits : r.ownerRelease = false) : withdraw k o s = evalRecord i (changeRecord i Record.told s) := by
  simp only [withdraw, found, ownerRetire, stands, active, waits]
  rfl

theorem changeRecord_told_recordAt (stands : s.recordAt i = some r) :
    (changeRecord i Record.told s).recordAt i = some r.told := by
  simp [stands]

/-- What R12 asks of a record just told by its owner: it lists OWNER_RELEASE alone and has no child. -/
theorem releasable_changeRecord_told (lists : r.conds = [.ownerRelease]) (childless : s.hasChild i = false) :
    releasable (changeRecord i Record.told s) i r.told = true :=
  releasable_of_told lists rfl ((changeRecord_hasChild (f := Record.told) (fun _ => rfl) i i s).trans childless)

/-- R13, R17, R18: a withdrawal that leaves nothing to run frees the slot. -/
theorem withdraw_of_goesAtOnce (found : s.find k o = some i) (stands : s.recordAt i = some r) (kind : k ≠ .kneel)
    (goes : s.GoesAtOnce i r) : (withdraw k o s).FreeAt i := by
  obtain ⟨active, waits, lists, delay, steer, childless⟩ := goes
  have notKneel : r.told.kind ≠ .kneel := find_kind found stands ▸ kind
  rw [withdraw_of_active found stands active waits]
  exact evaluate_of_spent (changeRecord_told_recordAt stands) notKneel active (releasable_changeRecord_told lists childless)
    (Record.release_spent notKneel delay steer s.now) [] 64

/-- R13: any other leaves the record in RELEASING. -/
theorem withdraw_of_lingers (found : s.find k o = some i) (stands : s.recordAt i = some r) (kind : k ≠ .kneel)
    (active : r.state = .active) (waits : r.ownerRelease = false) (lists : r.conds = [.ownerRelease]) (lingers : r.Lingers)
    (childless : s.hasChild i = false) :
    (withdraw k o s).recordAt i = some (r.told.released s.now) ∧ (withdraw k o s).EnvelopeLaw := by
  have notKneel : r.told.kind ≠ .kneel := find_kind found stands ▸ kind
  have told := changeRecord_told_recordAt stands
  have leaves : withdraw k o s = enterReleasing i r.told (changeRecord i Record.told s) :=
    (withdraw_of_active found stands active waits).trans
      (evaluate_of_lingers told notKneel active (releasable_changeRecord_told lists childless)
        (Record.release_spent_eq_false lingers s.now) [] 64)
  rw [leaves, enterReleasing_recordAt notKneel told, Record.release_eq_released]
  exact ⟨rfl, noticeRising_envelopeLaw i _ (formEnvelope_envelopeLaw _)⟩

end Withdrawal

end Sys2Proof.Machine
end

section
/-! PROOFS. Chapter 07's JS cycle (O43): R125 to R134 as rules of the controller's functions, the programs of its valves, and the cycle
they make. -/

namespace Sys2Proof.Machine

variable {s : State}

/-! ### Joint state and target (R127, R131, R132) -/

theorem limitCondition_eq_true_iff {b : Band} {v : Nat} {theta rate : Int} :
    limitCondition b v theta rate = true ↔ 50 ≤ v ∧ (b.limit ≤ theta.natAbs ∨ b.omega ≤ rate.natAbs) := by
  simp [limitCondition]

/-- R127's rows for NORMAL and WATCH: the limit condition goes before the warning angle. -/
theorem jointNext_of_ne_limit {x : JointState} (other : x ≠ .limit) (b : Band) (v : Nat) (theta rate : Int) (clear : Nat) :
    jointNext b v theta rate x clear =
      if limitCondition b v theta rate then (.limit, 0)
      else (if b.warnUsed ≤ theta.natAbs then .watch else .normal, clear) := by
  by_cases warned : b.warnUsed ≤ theta.natAbs
  · have large : ¬ theta.natAbs < b.warnUsed := by omega
    cases x with
    | limit => exact absurd rfl other
    | normal => simp [jointNext, warned]
    | watch => simp [jointNext, warned, large]
  · have small : theta.natAbs < b.warnUsed := by omega
    cases x with
    | limit => exact absurd rfl other
    | normal => simp [jointNext, warned]
    | watch => simp [jointNext, warned, small]

theorem clamp_le {x a b : Int} (ordered : a ≤ b) : clamp x a b ≤ b := by
  unfold clamp
  split
  · exact ordered
  · split <;> omega

/-- R131: the target stays inside the bound. -/
theorem steerTarget_le {bound : Int} (nonneg : 0 ≤ bound) (gain : Nat) (theta : Int) : steerTarget gain theta bound ≤ bound := by
  unfold steerTarget
  split
  · exact nonneg
  · exact clamp_le (by omega)

/-- R132: the command reaches a target within 4 of it, and else moves by 4 toward it. -/
theorem followTarget_near {command target : Int} (near : (target - command).natAbs ≤ 4) : followTarget command target = target := by
  unfold followTarget
  split
  · omega
  · split <;> omega

theorem followTarget_up {command target : Int} (above : command + 4 < target) : followTarget command target = command + 4 := by
  unfold followTarget
  rw [if_pos (by omega)]
  omega

theorem followTarget_down {command target : Int} (below : target < command - 4) : followTarget command target = command - 4 := by
  unfold followTarget
  rw [if_neg (by omega), if_pos (by omega)]
  omega

/-- R132: the command moves by 4 at most, and one that rises does not pass the target. -/
theorem followTarget_moves (command target : Int) : (followTarget command target - command).natAbs ≤ 4 ∧
    (command < followTarget command target → followTarget command target ≤ target) := by
  rcases Nat.lt_or_ge 4 (target - command).natAbs with far | near
  · rcases lt_or_ge command target with above | below
    · rw [followTarget_up (by omega)]
      omega
    · rw [followTarget_down (by omega)]
      omega
  · rw [followTarget_near near]
    omega

/-! ### The programs of the joint's valves (R67, R70 to R73, R129, R133) -/

theorem Program.inRange_duty (d : Nat) : (Program.duty d).inRange = if d = 0 then .idle else .duty (min 100 d) := by
  rw [Nat.min_comm]
  rfl

theorem Generator.start_prog (now : Nat) (p : Program) (g : Generator) : (g.start now p).prog = p := by
  cases p <;> rfl

theorem Generator.begin_prog (now : Nat) (partner : Option Nat) (p : Program) (g : Generator) : (g.begin now partner p).prog = p := by
  unfold Generator.begin
  split
  · split
    · rfl
    · exact Generator.start_prog now p g
  · exact Generator.start_prog now p g

/-- R67, R72: a duty that opens a member leaves its partner IDLE. -/
theorem Pair.hand_duty_prog {d : Nat} (opens : d ≠ 0) (fits : d ≤ 100) (now : Nat) (side : Side) (p : Pair) :
    ((p.hand now side (.duty d)).at side).prog = .duty d ∧ ((p.hand now side (.duty d)).at side.other).prog = .idle := by
  have ranged : (Program.duty d).inRange = .duty d := by rw [Program.inRange_duty, if_neg opens, Nat.min_eq_right fits]
  unfold Pair.hand
  rw [ranged]
  cases side with
  | first => exact ⟨Generator.begin_prog _ _ _ _, rfl⟩
  | second => exact ⟨Generator.begin_prog _ _ _ _, rfl⟩

/-- The rear-steer pair after R133's programs, the lock and the error being given. -/
def Pair.steered (now : Nat) (engaged : Bool) (e : Int) (p : Pair) : Pair :=
  if engaged then (p.hand now .first .idle).hand now .second .idle
  else if 2 < e then p.hand now .first (.duty (min 100 (e.natAbs * 8)))
  else if e < -2 then p.hand now .second (.duty (min 100 (e.natAbs * 8)))
  else (p.hand now .first .idle).hand now .second .idle

theorem Pair.steered_still {engaged : Bool} {e : Int} (still : engaged = true ∨ (-2 ≤ e ∧ e ≤ 2)) (now : Nat) (p : Pair) :
    (p.steered now engaged e).first.prog = .idle ∧ (p.steered now engaged e).second.prog = .idle := by
  have idle : p.steered now engaged e = (p.hand now .first .idle).hand now .second .idle := by
    unfold Pair.steered
    rcases still with lock | ⟨low, high⟩
    · exact if_pos lock
    · rw [if_neg (by omega : ¬ 2 < e), if_neg (by omega : ¬ e < -2), ite_self]
  rw [idle]
  exact ⟨rfl, rfl⟩

theorem Pair.steered_kerbward {e : Int} (kerb : 2 < e) (now : Nat) (p : Pair) :
    (p.steered now false e).first.prog = .duty (min 100 (e.natAbs * 8)) ∧ (p.steered now false e).second.prog = .idle := by
  have handed : p.steered now false e = p.hand now .first (.duty (min 100 (e.natAbs * 8))) := if_pos kerb
  rw [handed]
  exact Pair.hand_duty_prog (by omega) (by omega) now .first p

theorem Pair.steered_offward {e : Int} (off : e < -2) (now : Nat) (p : Pair) :
    (p.steered now false e).second.prog = .duty (min 100 (e.natAbs * 8)) ∧ (p.steered now false e).first.prog = .idle := by
  have handed : p.steered now false e = p.hand now .second (.duty (min 100 (e.natAbs * 8))) :=
    (if_neg (by omega : ¬ 2 < e)).trans (if_pos off)
  rw [handed]
  exact Pair.hand_duty_prog (by omega) (by omega) now .second p

theorem steerValves_eq (live : s.inReset .joint = false) (engaged : Bool) (e : Int) :
    steerValves engaged e s = { s with valves := { s.valves with steer := s.valves.steer.steered s.now engaged e } } := by
  have one (side : Side) (p : Program) {u : State} (h : u.inReset .joint = false) :
      handSteer side p u = { u with valves := { u.valves with steer := u.valves.steer.hand u.now side p } } := by
    simp [handSteer, h]
  have still : handSteer .second .idle (handSteer .first .idle s) =
      { s with valves := { s.valves with steer := (s.valves.steer.hand s.now .first .idle).hand s.now .second .idle } } := by
    rw [one .first .idle live, one .second .idle (by exact live)]
  unfold steerValves Pair.steered
  split
  · exact still
  · split
    · exact one .first _ live
    · split
      · exact one .second _ live
      · exact still

theorem handDamping_eq (live : s.inReset .joint = false) (p : Program) :
    handDamping p s = { s with valves := { s.valves with damping := s.valves.damping.handAlone s.now p } } := by
  simp [handDamping, live]

/-! ### The cycle as one state -/

/-- The cycle timer's expiry, before the cycle's work. -/
def State.jointBegun (s : State) : State :=
  let x := atLeast s.js.cycleAt s
  { x with js := { x.js with cycleAt := x.now + cyclePeriod } }

/-- The controller's record after a cycle from the values taken at its start (R125 to R134). -/
def State.jointAfter (s : State) : JointController :=
  jointCycle s.hl.params.bands s.mc.speed s.mc.joint s.mc.actuator s.eu.env.steer s.eu.env.damping s.js

/-- The stages are done, and JOINT_LIMIT does not follow yet. -/
def State.jointFormed (s : State) : State := { s with js := s.jointAfter }

/-- JOINT_LIMIT has followed the joint state (R128). -/
def State.jointRecorded (s : State) : State := jointRecord s.js.state s.jointAfter.state s.jointFormed

/-- After a whole cycle (R124): the valves have their programs (R129, R133). -/
def State.jointWorked (s : State) : State :=
  { s.jointRecorded with valves := { s.jointRecorded.valves with
      steer := s.jointRecorded.valves.steer.steered s.jointRecorded.now s.jointAfter.engaged s.jointAfter.error
      damping := s.jointRecorded.valves.damping.handAlone s.jointRecorded.now (.duty (s.jointAfter.damping * 14)) } }

theorem jointRecord_table (old new : JointState) (s : State) : TableOnly s (jointRecord old new s) := by
  unfold jointRecord
  split
  · exact (placeInternal_table .jointLimit .joint none s (by decide)).trans (setFlag_table .joint _)
  · split
    · exact withdraw_table .jointLimit .joint s
    · exact .refl s

theorem jointRecorded_table (s : State) : TableOnly s.jointFormed s.jointRecorded := jointRecord_table _ _ _

theorem jointWork_eq (live : s.inReset .joint = false) : jointWork s = s.jointWorked := by
  have kept : s.jointRecorded.inReset .joint = false := ((jointRecorded_table s).inReset .joint).trans live
  have worked : jointWork s = steerValves s.jointAfter.engaged s.jointAfter.error
      (handDamping (.duty (s.jointAfter.damping * 14)) s.jointRecorded) := rfl
  rw [worked, handDamping_eq kept, steerValves_eq (by exact kept)]
  rfl

/-- R124, R138: a JS cycle of a part that is not held in reset. -/
theorem exec_jsCycle (held : s.resetHeld = false) :
    exec .jsCycle s = .next (if s.inReset .joint then { s.jointBegun with js := { s.jointBegun.js with engaged := true } }
      else s.jointBegun.jointWorked) := by
  have unheld : exec .jsCycle s = .next (jointExpiry s) := by
    show running jointExpiry s = _
    simp [running, held]
  rw [unheld]
  cases live : s.inReset .joint with
  | true => exact congrArg Host.Outcome.next (if_pos live)
  | false =>
    have work := jointWork_eq (s := s.jointBegun) live
    exact congrArg Host.Outcome.next ((if_neg (ne_true_of_eq_false live)).trans work)

theorem jointWorked_js (s : State) : s.jointWorked.js = s.jointAfter := (jointRecorded_table s).js

/-! ### JOINT_LIMIT follows the joint state (R128) -/

theorem jointRecorded_of_iff (same : s.js.state = .limit ↔ s.jointAfter.state = .limit) : s.jointRecorded = s.jointFormed := by
  unfold State.jointRecorded jointRecord
  rw [if_neg (by tauto), if_neg (by tauto)]

theorem jointRecorded_of_entry (was : s.js.state ≠ .limit) (is : s.jointAfter.state = .limit) :
    s.jointRecorded = setFlag .joint (placeInternal .jointLimit .joint none s.jointFormed) := if_pos ⟨is, was⟩

theorem jointRecorded_of_leaving (was : s.js.state = .limit) (is : s.jointAfter.state ≠ .limit) :
    s.jointRecorded = withdraw .jointLimit .joint s.jointFormed :=
  (if_neg fun entry => is entry.1).trans (if_pos ⟨was, is⟩)

theorem jointRecorded_unmoved (same : s.js.state = .limit ↔ s.jointAfter.state = .limit) :
    s.jointRecorded.rt = s.rt ∧ s.jointRecorded.eu = s.eu ∧ s.jointRecorded.lc = s.lc ∧ s.jointRecorded.hl = s.hl := by
  rw [jointRecorded_of_iff same]
  exact ⟨rfl, rfl, rfl, rfl⟩

theorem jointRecorded_flag (was : s.js.state ≠ .limit) (is : s.jointAfter.state = .limit) : s.jointRecorded.flag .joint = true := by
  rw [jointRecorded_of_entry was is, setFlag_flag]
  rfl

theorem jointRecorded_absent (was : s.js.state = .limit) (is : s.jointAfter.state ≠ .limit) (found : s.find .jointLimit .joint = none) :
    s.jointRecorded.rt = s.rt := by
  rw [jointRecorded_of_leaving was is, withdraw_of_none (s := s.jointFormed) found]
  rfl

/-- R128: at an entry of LIMIT the record is placed from its row. -/
theorem jointRecorded_placed (was : s.js.state ≠ .limit) (is : s.jointAfter.state = .limit) (found : s.find .jointLimit .joint = none)
    (room : ∃ i : Slot, 24 ≤ i.val ∧ s.recordAt i = none)
    (lists : ProfileCond.fixed .ownerRelease ∈ (s.profile .jointLimit).conds) :
    ∃ i r, s.jointRecorded.recordAt i = some r ∧ r.FromRow .jointLimit .joint (s.profile .jointLimit) ∧
      r.scope = (s.profile .jointLimit).scope ∧ s.jointRecorded.EnvelopeLaw := by
  obtain ⟨j, high, free⟩ := room
  obtain ⟨i, slot⟩ := freeSlotFor_eq_some (s := s.jointFormed) (o := .joint) (decide_eq_true high) free
  obtain ⟨fromRow, scope⟩ := rowRecord_fromRow (s := s.jointFormed) (k := .jointLimit) (o := .joint) (by decide) rfl
  have waits := rowRecord_conds (s := s.jointFormed) (o := .joint) lists
  obtain ⟨kind, -, active, alone, -, untold, -⟩ := id fromRow
  have created : s.jointRecorded =
      setFlag .joint (formEnvelope (putRecord i (s.jointFormed.rowRecord .jointLimit .joint) s.jointFormed)) := by
    rw [jointRecorded_of_entry was is, placeInternal_new (s := s.jointFormed) rfl (by decide) found slot,
      createRecord_of_waits (by rw [kind]; decide) alone active waits untold]
  rw [created]
  exact ⟨i, _, (formEnvelope_recordAt i _).trans (putRecord_recordAt_self _ i _), fromRow, scope, formEnvelope_envelopeLaw _⟩

/-- R128, R6: at an entry of LIMIT a record in RELEASING is revived, and any other is left. -/
theorem jointRecorded_again (was : s.js.state ≠ .limit) (is : s.jointAfter.state = .limit) {i : Slot} {r : Record}
    (found : s.find .jointLimit .joint = some i) (stands : s.recordAt i = some r) :
    (r.state = .releasing → Cond.ownerRelease ∈ r.conds →
      s.jointRecorded.recordAt i = some { r.returned with ownerRelease := false } ∧ s.jointRecorded.EnvelopeLaw) ∧
    (r.state ≠ .releasing → s.jointRecorded.rt = s.rt) := by
  have kind : r.kind ≠ .kneel := by
    rw [find_kind found stands]
    decide
  have again : s.jointRecorded = setFlag .joint (placeAgain i r s.jointFormed).state := by
    rw [jointRecorded_of_entry was is, placeInternal_again (s := s.jointFormed) rfl (by decide) found stands]
  rw [again]
  cases state : r.state with
  | releasing =>
    refine ⟨fun _ lists => ?_, fun other => absurd rfl other⟩
    have revived := reviveRecord_of_waits (s := s.jointFormed) stands kind lists
    rw [placeAgain, state]
    exact revived
  | armed =>
    refine ⟨nofun, fun _ => ?_⟩
    rw [placeAgain, state]
    rfl
  | active =>
    refine ⟨nofun, fun _ => ?_⟩
    rw [placeAgain, state]
    rfl

/-- R128, R27: at a leaving of LIMIT the record is withdrawn. -/
theorem jointRecorded_withdrawn (was : s.js.state = .limit) (is : s.jointAfter.state ≠ .limit) {i : Slot} {r : Record}
    (found : s.find .jointLimit .joint = some i) (stands : s.recordAt i = some r) :
    (r.state ≠ .active ∨ r.ownerRelease = true → r.state ≠ .armed → s.jointRecorded.rt = s.rt) ∧
    (s.GoesAtOnce i r → s.jointRecorded.recordAt i = none ∧ s.jointRecorded.EnvelopeLaw) ∧
    (r.state = .active → r.ownerRelease = false → r.conds = [.ownerRelease] → r.Lingers → s.hasChild i = false →
      s.jointRecorded.recordAt i = some ({ r with ownerRelease := true }.released s.now) ∧ s.jointRecorded.EnvelopeLaw) := by
  rw [jointRecorded_of_leaving was is]
  refine ⟨fun already notArmed => ?_, fun goes => ?_, fun active waits lists lingers childless => ?_⟩
  · rw [withdraw_of_already (s := s.jointFormed) found stands notArmed already]
    rfl
  · exact withdraw_of_goesAtOnce (s := s.jointFormed) found stands (by decide) goes
  · exact withdraw_of_lingers (s := s.jointFormed) found stands (by decide) active waits lists lingers childless

/-! ### The controller's record after a cycle (R125 to R134) -/

/-- The row of the speed band of a cycle (R125). -/
def State.bandRow (s : State) : Band := s.hl.params.bands[(bandOf s.mc.speed).val]

/-- R130, R131, R134: with an angle not usable the steer is locked. -/
theorem jointAfter_locked (unusable : s.mc.joint.usable = false ∨ s.mc.actuator.usable = false) :
    s.jointAfter.locked = true ∧ s.jointAfter.target = 0 ∧ s.jointAfter.command = 0 ∧ s.jointAfter.engaged = true := by
  have locked : (!s.mc.joint.usable || !s.mc.actuator.usable) = true := by simpa using unusable
  simp [State.jointAfter, jointCycle, locked, lockEngages]

/-- R126, R127, R129: without θ. -/
theorem jointAfter_unusable (unusable : s.mc.joint.usable = false) :
    s.jointAfter.damping = 7 ∧ s.jointAfter.state = s.js.state ∧ s.jointAfter.clear = 0 ∧ s.jointAfter.previous = none ∧
      s.jointAfter.rate = 0 := by
  simp [State.jointAfter, jointCycle, unusable, dampingLevel]

/-- R126, R127, R129: with θ. -/
theorem jointAfter_usable (usable : s.mc.joint.usable = true) :
    s.jointAfter.previous = some s.mc.joint.count ∧
    s.jointAfter.rate = (match s.js.previous with | some was => s.mc.joint.count - was | none => 0) ∧
    s.jointAfter.damping = max s.eu.env.damping
      (match s.jointAfter.state with
        | .normal => s.bandRow.damping | .watch => min 7 (s.bandRow.damping + 2) | .limit => 7) ∧
    (s.jointAfter.state, s.jointAfter.clear) =
      jointNext s.bandRow s.mc.speed s.mc.joint.count s.jointAfter.rate s.js.state s.js.clear :=
  ⟨if_pos usable, if_pos usable, if_neg (by simp [usable]), if_pos usable⟩

/-- R127: a cycle that does not find the joint in LIMIT. -/
theorem jointAfter_outside (usable : s.mc.joint.usable = true) (was : s.js.state ≠ .limit) :
    (s.jointAfter.state = .limit ↔ 50 ≤ s.mc.speed ∧
      (s.bandRow.limit ≤ s.mc.joint.count.natAbs ∨ s.bandRow.omega ≤ s.jointAfter.rate.natAbs)) ∧
    (s.jointAfter.state = .limit → s.jointAfter.clear = 0) ∧
    (s.jointAfter.state ≠ .limit → s.jointAfter.clear = s.js.clear ∧
      s.jointAfter.state = if min s.bandRow.warn s.bandRow.limit ≤ s.mc.joint.count.natAbs then .watch else .normal) := by
  obtain ⟨-, -, -, next⟩ := jointAfter_usable usable
  rw [jointNext_of_ne_limit was] at next
  have condition := limitCondition_eq_true_iff (b := s.bandRow) (v := s.mc.speed) (theta := s.mc.joint.count)
    (rate := s.jointAfter.rate)
  rw [← condition]
  by_cases met : limitCondition s.bandRow s.mc.speed s.mc.joint.count s.jointAfter.rate = true
  · rw [if_pos met] at next
    obtain ⟨state, clear⟩ := Prod.mk.inj next
    exact ⟨iff_of_true state met, fun _ => clear, fun other => absurd state other⟩
  · rw [if_neg met] at next
    obtain ⟨state, clear⟩ := Prod.mk.inj next
    have not_limit : s.jointAfter.state ≠ .limit := by
      rw [state]
      split <;> decide
    exact ⟨iff_of_false not_limit met, fun limit => absurd limit not_limit, fun _ => ⟨clear, state⟩⟩

/-- R127: a cycle that finds the joint in LIMIT. -/
theorem jointAfter_inside (usable : s.mc.joint.usable = true) (was : s.js.state = .limit) :
    (min s.bandRow.warn s.bandRow.limit ≤ s.mc.joint.count.natAbs → s.jointAfter.state = .limit ∧ s.jointAfter.clear = 0) ∧
    (s.mc.joint.count.natAbs < min s.bandRow.warn s.bandRow.limit → s.js.clear < 99 →
      s.jointAfter.state = .limit ∧ s.jointAfter.clear = s.js.clear + 1) ∧
    (s.mc.joint.count.natAbs < min s.bandRow.warn s.bandRow.limit → 99 ≤ s.js.clear →
      s.jointAfter.state = .normal ∧ s.jointAfter.clear = 0) := by
  obtain ⟨-, -, -, next⟩ := jointAfter_usable usable
  rw [was] at next
  refine ⟨fun wide => ?_, fun small early => ?_, fun small late => ?_⟩
  · exact Prod.mk.inj (next.trans (if_neg (Nat.not_lt.2 wide)))
  · exact Prod.mk.inj (next.trans ((if_pos small).trans (if_neg (by omega))))
  · exact Prod.mk.inj (next.trans ((if_pos small).trans (if_pos (by omega))))

/-- R130 to R134: with both angles. -/
theorem jointAfter_steers (joint : s.mc.joint.usable = true) (actuator : s.mc.actuator.usable = true) :
    s.jointAfter.locked = false ∧
    s.jointAfter.target = steerTarget s.bandRow.gain s.mc.joint.count (min 140 s.eu.env.steer : Nat) ∧
    s.jointAfter.command = followTarget s.js.command s.jointAfter.target ∧
    (s.jointAfter.engaged = true ↔ s.bandRow.gain = 0 ∧ s.jointAfter.target = 0 ∧ s.jointAfter.command = 0) ∧
    (s.jointAfter.engaged = false → s.jointAfter.error = s.jointAfter.command - s.mc.actuator.count) := by
  have locked : s.jointAfter.locked = false := by simp [State.jointAfter, jointCycle, joint, actuator]
  have free : ¬ s.jointAfter.locked = true := ne_true_of_eq_false locked
  have lock : s.jointAfter.engaged = lockEngages s.jointAfter.locked s.bandRow.gain s.jointAfter.target s.jointAfter.command := rfl
  have target : s.jointAfter.target = steerTarget s.bandRow.gain s.mc.joint.count (min 140 (s.eu.env.steer : Int)) := if_neg free
  refine ⟨locked, ?_, if_neg free, ?_, fun unlocked => if_neg (ne_true_of_eq_false unlocked)⟩
  · rw [target, Nat.cast_min]
    rfl
  · rw [lock, locked]
    simp [lockEngages, and_assoc]

/-- R132's law of the command, with both angles. -/
theorem jointAfter_command (joint : s.mc.joint.usable = true) (actuator : s.mc.actuator.usable = true) :
    (s.jointAfter.command - s.js.command).natAbs ≤ 4 ∧
    (s.js.command < s.jointAfter.command → s.jointAfter.command ≤ s.eu.env.steer) ∧
    ((s.jointAfter.target - s.js.command).natAbs ≤ 4 → s.jointAfter.command = s.jointAfter.target) ∧
    (s.js.command + 4 < s.jointAfter.target → s.jointAfter.command = s.js.command + 4) ∧
    (s.jointAfter.target < s.js.command - 4 → s.jointAfter.command = s.js.command - 4) := by
  obtain ⟨-, target, command, -⟩ := jointAfter_steers joint actuator
  have inside : s.jointAfter.target ≤ (min 140 s.eu.env.steer : Nat) := by
    rw [target]
    exact steerTarget_le (Int.natCast_nonneg _) _ _
  obtain ⟨step, rise⟩ := followTarget_moves s.js.command s.jointAfter.target
  rw [command]
  refine ⟨step, fun rises => ?_, followTarget_near, followTarget_up, followTarget_down⟩
  have reached := rise rises
  omega

/-! ### The cycle -/

theorem jointWorked_damping_prog (s : State) : (s.jointWorked.gen .damping).prog =
    if s.jointAfter.damping = 0 then .idle else .duty (min 100 (s.jointAfter.damping * 14)) := by
  have handed : (s.jointWorked.gen .damping).prog = (Program.duty (s.jointAfter.damping * 14)).inRange := Generator.start_prog _ _ _
  rw [handed, Program.inRange_duty]
  simp

/-- R133: with the lock engaged or an error of 2 at most both valves are IDLE. -/
theorem jointWorked_still (still : s.jointAfter.engaged = true ∨ (-2 ≤ s.jointAfter.error ∧ s.jointAfter.error ≤ 2)) :
    (s.jointWorked.gen .kerbward).prog = .idle ∧ (s.jointWorked.gen .offward).prog = .idle :=
  Pair.steered_still still _ _

/-- R133: with the lock open the valves follow the error. -/
theorem jointWorked_steers (unlocked : s.jointAfter.engaged = false) :
    (2 < s.jointAfter.error → (s.jointWorked.gen .kerbward).prog = .duty (min 100 (s.jointAfter.error.natAbs * 8)) ∧
      (s.jointWorked.gen .offward).prog = .idle) ∧
    (s.jointAfter.error < -2 → (s.jointWorked.gen .offward).prog = .duty (min 100 (s.jointAfter.error.natAbs * 8)) ∧
      (s.jointWorked.gen .kerbward).prog = .idle) ∧
    (-2 ≤ s.jointAfter.error → s.jointAfter.error ≤ 2 →
      (s.jointWorked.gen .kerbward).prog = .idle ∧ (s.jointWorked.gen .offward).prog = .idle) := by
  have pair : s.jointWorked.valves.steer =
      s.jointRecorded.valves.steer.steered s.jointRecorded.now false s.jointAfter.error := by rw [← unlocked]; rfl
  simp only [State.gen, Valves.gen, pair]
  exact ⟨fun kerb => Pair.steered_kerbward kerb _ _, fun off => Pair.steered_offward off _ _,
    fun low high => Pair.steered_still (.inr ⟨low, high⟩) _ _⟩

/-- Settles O43: the cycle is `jointWorked` of the state its timer's expiry begins, and the rules above say what each part of it is. -/
theorem JointController.jointCycle : Obligations.JointCycle := by
  intro s held
  refine ⟨_, exec_jsCycle held, ?_⟩
  cases reset : s.inReset .joint with
  | true =>
    rw [if_pos rfl]
    exact ⟨rfl, rfl, rfl, rfl, rfl, rfl, fun _ => rfl, nofun⟩
  | false =>
    rw [if_neg Bool.false_ne_true]
    have kept := jointRecorded_table s.jointBegun
    have js := jointWorked_js s.jointBegun
    have now : s.jointBegun.jointWorked.now = s.jointBegun.now := kept.now
    refine ⟨by rw [js, now]; rfl, kept.sp, kept.mc, kept.bc, kept.dl, kept.dt, nofun, ?_⟩
    rintro - row rfl
    rw [js, now]
    refine ⟨jointRecorded_unmoved (s := s.jointBegun), fun is was => ⟨?_, ?_, ?_⟩, fun was is => ⟨?_, ?_⟩, fun unusable => ?_,
      jointAfter_unusable (s := s.jointBegun), jointWorked_damping_prog s.jointBegun, fun usable => ?_, fun joint actuator => ?_⟩
    · exact jointRecorded_flag (s := s.jointBegun) was is
    · exact jointRecorded_placed (s := s.jointBegun) was is
    · exact fun _ _ => jointRecorded_again (s := s.jointBegun) was is
    · exact jointRecorded_absent (s := s.jointBegun) was is
    · exact fun _ _ => jointRecorded_withdrawn (s := s.jointBegun) was is
    · obtain ⟨locked, target, command, engaged⟩ := jointAfter_locked (s := s.jointBegun) unusable
      exact ⟨locked, target, command, engaged, jointWorked_still (.inl engaged)⟩
    · obtain ⟨previous, rate, damping, -⟩ := jointAfter_usable (s := s.jointBegun) usable
      exact ⟨previous, rate, damping, jointAfter_outside (s := s.jointBegun) usable, jointAfter_inside (s := s.jointBegun) usable⟩
    · obtain ⟨locked, target, -, engaged, error⟩ := jointAfter_steers (s := s.jointBegun) joint actuator
      obtain ⟨step, rise, near, up, down⟩ := jointAfter_command (s := s.jointBegun) joint actuator
      exact ⟨locked, target, step, rise, near, up, down, engaged, fun unlocked => ⟨error unlocked, jointWorked_steers unlocked⟩,
        fun lock => jointWorked_still (.inl lock)⟩

end Sys2Proof.Machine
end

section
/-! PROOFS. The queue of a door line (O29; R146, R149): what `enqueue` makes of a queue, what `Line.queued` makes of a line. -/

namespace Sys2Proof.Machine

/-! ### The queue -/

/-- R146: with no command of its class queued, a command goes to the end. -/
theorem enqueue_absent {c : Command} {queue : List Command} (absent : ∀ x ∈ queue, x.class ≠ c.class) :
    enqueue c queue = queue ++ [c] := by
  induction queue with
  | nil => rfl
  | cons x xs ih =>
    obtain ⟨other, rest⟩ := List.forall_mem_cons.mp absent
    rw [enqueue, if_neg other, ih rest, List.cons_append]

/-- R146: a command takes the position of the first queued command of its class. -/
theorem enqueue_present {c x : Command} {pre : List Command} (before : ∀ y ∈ pre, y.class ≠ c.class) (same : x.class = c.class)
    (post : List Command) : enqueue c (pre ++ x :: post) = pre ++ c :: post := by
  induction pre with
  | nil => exact if_pos same
  | cons y ys ih =>
    obtain ⟨other, rest⟩ := List.forall_mem_cons.mp before
    rw [List.cons_append, enqueue, if_neg other, ih rest, List.cons_append]

/-- The classes of a queue stay as they are, or gain one at the end that was not among them. -/
theorem enqueue_classes (c : Command) (queue : List Command) :
    (enqueue c queue).map Command.class =
      if c.class ∈ queue.map Command.class then queue.map Command.class else queue.map Command.class ++ [c.class] := by
  induction queue with
  | nil => rfl
  | cons x xs ih =>
    by_cases same : x.class = c.class
    · simp [enqueue, same]
    · rw [enqueue, if_neg same, List.map_cons, ih]
      by_cases among : c.class ∈ xs.map Command.class <;> simp [among, Ne.symm same]

theorem enqueue_nodup (c : Command) {queue : List Command} (distinct : (queue.map Command.class).Nodup) :
    ((enqueue c queue).map Command.class).Nodup := by
  rw [enqueue_classes]
  split
  · exact distinct
  · next new => exact List.nodup_append_comm.mp (List.nodup_cons.mpr ⟨new, distinct⟩)

/-- Four classes, so a queue of distinct classes holds four commands at most. -/
theorem length_le_four_of_classes_nodup {queue : List Command} (distinct : (queue.map Command.class).Nodup) : queue.length ≤ 4 := by
  have all : queue.map Command.class ⊆ [.permission, .closure, .chime, .query] := fun x _ => by cases x <;> decide
  simpa using (List.subperm_of_subset distinct all).length_le

theorem replacesHead_absent {c : Command} {queue : List Command} (absent : ∀ x ∈ queue, x.class ≠ c.class) :
    replacesHead c queue = false := by
  cases queue with
  | nil => rfl
  | cons x xs => exact beq_eq_false_iff_ne.mpr (absent x List.mem_cons_self)

/-- A command whose place is known replaces the head exactly where nothing stands before that place. -/
theorem replacesHead_present {c x : Command} {pre : List Command} (before : ∀ y ∈ pre, y.class ≠ c.class) (same : x.class = c.class)
    (post : List Command) : replacesHead c (pre ++ x :: post) = decide (pre = []) := by
  cases pre with
  | nil => exact beq_iff_eq.mpr same
  | cons y ys => exact beq_eq_false_iff_ne.mpr (before y List.mem_cons_self)

/-! ### The line -/

/-- R149: what a send is told when the head of its queue is replaced. -/
def Send.headReplaced (x : Send) : Send := { x with fate := if x.fate = .alone then .replaced else x.fate }

/-- Queueing as one change of the line: only the attempt count and the send depend on whether the head is replaced. -/
theorem Line.queued_eq (c : Command) (l : Line) : l.queued c =
    { l with queue := enqueue c l.queue, attempts := if replacesHead c l.queue then 0 else l.attempts,
             send := if replacesHead c l.queue then l.send.map Send.headReplaced else l.send } := by
  have told : (fun x : Send => if x.fate = .alone then { x with fate := .replaced } else x) = Send.headReplaced := by
    funext x
    unfold Send.headReplaced
    split <;> rfl
  unfold Line.queued
  rw [told]
  split <;> rfl

theorem Line.queued_absent {c : Command} {l : Line} (absent : ∀ x ∈ l.queue, x.class ≠ c.class) :
    l.queued c = { l with queue := l.queue ++ [c] } := by
  simp [Line.queued_eq, enqueue_absent absent, replacesHead_absent absent]

theorem Line.queued_present {c x : Command} {l : Line} {pre post : List Command} (place : l.queue = pre ++ x :: post)
    (before : ∀ y ∈ pre, y.class ≠ c.class) (same : x.class = c.class) : l.queued c =
      { l with queue := pre ++ c :: post, attempts := if pre = [] then 0 else l.attempts,
               send := if pre = [] then l.send.map Send.headReplaced else l.send } := by
  simp [Line.queued_eq, place, enqueue_present before same, replacesHead_present before same]

/-- Settles O29: the place of a command in the queue decides the line, and the classes of a queue stay distinct. -/
theorem queueHoldsOnePerClass : Obligations.QueueHoldsOnePerClass := by
  rintro c l q rfl
  refine ⟨fun absent => ?_, fun pre x post place before same => ?_, fun distinct => ?_, ?_, rfl⟩
  · rw [Line.queued_absent absent]
    exact ⟨rfl, rfl, rfl⟩
  · rw [Line.queued_present place before same]
    exact ⟨rfl, rfl, rfl⟩
  · rw [Line.queued_eq]
    exact ⟨enqueue_nodup c distinct, length_le_four_of_classes_nodup (enqueue_nodup c distinct)⟩
  · rw [Line.queued_eq]

end Sys2Proof.Machine
end

section
/-! PROOFS. What a command can do to the part, said once (O2 and O52 to O58): every command takes the part from its state to the next by the
moves listed in `Moves`. The laws that every step keeps are then kept by each move, and no law walks through the commands again. -/

namespace Sys2Proof.Machine

/-! ### The laws on values, block by block -/

/-- The envelope's values stand in the ranges of section 2.1. -/
structure Envelope.InRange (e : Envelope) : Prop where
  floors  : ∀ a : Axle, e.floors[a.val] ≤ 800
  ceiling : e.ceiling ≤ 800
  steer   : e.steer ≤ 140
  offsets : ∀ c : Corner, -90 ≤ e.offsets[c.val] ∧ e.offsets[c.val] ≤ 0
  damping : e.damping ≤ 7

/-- A count within R58's bounds. -/
def AngleCounter.Bounded (x : AngleCounter) : Prop := -600 ≤ x.count ∧ x.count ≤ 600

/-- The speeds and angles of `RangeLaw`. -/
structure MotionCounters.SpeedsInRange (x : MotionCounters) : Prop where
  speed    : x.speed ≤ 1500
  wheels   : ∀ c : Corner, x.wheels[c.val].speed ≤ 1500
  joint    : x.joint.Bounded
  actuator : x.actuator.Bounded

/-- `RangeLaw` with its parts named. -/
structure State.Ranges (s : State) : Prop where
  records  : ∀ (i : Slot) (r : Record), s.recordAt i = some r → r.InRange
  profiles : ∀ k : Kind, (s.profile k).InRange
  env      : s.eu.env.InRange
  samples  : ∀ ch : Channel, (s.sample ch).value ≤ channelTop ch
  motion   : s.mc.SpeedsInRange

theorem rangeLaw_iff {s : State} : s.RangeLaw ↔ s.Ranges := by
  constructor
  · intro ⟨records, profiles, floors, ceiling, steer, offsets, damping, samples, speed, wheels, angles⟩
    exact ⟨records, profiles, ⟨floors, ceiling, steer, offsets, damping⟩, samples, ⟨speed, wheels, angles .joint, angles .actuator⟩⟩
  · intro ⟨records, profiles, ⟨floors, ceiling, steer, offsets, damping⟩, samples, ⟨speed, wheels, joint, actuator⟩⟩
    refine ⟨records, profiles, floors, ceiling, steer, offsets, damping, samples, speed, wheels, fun a => ?_⟩
    cases a
    · exact joint
    · exact actuator

/-- An angle counter's illegal transitions within R57's bounds. -/
def AngleCounter.Counted (x : AngleCounter) : Prop := x.illegal.length ≤ 15 ∧ x.illegalTotal ≤ 65535

/-- A wheel's buckets within R52's bounds. -/
def Wheel.Counted (w : Wheel) : Prop := w.bucket ≤ 255 ∧ ∀ k : Fin 4, w.closed[k.val] ≤ 255

/-- The counts of the Motion Counters in `CountLaw`. -/
structure MotionCounters.Counted (x : MotionCounters) : Prop where
  circ      : 1000 ≤ x.circ ∧ x.circ ≤ 4000
  teeth     : 20 ≤ x.teeth ∧ x.teeth ≤ 200
  remainder : x.remainder ≤ 199
  revs      : ∀ a : Axle, x.revs[a.val] ≤ 199
  wheels    : ∀ c : Corner, x.wheels[c.val].Counted
  joint     : x.joint.Counted
  actuator  : x.actuator.Counted

/-- The Brake Controller's values in `CountLaw`. -/
structure BrakeController.InRange (x : BrakeController) : Prop where
  demand   : x.demand ≤ 1000
  speed    : x.speedUsed ≤ 1500
  axles    : ∀ a : Axle, x.axles[a.val].InRange
  channels : ∀ c : Corner, x.channels[c.val].InRange

/-- The Levelling Controller's values in `CountLaw`. -/
structure LevellingController.InRange (x : LevellingController) : Prop where
  corners : ∀ c : Corner, x.corners[c.val].InRange
  strays  : x.strays ≤ 255

/-- A generator's program and openings to come within R67's and R69's ranges. -/
def Generator.InRange (g : Generator) : Prop := g.prog.inRange = g.prog ∧ g.toCome ≤ 254

/-- A line's counts and queue in `CountLaw`. -/
structure Line.Counted (l : Line) : Prop where
  attempts : l.attempts ≤ 2
  errors   : l.errors ≤ 255
  queue    : (l.queue.map Command.class).Nodup

/-- The Host Link's values in `CountLaw`. -/
structure HostLink.InRange (x : HostLink) : Prop where
  params   : x.params.InRange
  runCount : x.runCount ≤ 9
  response : x.response.length ≤ 30

/-- `CountLaw` with its parts named. -/
structure State.Counts (s : State) : Prop where
  motion   : s.mc.Counted
  discards : s.sp.discards ≤ 65535
  brake    : s.bc.InRange
  level    : s.lc.InRange
  joint    : s.js.InRange
  gens     : ∀ g : GenId, (s.gen g).InRange
  lines    : ∀ d : Door, s.dl.lines[d.val].Counted
  ignored  : ∀ d : Door, s.dt.ignored[d.val] ≤ 255
  host     : s.hl.InRange

theorem countLaw_iff {s : State} : s.CountLaw ↔ s.Counts := by
  constructor
  · intro ⟨params, ⟨c1, c2, t1, t2, remainder, revs, wheels, angles⟩, discards, ⟨demand, speed, axles, channels⟩, ⟨corners, strays⟩, joint,
      gens, lines, runCount, response⟩
    exact ⟨⟨⟨c1, c2⟩, ⟨t1, t2⟩, remainder, revs, wheels, angles .joint, angles .actuator⟩, discards, ⟨demand, speed, axles, channels⟩,
      ⟨corners, strays⟩, joint, gens, fun d => ⟨(lines d).1, (lines d).2.1, (lines d).2.2.1⟩, fun d => (lines d).2.2.2,
      ⟨params, runCount, response⟩⟩
  · intro ⟨⟨circ, teeth, remainder, revs, wheels, joint, actuator⟩, discards, ⟨demand, speed, axles, channels⟩, ⟨corners, strays⟩, js, gens,
      lines, ignored, ⟨params, runCount, response⟩⟩
    refine ⟨params, ⟨circ.1, circ.2, teeth.1, teeth.2, remainder, revs, wheels, fun a => ?_⟩, discards, ⟨demand, speed, axles, channels⟩,
      ⟨corners, strays⟩, js, gens, fun d => ⟨(lines d).attempts, (lines d).errors, (lines d).queue, ignored d⟩, runCount, response⟩
    cases a
    · exact joint
    · exact actuator

/-! ### Moves -/

/-- A change of a record that leaves its kind, its owner, its parent and its depth. -/
def KeepsName (f : Record → Record) : Prop :=
  ∀ r, (f r).kind = r.kind ∧ (f r).owner = r.owner ∧ (f r).parent = r.parent ∧ (f r).depth = r.depth

/-- A change of a record's two marks that no item of the envelope names: kneel-risen (R16) and told by its owner (R21). -/
def OnlyMarks (f : Record → Record) : Prop :=
  ∀ r, f r = { r with risen := (f r).risen, ownerRelease := (f r).ownerRelease }

/-- A new record stands in its slot and the envelope is formed, and its parent has taken its child (R7, R9). -/
def standRecord (i : Slot) (r : Record) (s : State) : State :=
  match r.parent with
  | some h => adopt h (formEnvelope (putRecord i r s))
  | none => formEnvelope (putRecord i r s)

/-- The slots after a distance increment (R15). -/
def travelSlots (inc : Nat) (s : State) : State :=
  { s with rt := { s.rt with slots := mapAll s.rt.slots fun _ e => { e with record := e.record.map (Record.travelled inc) } } }

/-- A change of the Levelling Controller that leaves the grants, RESERVE and the waiting set, but that a corner may leave the set; and
that starts a timer, which could form a command, only where no LEVEL reset lasts. -/
structure QuietLevelling (a s : State) (x : LevellingController) : Prop where
  grants  : x.grants = s.lc.grants
  reserve : x.reserve = s.lc.reserve
  waiting : ∀ c : Corner, x.corners[c.val].waiting = s.lc.corners[c.val].waiting ∨ x.corners[c.val].waiting = none
  timers  : (a.FillLaw → s.inReset .level = false) ∨
    ((∀ c : Corner, x.corners[c.val].sourceAt = s.lc.corners[c.val].sourceAt ∨ x.corners[c.val].sourceAt = none) ∧
      (x.haltAt = s.lc.haltAt ∨ x.haltAt = none))
  values  : s.Ranges → s.Counts → x.InRange

/-- A change of one generator within a period: its program stays, or ends by running out where it is no fill. -/
structure PeriodChange (g : GenId) (f : Generator → Generator) (x : Generator) : Prop where
  prog   : (f x).prog = x.prog ∨ ((f x).prog = .idle ∧ ∀ c, g ≠ .fill c)
  sound  : x.Sound → (f x).Sound
  toCome : x.InRange → (f x).toCome ≤ 254

/-- What a new record has to meet (R1, R5 to R9). -/
structure Placeable (s : State) (i : Slot) (r : Record) : Prop where
  free      : s.recordAt i = none
  classed   : slotOfClass r.owner i = true
  permitted : r.kind.permits r.owner = true
  fresh     : ∀ j q, s.recordAt j = some q → q.kind = r.kind → q.owner ≠ r.owner
  range     : s.Ranges → r.InRange
  depth     : r.depth ≤ 4
  root      : r.parent = none → r.depth = 1
  parent    : ∀ h, r.parent = some h → s.names h = true ∧ ∃ p, s.recordAt h.slot = some p ∧ p.state ≠ .armed ∧ r.depth = p.depth + 1

/-- The states that moves of the part lead to from `a`. A command of `a` stands at the end of such moves (`exec_moves`). -/
inductive Moves (a : State) : State → Prop
  | start : Moves a a
  /-- The clock comes to a timer's end. -/
  | time {s} (n : Nat) (h : Moves a s) : Moves a (atLeast n s)
  /-- The three resets of the part. -/
  | powerOn {s} (h : Moves a s) :
      Moves a { State.powered s.now s.pending s.mc.joint.phases s.mc.actuator.phases with dl := resetLines s.now s.dl.lines }
  | allReset {s} (h : Moves a s) : Moves a s.allReset
  | holdReset {s} (h : Moves a s) : Moves a (holdReset s)
  /-- Chapter 01, with the forming of the envelope. -/
  | form {s} (h : Moves a s) : Moves a (formEnvelope s)
  | change {s} (i : Slot) (f : Record → Record) (same : KeepsName f)
      (range : ∀ r, s.recordAt i = some r → r.InRange → (f r).InRange)
      (parent : ∀ r, s.recordAt i = some r → r.state = .active → (f r).state = .active ∨ s.hasChild i = false)
      (h : Moves a s) : Moves a (formEnvelope (changeRecord i f s))
  | mark {s} (i : Slot) (f : Record → Record) (marks : OnlyMarks f) (h : Moves a s) : Moves a (changeRecord i f s)
  | free {s} (i : Slot) (r : Record) (stands : s.recordAt i = some r) (childless : s.ParentLaw → s.hasChild i = false)
      (h : Moves a s) : Moves a (freeSlot i r s)
  | stand {s} (i : Slot) (r : Record) (can : Placeable s i r) (h : Moves a s) : Moves a (standRecord i r s)
  | travel {s} (inc : Nat) (h : Moves a s) :
      Moves a (if arriving s inc = [] then travelSlots inc s else formEnvelope (travelSlots inc s))
  | profiles {s} (x : Vector Profile 12) (range : s.Ranges → ∀ k : Kind, (x[k.index.val]).InRange) (h : Moves a s) :
      Moves a { s with rt := { s.rt with profiles := x } }
  | inhibit {s} (b : Bool) (h : Moves a s) : Moves a { s with eu := { s.eu with inhibit := b } }
  /-- Chapters 03, 05 and 07 to 10, block by block. -/
  | sp {s} (x : SensePort) (range : s.Ranges → ∀ ch : Channel, x.samples[ch.val].value ≤ channelTop ch)
      (count : s.sp.discards ≤ 65535 → x.discards ≤ 65535) (h : Moves a s) : Moves a { s with sp := x }
  | mc {s} (x : MotionCounters) (range : s.Ranges → x.SpeedsInRange) (count : s.Counts → x.Counted) (h : Moves a s) :
      Moves a { s with mc := x }
  | bc {s} (x : BrakeController) (count : s.Ranges → s.Counts → x.InRange) (h : Moves a s) : Moves a { s with bc := x }
  | js {s} (x : JointController) (count : s.Ranges → s.Counts → x.InRange) (h : Moves a s) : Moves a { s with js := x }
  | dl {s} (x : DoorLines) (count : s.Counts → ∀ d : Door, x.lines[d.val].Counted) (h : Moves a s) : Moves a { s with dl := x }
  | dt {s} (x : Translator) (count : s.Counts → ∀ d : Door, x.ignored[d.val] ≤ 255) (h : Moves a s) : Moves a { s with dt := x }
  | hl {s} (x : HostLink) (reset : x.resets[1].isSome = true → s.hl.resets[1].isSome = true)
      (count : s.Counts → x.InRange) (h : Moves a s) : Moves a { s with hl := x }
  | degraded {s} (x : BitVec 23) (h : Moves a s) : Moves a { s with degraded := x }
  /-- Chapter 04. -/
  | brake {s} (c : Corner) (side : Side) (p : Program) (h : Moves a s) : Moves a (handBrake c side p s)
  | steer {s} (side : Side) (p : Program) (h : Moves a s) : Moves a (handSteer side p s)
  | damping {s} (p : Program) (h : Moves a s) : Moves a (handDamping p s)
  | quiet {s} (g : Group) (other : g ≠ .level) (h : Moves a s) : Moves a (quietGroup g s)
  | period {s} (g : GenId) (f : Generator → Generator) (can : PeriodChange g f (s.gen g)) (h : Moves a s) : Moves a (changeGen g f s)
  /-- Chapter 06. -/
  | runOut {s} (c : Corner) (h : Moves a s) : Moves a (returnGrant c (changeGen (.fill c) (Generator.toIdle s.now) s))
  | lc {s} (x : LevellingController) (quiet : QuietLevelling a s x) (h : Moves a s) : Moves a { s with lc := x }
  | levelReset {s} (t : Nat) (h : Moves a s) : Moves a (startReset .level (setReset .level (some t) s))
  | stopFill {s} (c : Corner) (h : Moves a s) : Moves a (stopLevel c .first s)
  | exhaust {s} (c : Corner) (p : Program) (h : Moves a s) : Moves a (handLevel c .second p s)
  | fill {s} (afresh : Bool) (c : Corner) (e : Int) (p : Program) (opens : p.inRange.completes = true)
      (live : a.FillLaw → s.inReset .level = false) (h : Moves a s) : Moves a (commandFill afresh c e p s)
  | reserve {s} (x : Level) (h : Moves a s) : Moves a (reserveEvent x s)

end Sys2Proof.Machine
end

section
/-! PROOFS. The moves of a command, continued: chapter 01's operations on records. -/

namespace Sys2Proof.Machine

variable {a s : State}

/-! ### Changes at one place -/

theorem Moves.foldl {α : Type} {f : State → α → State} (hf : ∀ x {t : State}, Moves a t → Moves a (f t x)) (xs : List α)
    (h : Moves a s) : Moves a (xs.foldl f s) :=
  foldl_rel (fun x y : State => Moves a x → Moves a y) (fun _ => id) (fun h k => k ∘ h) f (fun _ x => hf x) xs s h

theorem Moves.forAll {n : Nat} {f : Fin n → State → State} (hf : ∀ i {t : State}, Moves a t → Moves a (f i t)) (h : Moves a s) :
    Moves a (forAll n f s) := h.foldl hf _

/-- The flags, the mask, the mode, the supervision and the record of the latest transaction are in no law. -/
theorem Moves.host (x : HostLink) (resets : x.resets = s.hl.resets) (params : x.params = s.hl.params)
    (runCount : x.runCount = s.hl.runCount) (response : x.response = s.hl.response) (h : Moves a s) : Moves a { s with hl := x } :=
  h.hl x (by rw [resets]; exact id) fun c => by
    obtain ⟨p, n, r⟩ := c.host
    exact ⟨params ▸ p, runCount ▸ n, response ▸ r⟩

theorem Moves.setFlag (f : Flag) (h : Moves a s) : Moves a (setFlag f s) := h.host _ rfl rfl rfl rfl

theorem Moves.setFlagIf (b : Bool) (f : Flag) (h : Moves a s) : Moves a (setFlagIf b f s) := by
  unfold Machine.setFlagIf
  split
  · exact h.setFlag f
  · exact h

theorem Moves.evalInhibit (h : Moves a s) : Moves a (evalInhibit s) := h.inhibit _

/-- A change of the Levelling Controller outside its corners, its grants and RESERVE. -/
theorem Moves.levelling (x : LevellingController) (corners : x.corners = s.lc.corners) (grants : x.grants = s.lc.grants)
    (reserve : x.reserve = s.lc.reserve) (haltAt : x.haltAt = s.lc.haltAt ∨ x.haltAt = none ∨ s.inReset .level = false)
    (strays : s.lc.strays ≤ 255 → x.strays ≤ 255) (h : Moves a s) : Moves a { s with lc := x } := by
  refine h.lc x ⟨grants, reserve, fun c => .inl (by rw [corners]), ?_, fun _ c => ⟨by rw [corners]; exact c.level.corners, strays c.level.strays⟩⟩
  rcases haltAt with same | stopped | live
  · exact .inr ⟨fun c => .inl (by rw [corners]), .inl same⟩
  · exact .inr ⟨fun c => .inl (by rw [corners]), .inr stopped⟩
  · exact .inl fun _ => live

/-- A change of one corner's record that makes it wait for no grant it has not asked for, and starts no source timer in a LEVEL reset. -/
theorem Moves.changeCorner (c : Corner) (f : CornerRecord → CornerRecord)
    (waiting : (f (s.corner c)).waiting = (s.corner c).waiting ∨ (f (s.corner c)).waiting = none)
    (timer : (a.FillLaw → s.inReset .level = false) ∨ (f (s.corner c)).sourceAt = (s.corner c).sourceAt ∨
      (f (s.corner c)).sourceAt = none)
    (values : s.Ranges → s.Counts → (s.corner c).InRange → (f (s.corner c)).InRange) (h : Moves a s) :
    Moves a (changeCorner c f s) := by
  refine h.lc _ ⟨rfl, rfl, fun d => ?_, ?_, fun r k => ⟨fun d => ?_, k.level.strays⟩⟩
  · rw [upd_get]
    split
    · rename_i here
      exact here ▸ waiting
    · exact .inl rfl
  · refine timer.imp id fun stays => ⟨fun d => ?_, .inl rfl⟩
    rw [upd_get]
    split
    · rename_i here
      exact here ▸ stays
    · exact .inl rfl
  · rw [upd_get]
    split
    · exact values r k (k.level.corners c)
    · exact k.level.corners d

theorem Moves.leaveWaiting (c : Corner) (h : Moves a s) : Moves a (leaveWaiting c s) :=
  h.changeCorner c _ (.inr rfl) (.inr (.inl rfl)) fun _ _ k => k

theorem Moves.leaveRising (k : Handle) (h : Moves a s) : Moves a (leaveRising k s) := h.levelling _ rfl rfl rfl (.inl rfl) id

/-! ### The children of a record -/

theorem hasChild_eq_true_iff {i : Slot} :
    s.hasChild i = true ↔ ∃ (j : Slot) (q : Record), s.recordAt j = some q ∧ q.parent = some (s.handleAt i) := by
  simp only [State.hasChild, liveRecords, List.any_eq_true, List.mem_filterMap, Vector.mem_toList_iff, Vector.mem_iff_getElem, beq_iff_eq]
  constructor
  · rintro ⟨q, ⟨e, ⟨n, hn, rfl⟩, stands⟩, parent⟩
    exact ⟨⟨n, hn⟩, q, stands, parent⟩
  · rintro ⟨j, q, stands, parent⟩
    exact ⟨q, ⟨_, ⟨j.val, j.isLt, rfl⟩, stands⟩, parent⟩

theorem hasChild_eq_false_iff {i : Slot} :
    s.hasChild i = false ↔ ∀ (j : Slot) (q : Record), s.recordAt j = some q → q.parent ≠ some (s.handleAt i) := by
  rw [← Bool.not_eq_true, hasChild_eq_true_iff]
  simp

/-- R9: only an ACTIVE record has children. -/
theorem State.ParentLaw.childless {i : Slot} {r : Record} (law : s.ParentLaw) (stands : s.recordAt i = some r) (other : r.state ≠ .active) :
    s.hasChild i = false := by
  refine hasChild_eq_false_iff.2 fun j q child named => ?_
  obtain ⟨_, p, parent, active, _⟩ := (law j q child).2.2 _ named
  cases stands.symm.trans parent
  exact other active

/-! ### Entering and leaving RELEASING -/

theorem Moves.markRisen (i : Slot) (h : Moves a s) : Moves a (markRisen i s) := h.mark i _ fun _ => rfl

theorem Moves.enterRising (i : Slot) (x : Scope) (h : Moves a s) : Moves a (enterRising i x s) := by
  unfold Machine.enterRising
  dsimp only
  split
  · exact (h.leaveRising _).markRisen i
  · exact (h.leaveRising _).levelling _ rfl rfl rfl (.inl rfl) id

theorem Moves.noticeRising (i : Slot) (r : Record) (h : Moves a s) : Moves a (noticeRising i r s) := by
  unfold Machine.noticeRising
  split
  · exact h
  · split
    · exact (h.leaveRising _).markRisen i
    · exact h.enterRising i _

theorem Record.release_inRange (now : Nat) {r : Record} (h : r.InRange) : (r.release now).InRange := by
  obtain ⟨floor, ceiling, steer, offset, damping, swing, delay, arm, conds, low, high, _, _, _⟩ := h
  refine ⟨floor, ceiling, steer, offset, damping, swing, delay, arm, conds, low, high, le_refl _, ?_, fun other => absurd rfl other⟩
  show r.swing.getD 0 * 100 ≤ 30000
  cases given : r.swing with
  | none => simp
  | some x =>
    have := swing x given
    simp
    omega

theorem Record.reactivate_inRange {r : Record} (h : r.InRange) : r.reactivate.InRange := by
  obtain ⟨floor, ceiling, steer, offset, damping, swing, delay, arm, conds, low, high, _, _, _⟩ := h
  exact ⟨floor, ceiling, steer, offset, damping, swing, delay, arm, conds, low, high, Nat.zero_le _, Nat.zero_le _, fun _ => ⟨rfl, rfl⟩⟩

theorem Moves.enterReleasing (i : Slot) (r : Record) (childless : s.hasChild i = false) (h : Moves a s) :
    Moves a (enterReleasing i r s) :=
  (h.change i (Record.release s.now) (fun _ => ⟨rfl, rfl, rfl, rfl⟩) (fun _ _ => Record.release_inRange s.now)
    (fun _ _ _ => .inr childless)).noticeRising i r

theorem Moves.returnActive (i : Slot) (h : Moves a s) : Moves a (returnActive i s) :=
  (h.change i Record.reactivate (fun _ => ⟨rfl, rfl, rfl, rfl⟩) (fun _ _ => Record.reactivate_inRange)
    (fun _ _ _ => .inl rfl)).leaveRising _

/-! ### Evaluation and retirement -/

/-- A record that has nothing left to run is RELEASING, and so it has no child (R9, R17). -/
theorem Record.spent_releasing {r : Record} (h : r.spent = true) : r.state = .releasing := by
  simp only [Record.spent, Bool.and_eq_true, beq_iff_eq] at h
  exact h.1.1.1

theorem Moves.freeSpent {i : Slot} {r : Record} (stands : s.recordAt i = some r) (spent : r.spent = true) (h : Moves a s) :
    Moves a (freeSlot i r s) :=
  h.free i r stands fun law => law.childless stands (by rw [Record.spent_releasing spent]; exact RecState.noConfusion)

theorem Moves.evaluate (forced : List Slot) : ∀ (n : Nat) (i : Slot) {s : State}, Moves a s → Moves a (evaluate forced n i s)
  | 0, _, _, h => h
  | n + 1, i, s, h => by
    have chain (xs : List Slot) {x : State} (hx : Moves a x) : Moves a (xs.foldl (fun s j => Machine.evaluate forced n j s) x) :=
      hx.foldl (fun j _ hy => hy.evaluate forced n j) xs
    unfold Machine.evaluate
    split
    · exact h
    · split
      · exact h
      · split
        · rename_i leaves
          have childless : s.hasChild i = false := by
            simp only [releasable, Bool.and_eq_true, Bool.not_eq_true'] at leaves
            exact leaves.2
          extract_lets x y
          have hx : Moves a x := h.enterReleasing i _ childless
          have hy : Moves a y := by
            unfold y
            split
            · exact chain _ hx
            · exact hx
          split
          · rename_i stands
            split
            · rename_i spent
              exact chain _ (hy.freeSpent stands spent)
            · exact hy
          · exact hy
        · exact h
      · split
        · exact h.returnActive i
        · exact h

theorem Moves.evalRecord (i : Slot) (h : Moves a s) : Moves a (evalRecord i s) := h.evaluate [] evalDepth i

theorem Moves.evalListing (p : Cond → Bool) (h : Moves a s) : Moves a (evalListing p s) := h.foldl (fun i _ k => k.evalRecord i) _

/-- A record that is not ACTIVE retires: it has no child (R9). -/
theorem Moves.retire (i : Slot) (other : ∀ r, s.recordAt i = some r → r.state ≠ .active) (h : Moves a s) : Moves a (retire i s) := by
  unfold Machine.retire
  split
  · exact h
  · rename_i r stands
    exact (h.free i r stands fun law => law.childless stands (other r stands)).foldl (fun j _ k => k.evalRecord j) _

theorem Moves.checkRetire (i : Slot) (h : Moves a s) : Moves a (checkRetire i s) := by
  unfold Machine.checkRetire
  split
  · rename_i r stands
    split
    · rename_i spent
      refine h.retire i fun q other => ?_
      cases stands.symm.trans other
      rw [Record.spent_releasing spent]
      exact RecState.noConfusion
    · exact h
  · exact h

theorem Moves.riseRecord (k : Handle) (h : Moves a s) : Moves a (riseRecord k s) := by
  unfold Machine.riseRecord
  split_ifs
  · exact (h.markRisen _).checkRetire _
  · exact h

/-! ### Placement -/

theorem Moves.kneelChanged (k : Kind) (h : Moves a s) : Moves a (kneelChanged k s) := by
  unfold Machine.kneelChanged
  split
  · exact h.evalListing _
  · exact h

theorem Moves.createRecord (i : Slot) (r : Record) (can : Placeable s i r) (h : Moves a s) : Moves a (createRecord i r s) := by
  have stood := h.stand i r can
  unfold Machine.createRecord
  unfold standRecord at stood
  cases parent : r.parent with
  | none =>
    rw [parent] at stood
    exact (stood.kneelChanged r.kind).evalRecord i
  | some k =>
    rw [parent] at stood
    exact ((stood.evalRecord k.slot).kneelChanged r.kind).evalRecord i

theorem Moves.tell (i : Slot) (b : Bool) (h : Moves a s) : Moves a (changeRecord i (fun r => { r with ownerRelease := b }) s) :=
  h.mark i _ fun _ => rfl

theorem Moves.reviveRecord (i : Slot) (k : Kind) (h : Moves a s) : Moves a (reviveRecord i k s) :=
  (((h.tell i false).returnActive i).kneelChanged k).evalRecord i

theorem Moves.placeAgain (i : Slot) (r : Record) (h : Moves a s) : Moves a (placeAgain i r s).state := by
  unfold Machine.placeAgain
  split
  · exact h
  · exact h
  · exact h.reviveRecord i _

/-- R5: what a parent that passes the checks gives to its child. -/
theorem checkParent_ok {p : Option (Option Handle)} {k : Option Handle} {d : Nat} (ok : checkParent s p = .ok (k, d)) :
    1 ≤ d ∧ d ≤ 4 ∧ (k = none → d = 1) ∧
      ∀ h, k = some h → s.names h = true ∧ ∃ q, s.recordAt h.slot = some q ∧ q.state ≠ .armed ∧ d = q.depth + 1 := by
  unfold checkParent at ok
  split at ok
  · cases ok
    exact ⟨le_refl _, by decide, fun _ => rfl, nofun⟩
  · cases ok
  · rename_i h
    split at ok
    · cases ok
    · rename_i q found
      have named : s.names h = true ∧ s.recordAt h.slot = some q := by
        split at found
        · rename_i named
          exact ⟨named, found⟩
        · cases found
      split at ok
      · cases ok
      · rename_i armed
        split at ok
        · cases ok
        · cases ok
        all_goals
          split at ok
          · rename_i deep
            cases ok
            refine ⟨by omega, by omega, nofun, fun _ same => ?_⟩
            cases same
            exact ⟨named.1, q, named.2, armed, rfl⟩
          · cases ok

theorem clampNat_le {top : Nat} (v : Int) : (clamp v 0 top).toNat ≤ top := by
  unfold clamp
  split
  · simp
  · split
    · simp
    · omega

/-- A value in its range, given or in place, stays in its range (R7). -/
theorem takeNat_le {top : Nat} {value : Option Int} {old : Option Nat} (range : ∀ x, old = some x → x ≤ top) :
    ∀ x, takeNat top value old = some x → x ≤ top := by
  intro x given
  unfold takeNat at given
  split at given
  · cases given
    exact clampNat_le _
  · exact range x given

theorem takeNat_given {top : Nat} (v : Int) : ∀ x, takeNat top (some v) none = some x → x ≤ top := takeNat_le nofun

theorem takeNat_getD_le {top n : Nat} {value : Option Int} (range : n ≤ top) : (takeNat top value (some n)).getD 0 ≤ top := by
  cases given : takeNat top value (some n) with
  | none => simp
  | some x => exact takeNat_le (fun y same => by cases same; exact range) x given

theorem takeOffset_bounds {value : Option Int} {old : Option Int} (range : ∀ x, old = some x → -90 ≤ x ∧ x ≤ 0) :
    ∀ x, takeOffset value old = some x → -90 ≤ x ∧ x ≤ 0 := by
  intro x given
  unfold takeOffset at given
  split at given
  · cases given
    unfold clamp offsetLow
    split
    · omega
    · split <;> omega
  · exact range x given

theorem takeOffset_given (v : Int) : ∀ x, takeOffset (some v) none = some x → -90 ≤ x ∧ x ≤ 0 := takeOffset_bounds nofun

theorem mergeConds_length (xs : List (Option Cond)) : ((mergeConds xs).getD []).length ≤ 4 := by
  unfold mergeConds
  dsimp only
  split
  · split
    · assumption
    · simp
  · simp

theorem placedConds_length {row : Profile} (range : row.conds.length ≤ 4) (p : Placement) : (placedConds row p).length ≤ 4 := by
  unfold placedConds
  split
  · exact mergeConds_length _
  · exact (List.length_filterMap_le _ _).trans range

theorem newRecord_inRange {p : Placement} (row : (s.profile p.kind).InRange) (k : Option Handle) {d : Nat} (low : 1 ≤ d) (high : d ≤ 4) :
    (newRecord s p k d).InRange := by
  obtain ⟨floor, ceiling, steer, offset, damping, swing, delay, arm, conds⟩ := row
  exact ⟨takeNat_le floor, takeNat_le ceiling, takeNat_le steer, takeOffset_bounds offset, damping, takeNat_le swing, takeNat_getD_le delay,
    takeNat_getD_le arm, placedConds_length conds p, low, high, Nat.zero_le _, Nat.zero_le _, fun _ => ⟨rfl, rfl⟩⟩

/-- R6: when none is found, none lives. -/
theorem find_eq_none {k : Kind} {o : Owner} (found : s.find k o = none) {j : Slot} {q : Record} (stands : s.recordAt j = some q)
    (kind : q.kind = k) : q.owner ≠ o := by
  have other := List.find?_eq_none.1 found j (List.mem_finRange j)
  simp only [stands, kind, beq_self_eq_true, Bool.true_and, beq_iff_eq] at other
  exact other

theorem find_eq_some {k : Kind} {o : Owner} {i : Slot} (found : s.find k o = some i) :
    ∃ r, s.recordAt i = some r ∧ r.kind = k ∧ r.owner = o := by
  have hit := List.find?_some found
  split at hit
  · rename_i r stands
    simp only [Bool.and_eq_true, beq_iff_eq] at hit
    exact ⟨r, stands, hit.1, hit.2⟩
  · cases hit

theorem freeSlotFor_some {o : Owner} {i : Slot} (found : freeSlotFor s o = some i) : slotOfClass o i = true ∧ s.recordAt i = none := by
  have hit := List.find?_some found
  simp only [Bool.and_eq_true, Option.isNone_iff_eq_none] at hit
  exact hit

theorem Moves.placeNew (p : Placement) (permitted : p.kind.permits p.owner = true) (absent : s.find p.kind p.owner = none) (h : Moves a s) :
    Moves a (placeNew p s).state := by
  unfold Machine.placeNew
  split
  · exact h
  · rename_i k d ok
    obtain ⟨low, high, root, parent⟩ := checkParent_ok ok
    split
    · exact h
    · rename_i i found
      obtain ⟨classed, free⟩ := freeSlotFor_some found
      exact h.createRecord i _ ⟨free, classed, permitted, fun j q stands kind => find_eq_none absent stands kind,
        fun range => newRecord_inRange (range.profiles p.kind) k low high, high, root, parent⟩

theorem Moves.placeRecord (p : Placement) (h : Moves a s) : Moves a (placeRecord p s).state := by
  unfold Machine.placeRecord
  split
  · exact h
  · rename_i permitted
    rw [Bool.not_eq_true, Bool.not_eq_false'] at permitted
    split
    · exact h
    · split
      · rename_i i found
        obtain ⟨r, stands, _, _⟩ := find_eq_some found
        simp only [stands]
        exact h.placeAgain i r
      · rename_i absent
        exact h.placeNew p permitted absent

/-! ### Arming, release and force -/

theorem Moves.armRecord (i : Slot) (h : Moves a s) : Moves a (armRecord i s) := by
  unfold Machine.armRecord
  split
  · rename_i r stands
    split
    · rename_i armed
      have active := h.change i (fun r => { r with state := .active, armAt := none }) (fun _ => ⟨rfl, rfl, rfl, rfl⟩)
        (fun q same range => by
          cases stands.symm.trans same
          obtain ⟨floor, ceiling, steer, offset, damping, swing, delay, arm, conds, low, high, left, dist, rest⟩ := range
          exact ⟨floor, ceiling, steer, offset, damping, swing, delay, arm, conds, low, high, left, dist,
            fun _ => rest (by rw [armed]; exact RecState.noConfusion)⟩)
        (fun _ _ _ => .inl rfl)
      exact (active.kneelChanged _).evalRecord i
    · exact h
  · exact h

theorem Moves.armRecords (h : Moves a s) : Moves a (armRecords s) := h.forAll fun i _ k => k.armRecord i

theorem Moves.ownerRetire (i : Slot) (h : Moves a s) : Moves a (ownerRetire i s).2 := by
  unfold Machine.ownerRetire
  split
  · exact h
  · rename_i r stands
    split
    · rename_i armed
      refine h.retire i fun q same => ?_
      cases stands.symm.trans same
      rw [armed]
      exact RecState.noConfusion
    · split
      · exact h
      · exact (h.tell i true).evalRecord i
    · exact h

theorem Moves.withdraw (k : Kind) (o : Owner) (h : Moves a s) : Moves a (withdraw k o s) := by
  unfold Machine.withdraw
  split
  · exact h.ownerRetire _
  · exact h

/-! ### Amendment -/

theorem Change.apply_inRange {c : Change} {r : Record} (accepted : c.accepted r = true) (h : r.InRange) : (c.apply r).InRange := by
  obtain ⟨floor, ceiling, steer, offset, damping, swing, delay, arm, conds, low, high, left, dist, rest⟩ := h
  cases c with
  | floor v => exact ⟨takeNat_given (top := 800) v, ceiling, steer, offset, damping, swing, delay, arm, conds, low, high, left, dist, rest⟩
  | ceiling v => exact ⟨floor, takeNat_given (top := 800) v, steer, offset, damping, swing, delay, arm, conds, low, high, left, dist, rest⟩
  | steer v => exact ⟨floor, ceiling, takeNat_given (top := 140) v, offset, damping, swing, delay, arm, conds, low, high, left, dist, rest⟩
  | offset v => exact ⟨floor, ceiling, steer, takeOffset_given v, damping, swing, delay, arm, conds, low, high, left, dist, rest⟩
  | delay v =>
    refine ⟨floor, ceiling, steer, offset, damping, swing, clampNat_le v, arm, conds, low, high, ?_, dist, fun other => ?_⟩
    · show (if r.state = .releasing then _ else _) ≤ (clamp v 0 delayTop).toNat
      split
      · exact Nat.min_le_right _ _
      · rename_i other
        rw [(rest other).1]
        exact Nat.zero_le _
    · refine ⟨?_, (rest other).2⟩
      show (if r.state = .releasing then _ else _) = 0
      exact (if_neg other).trans (rest other).1
  | swing v =>
    have bound : (clamp v 0 swingTop).toNat ≤ 300 := clampNat_le v
    refine ⟨floor, ceiling, steer, offset, damping, fun x same => ?_, delay, arm, conds, low, high, left, ?_, fun other => ?_⟩
    · cases same
      exact bound
    · show (if r.state = .releasing then _ else _) ≤ 30000
      split
      · exact (Nat.min_le_left _ _).trans dist
      · exact dist
    · refine ⟨(rest other).1, ?_⟩
      show (if r.state = .releasing then _ else _) = 0
      exact (if_neg other).trans (rest other).2
  | scope x => exact ⟨floor, ceiling, steer, offset, damping, swing, delay, arm, conds, low, high, left, dist, rest⟩
  | add c =>
    cases c with
    | none => cases accepted
    | some c =>
      refine ⟨floor, ceiling, steer, offset, damping, swing, delay, arm, ?_, low, high, left, dist, rest⟩
      show (if r.conds.contains c then r.conds else r.conds ++ [c]).length ≤ 4
      split
      · exact conds
      · rename_i absent
        simp only [Change.accepted, Bool.or_eq_true, absent, decide_eq_true_eq, false_or, Bool.false_eq_true] at accepted
        simp
        omega
  | remove c =>
    cases c with
    | none => cases accepted
    | some c =>
      exact ⟨floor, ceiling, steer, offset, damping, swing, delay, arm, (List.length_filter_le _ _).trans conds, low, high, left, dist, rest⟩
  | unknown => cases accepted

/-- R23: an amendment names neither kind, owner, parent nor depth, nor the state. -/
theorem Change.apply_name (c : Change) (r : Record) : ((c.apply r).kind = r.kind ∧ (c.apply r).owner = r.owner ∧
    (c.apply r).parent = r.parent ∧ (c.apply r).depth = r.depth) ∧ (c.apply r).state = r.state := by
  unfold Change.apply
  split <;> exact ⟨⟨rfl, rfl, rfl, rfl⟩, rfl⟩

theorem Moves.amendRecord (i : Slot) (r : Record) (c : Change) (stands : s.recordAt i = some r) (accepted : c.accepted r = true)
    (h : Moves a s) : Moves a (amendRecord i r c s) := by
  have changed := h.change i (fun q => c.apply q) (fun q => (c.apply_name q).1)
    (fun q same range => by
      cases stands.symm.trans same
      exact Change.apply_inRange accepted range)
    (fun q _ active => .inl ((c.apply_name q).2.trans active))
  unfold Machine.amendRecord
  dsimp only
  split
  · exact changed
  · exact changed.evalRecord i
  · have noticed : Moves a (if c.isScope then Machine.noticeRising i (c.apply r) (formEnvelope (changeRecord i (fun q => c.apply q) s))
        else formEnvelope (changeRecord i (fun q => c.apply q) s)) := by
      split
      · exact changed.noticeRising i _
      · exact changed
    split
    · exact (noticed.returnActive i).evalRecord i
    · exact noticed.checkRetire i

theorem Moves.amendOne (o : Owner) (k : Option Handle) (c : Change) (h : Moves a s) : Moves a (amendOne o k c s).2 := by
  unfold Machine.amendOne
  split
  · exact h
  · split
    · exact h
    · split
      · exact h
      · rename_i r stands
        split
        · exact h
        · split
          · exact h
          · rename_i accepted
            rw [Bool.not_eq_true, Bool.not_eq_false'] at accepted
            exact h.amendRecord _ r c stands accepted

end Sys2Proof.Machine
end

section
/-! PROOFS. The moves of a command, continued: a forced retirement retires a record's descendants before the record, so none that retires has
a child (R9, R22). -/

namespace Sys2Proof.Machine

variable {a s t u : State} {i j : Slot}

/-! ### Tables that lose records -/

/-- Every record live in `t` was live in `s`, at the same handle, under the same parent and at the same depth, of its kind and owner. -/
def Outlived (s t : State) : Prop :=
  ∀ (j : Slot) (q : Record), t.recordAt j = some q →
    t.handleAt j = s.handleAt j ∧ ∃ p, s.recordAt j = some p ∧ p.parent = q.parent ∧ p.depth = q.depth ∧ p.kind = q.kind ∧ p.owner = q.owner

theorem Outlived.refl (s : State) : Outlived s s := fun _ q stands => ⟨rfl, q, stands, rfl, rfl, rfl, rfl⟩

theorem Outlived.trans (h : Outlived s t) (k : Outlived t u) : Outlived s u := by
  intro j q stands
  obtain ⟨handle, p, was, parent, depth, kind, owner⟩ := k j q stands
  obtain ⟨handle', p', was', parent', depth', kind', owner'⟩ := h j p was
  exact ⟨handle.trans handle', p', was', parent'.trans parent, depth'.trans depth, kind'.trans kind, owner'.trans owner⟩

/-- A slot that is FREE stays so. -/
theorem Outlived.free (h : Outlived s t) (free : s.recordAt j = none) : t.recordAt j = none := by
  cases stands : t.recordAt j with
  | none => rfl
  | some q =>
    obtain ⟨_, p, was, _⟩ := h j q stands
    exact nomatch free.symm.trans was

theorem outlived_of_rt (same : t.rt = s.rt) : Outlived s t := by
  intro j q stands
  unfold State.recordAt State.handleAt at *
  rw [same] at *
  exact ⟨rfl, q, stands, rfl, rfl, rfl, rfl⟩

theorem changeRecord_handleAt (i j : Slot) (f : Record → Record) (s : State) : (changeRecord i f s).handleAt j = s.handleAt j := by
  simp only [State.handleAt, changeRecord, upd_get]
  split
  · rename_i here
    subst here
    rfl
  · rfl

theorem changeRecord_recordAt (i j : Slot) (f : Record → Record) (s : State) :
    (changeRecord i f s).recordAt j = if i = j then (s.recordAt j).map f else s.recordAt j := by
  split
  · rename_i here
    subst here
    exact changeRecord_recordAt_self s i f
  · rename_i other
    exact changeRecord_recordAt_ne s f other

theorem vacate_recordAt (i j : Slot) (s : State) : (vacate i s).recordAt j = if i = j then none else s.recordAt j := by
  split
  · rename_i here
    subst here
    exact vacate_recordAt_self i s
  · rename_i other
    simp [State.recordAt, vacate, upd_get_ne _ _ other]

theorem vacate_handleAt_ne (other : i ≠ j) (s : State) : (vacate i s).handleAt j = s.handleAt j := by
  simp [State.handleAt, vacate, upd_get_ne _ _ other]

theorem changeRecord_outlived {f : Record → Record} (same : KeepsName f) (i : Slot) (s : State) : Outlived s (changeRecord i f s) := by
  intro j q stands
  refine ⟨changeRecord_handleAt i j f s, ?_⟩
  rw [changeRecord_recordAt] at stands
  split at stands
  · obtain ⟨p, was, rfl⟩ := Option.map_eq_some_iff.1 stands
    obtain ⟨kind, owner, parent, depth⟩ := same p
    exact ⟨p, was, parent.symm, depth.symm, kind.symm, owner.symm⟩
  · exact ⟨q, stands, rfl, rfl, rfl, rfl⟩

theorem vacate_outlived (i : Slot) (s : State) : Outlived s (vacate i s) := by
  intro j q stands
  rw [vacate_recordAt] at stands
  split at stands
  · cases stands
  · rename_i other
    exact ⟨vacate_handleAt_ne other s, q, stands, rfl, rfl, rfl, rfl⟩

theorem formEnvelope_outlived (s : State) : Outlived s (formEnvelope s) := outlived_of_rt (formEnvelope_rt s)

theorem markRisen_outlived (i : Slot) (s : State) : Outlived s (markRisen i s) :=
  changeRecord_outlived (f := fun r => { r with risen := true }) (fun _ => ⟨rfl, rfl, rfl, rfl⟩) i s

theorem noticeRising_outlived (i : Slot) (r : Record) (s : State) : Outlived s (noticeRising i r s) := by
  unfold noticeRising
  split
  · exact .refl s
  · split
    · exact markRisen_outlived i _
    · unfold enterRising
      dsimp only
      split
      · exact markRisen_outlived i _
      · exact .refl s

theorem freeSlot_outlived (i : Slot) (r : Record) (s : State) : Outlived s (freeSlot i r s) :=
  (vacate_outlived i (leaveRising (s.handleAt i) s)).trans
    ((outlived_of_rt (endService_rt r.kind (setFlag .record (vacate i (leaveRising (s.handleAt i) s))))).trans (formEnvelope_outlived _))

theorem evaluate_outlived (forced : List Slot) (n : Nat) (i : Slot) (s : State) : Outlived s (evaluate forced n i s) :=
  evaluate_invariant (P := Outlived s)
    (fun i r x h => h.trans ((changeRecord_outlived (f := Record.release x.now) (fun _ => ⟨rfl, rfl, rfl, rfl⟩) i x).trans
      ((formEnvelope_outlived _).trans (noticeRising_outlived i r _))))
    (fun i r x h => h.trans (freeSlot_outlived i r x))
    (fun i x h => h.trans ((changeRecord_outlived (f := Record.reactivate) (fun _ => ⟨rfl, rfl, rfl, rfl⟩) i x).trans (formEnvelope_outlived _)))
    forced n i s (.refl s)

theorem evaluations_outlived (forced : List Slot) (xs : List Slot) (s : State) :
    Outlived s (xs.foldl (fun s j => evaluate forced evalDepth j s) s) :=
  foldl_rel Outlived .refl .trans _ (fun x j => evaluate_outlived forced evalDepth j x) xs s

/-! ### One record of a forced set -/

theorem forceOne_outlived (set : List Slot) (j : Slot) (s : State) : Outlived s (forceOne set j s) := by
  unfold forceOne
  split
  · exact .refl s
  · exact (freeSlot_outlived j _ s).trans (evaluations_outlived set _ _)

/-- R22: a record of the set has retired when its turn is over. -/
theorem forceOne_recordAt (set : List Slot) (j : Slot) (s : State) : (forceOne set j s).recordAt j = none := by
  unfold forceOne
  split
  · assumption
  · exact (evaluations_outlived set _ _).free (freeSlot_freeAt_self j _ s).1

theorem Moves.forceOne (set : List Slot) (j : Slot) (childless : s.ParentLaw → s.recordAt j ≠ none → s.hasChild j = false) (h : Moves a s) :
    Moves a (forceOne set j s) := by
  unfold Machine.forceOne
  split
  · exact h
  · rename_i r stands
    exact (h.free j r stands fun law => childless law (by simp [stands])).foldl (fun l _ k => k.evaluate set evalDepth l) _

/-- The records of a list retire by force in turn, if none of them has a child where R9 holds. -/
theorem Moves.forceAll (set : List Slot) : ∀ (xs : List Slot) {t : State}, Moves a t →
    (∀ j ∈ xs, ∀ u, Outlived t u → u.ParentLaw → u.recordAt j ≠ none → u.hasChild j = false) →
    Moves a (xs.foldl (fun s j => Machine.forceOne set j s) t) ∧ Outlived t (xs.foldl (fun s j => Machine.forceOne set j s) t) ∧
      ∀ j ∈ xs, (xs.foldl (fun s j => Machine.forceOne set j s) t).recordAt j = none
  | [], t, h, _ => ⟨h, .refl t, by simp⟩
  | x :: xs, t, h, childless => by
    have first := forceOne_outlived set x t
    obtain ⟨moves, outlived, gone⟩ := Moves.forceAll set xs
      (h.forceOne set x (childless x List.mem_cons_self t (.refl t)))
      (fun j mem u lives => childless j (List.mem_cons_of_mem _ mem) u (first.trans lives))
    refine ⟨moves, first.trans outlived, fun j mem => ?_⟩
    rcases List.mem_cons.1 mem with rfl | rest
    · exact outlived.free (forceOne_recordAt set j t)
    · exact gone j rest

/-! ### Generations -/

theorem mem_childrenOf : j ∈ childrenOf s i ↔ ∃ r, s.recordAt j = some r ∧ r.parent = some (s.handleAt i) := by
  simp only [childrenOf, allSlots, List.mem_filter, List.mem_finRange, true_and]
  cases s.recordAt j <;> simp

/-- A child of later was a child before. -/
theorem Outlived.child (h : Outlived s t) {q : Record} (lives : t.recordAt i ≠ none) (stands : t.recordAt j = some q)
    (parent : q.parent = some (t.handleAt i)) : j ∈ childrenOf s i := by
  obtain ⟨_, p, was, same, _⟩ := h j q stands
  obtain ⟨r, lives⟩ := Option.ne_none_iff_exists'.1 lives
  rw [(h i r lives).1] at parent
  exact mem_childrenOf.2 ⟨p, was, same.trans parent⟩

/-- R9: a child that lives on has its parent one depth above it. -/
theorem Outlived.depth (h : Outlived s t) (law : t.ParentLaw) {q : Record} (child : j ∈ childrenOf s i) (stands : t.recordAt j = some q) :
    ∃ p, t.recordAt i = some p ∧ q.depth = p.depth + 1 := by
  obtain ⟨r, was, parent⟩ := mem_childrenOf.1 child
  obtain ⟨_, p, was', same, _⟩ := h j q stands
  cases was.symm.trans was'
  obtain ⟨_, p, stands', _, depth⟩ := (law j q stands).2.2 _ (same.symm.trans parent)
  exact ⟨p, stands', depth⟩

theorem State.ParentLaw.depth_pos (law : s.ParentLaw) {r : Record} (stands : s.recordAt i = some r) : 1 ≤ r.depth := by
  obtain ⟨_, root, parent⟩ := law i r stands
  cases given : r.parent with
  | none => rw [root given]
  | some h =>
    obtain ⟨_, p, _, _, depth⟩ := parent h given
    omega

/-- R22: a forced retirement. -/
theorem Moves.forceRetire (i : Slot) (h : Moves a s) : Moves a (forceRetire i s) := by
  unfold Machine.forceRetire
  extract_lets set
  let children := childrenOf s i
  let grandchildren := allSlots.filter fun j => children.any fun p => (childrenOf s p).contains j
  let great := allSlots.filter fun j => grandchildren.any fun p => (childrenOf s p).contains j
  have generations : set = great ++ (grandchildren ++ (children ++ [i])) := by simp [set, descendantsOf, children, grandchildren, great]
  have mem_grandchildren {j : Slot} : j ∈ grandchildren ↔ ∃ p ∈ children, j ∈ childrenOf s p := by simp [grandchildren, allSlots]
  have mem_great {j : Slot} : j ∈ great ↔ ∃ p ∈ grandchildren, j ∈ childrenOf s p := by simp [great, allSlots]
  have generation {xs : List Slot} {t : State} (lives : Outlived s t) (below : ∀ j ∈ xs, t.recordAt j = none)
      {j : Slot} (all : ∀ q, q ∈ childrenOf s j → q ∈ xs) (u : State) (later : Outlived t u) (there : u.recordAt j ≠ none) :
      u.hasChild j = false := by
    refine hasChild_eq_false_iff.2 fun q r stands parent => ?_
    have child := (lives.trans later).child there stands parent
    exact nomatch (later.free (below q (all q child))).symm.trans stands
  have parts (f : State → Slot → State) : set.foldl f s = f (children.foldl f (grandchildren.foldl f (great.foldl f s))) i := by
    rw [generations]
    simp only [List.foldl_append, List.foldl_cons, List.foldl_nil]
  rw [parts]
  obtain ⟨moves₁, lives₁, gone₁⟩ := h.forceAll set great fun j mem u lives law there => by
    refine hasChild_eq_false_iff.2 fun q r stands parent => ?_
    obtain ⟨p, hp, below⟩ := mem_great.1 mem
    obtain ⟨o, ho, below'⟩ := mem_grandchildren.1 hp
    obtain ⟨r₁, s₁, d₁⟩ := lives.depth law (lives.child there stands parent) stands
    obtain ⟨r₂, s₂, d₂⟩ := lives.depth law below s₁
    obtain ⟨r₃, s₃, d₃⟩ := lives.depth law below' s₂
    obtain ⟨r₄, s₄, d₄⟩ := lives.depth law ho s₃
    have top := (law q r stands).1
    have root := law.depth_pos s₄
    omega
  obtain ⟨moves₂, lives₂, gone₂⟩ := moves₁.forceAll set grandchildren fun j mem u later _ there =>
    generation lives₁ gone₁ (fun q child => mem_great.2 ⟨j, mem, child⟩) u later there
  obtain ⟨moves₃, lives₃, gone₃⟩ := moves₂.forceAll set children fun j mem u later _ there =>
    generation (lives₁.trans lives₂) gone₂ (fun q child => mem_grandchildren.2 ⟨j, mem, child⟩) u later there
  exact moves₃.forceOne set i fun _ there =>
    generation (lives₁.trans (lives₂.trans lives₃)) gone₃ (fun _ child => child) _ (.refl _) there

end Sys2Proof.Machine
end

section
/-! PROOFS. The moves of a command, continued: the queues of the doors, PLAUS, the Levelling Controller, the Sense Port and the corners. -/

namespace Sys2Proof.Machine

variable {a s : State}

/-! ### The lines -/

theorem Moves.changeLine (d : Door) (f : Line → Line) (count : (s.line d).Counted → (f (s.line d)).Counted) (h : Moves a s) :
    Moves a (changeLine d f s) :=
  h.dl _ fun c e => by
    dsimp only
    rw [upd_get]
    split
    · exact count (c.lines d)
    · exact c.lines e

theorem Line.queued_counted (c : Command) {l : Line} (h : l.Counted) : (l.queued c).Counted := by
  rw [Line.queued_eq]
  refine ⟨?_, h.errors, enqueue_nodup c h.queue⟩
  show (if _ then 0 else l.attempts) ≤ 2
  split
  · exact Nat.zero_le _
  · exact h.attempts

theorem Moves.queueCommand (d : Door) (c : Command) (h : Moves a s) : Moves a (queueCommand d c s) := by
  unfold Machine.queueCommand
  split
  · exact h
  · exact h.changeLine d _ (Line.queued_counted c)

theorem Moves.clearQueue (d : Door) (h : Moves a s) : Moves a (clearQueue d s) := by
  unfold Machine.clearQueue
  split
  · exact h
  · exact h.changeLine d _ fun c => ⟨Nat.zero_le _, c.errors, List.nodup_nil⟩

/-- A change of the translator that keeps the ignored counts. -/
theorem Moves.translator (x : Translator) (ignored : x.ignored = s.dt.ignored) (h : Moves a s) : Moves a { s with dt := x } :=
  h.dt x fun c d => by rw [ignored]; exact c.ignored d

theorem Moves.setReleaseSet (x : BitVec 4) (h : Moves a s) : Moves a (setReleaseSet x s) := by
  unfold Machine.setReleaseSet
  extract_lets old src t
  have ht : Moves a t := h.translator _ rfl
  refine ht.forAll fun d u hu => ?_
  split
  · exact hu
  · exact hu.queueCommand d _

theorem Moves.emptyReleaseSet (h : Moves a s) : Moves a (emptyReleaseSet s) := h.setReleaseSet 0

theorem Moves.restorePermission (d : Door) (h : Moves a s) : Moves a (restorePermission d s) := (h.queueCommand d _).queueCommand d _

/-! ### PLAUS -/

theorem Moves.placeInternal (k : Kind) (o : Owner) (x : Option Scope) (h : Moves a s) : Moves a (placeInternal k o x s) := by
  unfold Machine.placeInternal
  dsimp only
  split
  · exact (h.placeRecord _).emptyReleaseSet
  · exact (h.placeRecord _).emptyReleaseSet
  · exact h.placeRecord _

theorem Moves.amendDegrade (x : Scope) (h : Moves a s) : Moves a (amendDegrade x s) := by
  unfold Machine.amendDegrade
  split
  · split
    · exact h
    · exact h.amendOne _ _ _
  · exact h

theorem Moves.degradedChanged (old new : BitVec 23) (h : Moves a s) : Moves a (degradedChanged old new s) := by
  unfold Machine.degradedChanged
  split
  · exact h.withdraw _ _
  · refine Moves.amendDegrade _ ?_
    split
    · exact h.placeInternal _ _ _
    · exact h

theorem Moves.watchDegraded (h : Moves a s) : Moves a (watchDegraded s) := by
  unfold Machine.watchDegraded
  split
  · exact h
  · dsimp only
    split
    · exact h
    · exact (h.degraded _).degradedChanged _ _

theorem Moves.watchCritical (h : Moves a s) : Moves a (watchCritical s) := by
  unfold Machine.watchCritical
  split
  · exact h
  · split
    · exact h.placeInternal _ _ _
    · exact h.withdraw _ _

theorem Moves.startWatching (h : Moves a s) : Moves a (startWatching s) := by
  unfold Machine.startWatching
  dsimp only
  split
  · exact h.watchDegraded.watchCritical
  · exact h.watchDegraded

/-! ### Contexts and sources of the corners -/

theorem Moves.takeSource (c : Corner) (x : Source) (live : s.inReset .level = false) (h : Moves a s) : Moves a (takeSource c x s) :=
  h.changeCorner c _ (.inl rfl) (.inl fun _ => live) fun _ _ ⟨_, rest⟩ => ⟨Nat.zero_le _, rest⟩

theorem Moves.refreshSource (c : Corner) (live : s.inReset .level = false) (h : Moves a s) : Moves a (refreshSource c s) := by
  unfold Machine.refreshSource
  split
  · exact h
  · exact h.takeSource c _ live

/-- A step of the Levelling Controller done at every corner outside a LEVEL reset. -/
theorem Moves.forCorners {f : Corner → State → State} (only : ∀ c t, LevelOnly t (f c t))
    (hf : ∀ c {t : State}, t.inReset .level = false → Moves a t → Moves a (f c t)) (live : s.inReset .level = false) (h : Moves a s) :
    Moves a (Sys2Proof.forAll 6 f s) :=
  (foldl_rel (fun x y : State => x.inReset .level = false ∧ Moves a x → y.inReset .level = false ∧ Moves a y) (fun _ => id)
    (fun h k => k ∘ h) _ (fun x c hx => ⟨((only c x).inReset .level).trans hx.1, hf c hx.1 hx.2⟩) _ s ⟨live, h⟩).2

theorem Moves.formContext (h : Moves a s) : Moves a (formContext s) := by
  unfold Machine.formContext
  split
  · exact h
  · rename_i changes
    simp only [Bool.or_eq_true, not_or, Bool.not_eq_true] at changes
    have formed : Moves a { s with lc := { s.lc with context := contextNow s } } := h.levelling _ rfl rfl rfl (.inl rfl) id
    exact formed.forCorners refreshSource_only (fun c _ live k => k.refreshSource c live) changes.1

/-! ### Commands of the corners (R103 to R107) -/

/-- A property that the steps of a corner's command keep. -/
structure CommandStable (P : State → Prop) : Prop where
  outcome  : ∀ {s : State} (c : Corner) (o : Option LevelOutcome), P s → P (changeCorner c (fun r => { r with outcome := o }) s)
  leave    : ∀ {s : State} (c : Corner), P s → P (leaveWaiting c s)
  stopFill : ∀ {s : State} (c : Corner), P s → P (stopLevel c .first s)
  exhaust  : ∀ {s : State} (c : Corner) (p : Program), P s → P (handLevel c .second p s)
  fill     : ∀ {s : State} (afresh : Bool) (c : Corner) (e : Int) (p : Program), p.inRange.completes = true → P s →
    P (commandFill afresh c e p s)

/-- The band of R105 is no less than 0, so an error above it calls for a program that opens the valve (R106). -/
theorem programFor_fill_completes (r : CornerRecord) {e : Int} (fill : outcomeOf e (bandNow s) = .fill) :
    (programFor r e .fill).inRange.completes = true := by
  have band : 0 ≤ bandNow s := by
    unfold bandNow
    split <;> exact Int.natCast_nonneg _
  have error : 0 < e := by
    unfold outcomeOf at fill
    split at fill
    · omega
    · split at fill <;> cases fill
  have time : 3 ≤ e.natAbs * 3 := by omega
  have single (top : Nat) (low : 1 ≤ top) : (Program.single (min (e.natAbs * 3) top)).inRange.completes = true := by
    have opens : min (e.natAbs * 3) top ≠ 0 := by omega
    simp [Program.inRange, opens, Program.completes]
  have train : (Program.train 80 40 (quotUp (e.natAbs * 3) 80)).inRange.completes = true := by
    have opens : quotUp (e.natAbs * 3) 80 ≠ 0 := by unfold quotUp; omega
    simp [Program.inRange, opens, Program.completes]
  have longest : 1 ≤ r.source.longest := by cases r.source <;> decide
  cases phase : r.phase <;> simp only [programFor, phase, neededTime]
  · exact single _ longest
  · exact train
  · exact single _ longest
  · exact train
  · exact single _ longest

namespace CommandStable

variable {P : State → Prop}

theorem commandHold (h : CommandStable P) (c : Corner) (p : P s) : P (commandHold c s) := by
  have stopped := h.stopFill c (h.leave c p)
  unfold Machine.commandHold
  rw [stopLevel]
  split
  · exact h.exhaust c _ stopped
  · exact stopped

theorem commandExhaust (h : CommandStable P) (afresh : Bool) (c : Corner) (x : Program) (p : P s) : P (commandExhaust afresh c x s) := by
  unfold Machine.commandExhaust
  dsimp only
  split
  · exact h.leave c p
  · exact h.exhaust c x (h.leave c p)

theorem judge (h : CommandStable P) (afresh : Bool) (c : Corner) (height : Nat) (p : P s) : P (judge afresh c height s) := by
  unfold Machine.judge
  dsimp only
  split
  · exact h.commandHold c (h.outcome c _ p)
  · exact h.commandExhaust afresh c _ (h.outcome c _ p)
  · rename_i fill
    refine h.fill afresh c _ _ ?_ (h.outcome c _ p)
    rw [fill]
    exact programFor_fill_completes _ fill

theorem commandFromLast (h : CommandStable P) (c : Corner) (p : P s) : P (commandFromLast c s) := by
  unfold Machine.commandFromLast
  dsimp only
  split
  · split
    · exact h.judge true c _ p
    · exact p
  · exact p

end CommandStable

/-- Moves from a state whose law is that no fill is formed in a LEVEL reset. -/
theorem Moves.commandStable (a : State) : CommandStable fun s => (a.FillLaw → s.inReset .level = false) ∧ Moves a s where
  outcome c _ h := ⟨h.1, h.2.changeCorner c _ (.inl rfl) (.inr (.inl rfl)) fun _ _ k => k⟩
  leave c h := ⟨h.1, h.2.leaveWaiting c⟩
  stopFill c h := ⟨fun law => ((stopLevel_only c .first _).inReset .level).trans (h.1 law), h.2.stopFill c⟩
  exhaust c p h := ⟨fun law => ((handLevel_only c .second p _).inReset .level).trans (h.1 law), h.2.exhaust c p⟩
  fill afresh c e p opens h :=
    ⟨fun law => ((commandFill_only afresh c e p _).inReset .level).trans (h.1 law), h.2.fill afresh c e p opens h.1⟩

theorem Moves.judge (afresh : Bool) (c : Corner) (height : Nat) (live : a.FillLaw → s.inReset .level = false) (h : Moves a s) :
    Moves a (judge afresh c height s) := ((Moves.commandStable a).judge afresh c height ⟨live, h⟩).2

theorem Moves.commandFromLast (c : Corner) (live : a.FillLaw → s.inReset .level = false) (h : Moves a s) :
    Moves a (commandFromLast c s) := ((Moves.commandStable a).commandFromLast c ⟨live, h⟩).2

/-! ### Halts and resumes -/

theorem haltHeightOf_bounds {r : CornerRecord} {ride : Nat} (low : 150 ≤ ride) (high : ride ≤ 350) :
    0 ≤ haltHeightOf ride r ∧ haltHeightOf ride r ≤ 350 := by
  unfold haltHeightOf
  split <;> omega

theorem Moves.haltCorner (c : Corner) (h : Moves a s) : Moves a (haltCorner c s) := by
  unfold Machine.haltCorner
  split
  · refine (h.changeCorner c _ (.inl rfl) (.inr (.inl rfl)) fun _ k range => ?_).exhaust c .idle
    obtain ⟨revs, count, sum, last, low, high, _, _⟩ := range
    obtain ⟨_, _, _, _, _, _, _, _, _, _, _, _, _, _, _, _, _, low', high', _⟩ := k.host.params
    obtain ⟨bottom, top⟩ := haltHeightOf_bounds (r := s.corner c) low' high'
    exact ⟨revs, count, sum, last, low, high, bottom, top⟩
  · exact h

theorem bump_le {top n : Nat} : bump top n ≤ top := by
  unfold bump
  split <;> omega

theorem Moves.countStray (h : Moves a s) : Moves a (countStray s) := h.levelling _ rfl rfl rfl (.inl rfl) fun _ => bump_le

theorem Moves.haltKneel (h : Moves a s) : Moves a (haltKneel s) := by
  unfold Machine.haltKneel
  split
  · exact h.countStray
  · rename_i live
    simp only [Bool.or_eq_true, not_or, Bool.not_eq_true] at live
    have halted : Moves a (Sys2Proof.forAll 6 Machine.haltCorner s) := h.forAll fun c _ k => k.haltCorner c
    have same : (Sys2Proof.forAll 6 Machine.haltCorner s).inReset .level = false :=
      ((levelOnly_forAll _ haltCorner_only s).inReset .level).trans live.1
    dsimp only
    generalize Sys2Proof.forAll 6 Machine.haltCorner s = x at halted same
    exact halted.levelling _ rfl rfl rfl (.inr (.inr same)) id

theorem Moves.resumeNow (live : a.FillLaw → s.inReset .level = false) (h : Moves a s) : Moves a (resumeNow s) := by
  unfold Machine.resumeNow
  extract_lets halted src t u
  have ht : Moves a t := h.levelling _ rfl rfl rfl (.inl rfl) id
  have lowers (c : Corner) {x : State} (hx : Moves a x) : Moves a (Machine.changeCorner c (fun r => { r with phase := .lowering }) x) :=
    hx.changeCorner c _ (.inl rfl) (.inr (.inl rfl)) fun _ _ k => k
  have hu : Moves a u := ht.foldl (fun c _ k => lowers c k) halted
  have only : LevelOnly s u := (levelOnly_lc s _).trans (levelOnly_foldl _ (fun x c => changeCorner_only c _ x) _ _)
  exact (foldl_rel (fun x y : State => LevelOnly s x ∧ Moves a x → LevelOnly s y ∧ Moves a y) (fun _ => id) (fun h k => k ∘ h) _
    (fun x c hx => ⟨hx.1.trans (commandFromLast_only c x), hx.2.commandFromLast c fun law => (hx.1.inReset .level).trans (live law)⟩)
    halted u ⟨only, hu⟩).2

theorem Moves.resumeKneel (h : Moves a s) : Moves a (resumeKneel s) := by
  unfold Machine.resumeKneel
  split
  · exact h.countStray
  · rename_i live
    simp only [Bool.or_eq_true, not_or, Bool.not_eq_true] at live
    split
    · exact h.levelling _ rfl rfl rfl (.inl rfl) id
    · exact h.resumeNow fun _ => live.1

/-! ### Height samples and the freezing of a corner -/

theorem Moves.heightWord (c : Corner) {v : Nat} (top : v ≤ 400) (h : Moves a s) : Moves a (heightWord c v s) := by
  unfold Machine.heightWord
  split
  · exact h
  · rename_i takes
    simp only [Bool.or_eq_true, not_or, decide_eq_true_eq, not_le] at takes
    refine h.changeCorner c _ (.inl rfl) (.inr (.inl rfl)) fun _ _ range => ?_
    obtain ⟨revs, _, sum, rest⟩ := range
    refine ⟨revs, ?_, ?_, rest⟩
    · show (s.corner c).count + 1 ≤ 4095
      omega
    · show (s.corner c).sum + v ≤ 400 * ((s.corner c).count + 1)
      omega

theorem Moves.stopExhaust (c : Corner) (h : Moves a s) : Moves a (stopLevel c .second s) := by
  unfold stopLevel
  split
  · exact h.exhaust c _
  · exact h

theorem Moves.freeze (c : Corner) (h : Moves a s) : Moves a (freeze c s) := by
  have emptied := (h.leaveWaiting c).changeCorner c (fun r => { r with sum := 0, count := 0, last := none }) (.inl rfl) (.inr (.inl rfl))
    fun _ _ ⟨revs, _, _, _, rest⟩ => ⟨revs, Nat.zero_le _, Nat.zero_le _, nofun, rest⟩
  exact (emptied.stopFill c).stopExhaust c

theorem Moves.meetHeight (c : Corner) (x : SampleState) (h : Moves a s) : Moves a (meetHeight c x s) := by
  have declared : Moves a (declareDegraded c s) :=
    (h.freeze c).changeCorner c _ (.inl rfl) (.inr (.inl rfl)) fun _ _ k => k
  have strobed : Moves a (beginStrobe c s) := (h.freeze c).changeCorner c _ (.inl rfl) (.inr (.inl rfl)) fun _ _ k => k
  have recovered : Moves a (recoverCorner c s) := (h.changeCorner c _ (.inl rfl) (.inr (.inl rfl)) fun _ _ k => k).setFlag .sensor
  unfold Machine.meetHeight
  split
  · split
    · exact declared
    · exact strobed
  · exact declared
  · exact recovered
  · exact h

theorem Moves.heightState (c : Corner) (x : SampleState) (h : Moves a s) : Moves a (heightState c x s) := by
  unfold Machine.heightState
  split
  · exact h
  · exact h.meetHeight c x

/-! ### The Sense Port -/

theorem Moves.changeSample (ch : Channel) (f : Sample → Sample)
    (value : (f (s.sample ch)).value = (s.sample ch).value ∨ (f (s.sample ch)).value ≤ channelTop ch) (h : Moves a s) :
    Moves a (changeSample ch f s) :=
  h.sp _ (fun range d => by
    dsimp only
    rw [upd_get]
    split
    · rename_i here
      subst here
      rcases value with same | low
      · exact same.trans_le (range.samples ch)
      · exact low
    · exact range.samples d) id

theorem Moves.setComparators (r l c : Level) (h : Moves a s) : Moves a (setComparators r l c s) := by
  unfold Machine.setComparators
  extract_lets old t u v
  have ht : Moves a t := h.sp _ (fun range => range.samples) id
  have hu : Moves a u := ht.setFlagIf _ _
  have hv : Moves a v := by
    unfold v
    split
    · exact hu
    · exact hu.reserve r
  split
  · exact hv
  · exact hv.watchCritical

theorem Moves.evalComparators (v : Nat) (h : Moves a s) : Moves a (evalComparators v s) := h.setComparators _ _ _

theorem Moves.sampleStateChanged (ch : Channel) (x : SampleState) (h : Moves a s) : Moves a (sampleStateChanged ch x s) := by
  unfold Machine.sampleStateChanged
  extract_lets t u v
  have hu : Moves a u := by
    unfold u
    split
    · exact (h.setFlag _).heightState _ x
    · exact h.setFlag _
  have hv : Moves a v := by
    unfold v
    split
    · exact hu.setComparators _ _ _
    · exact hu
  exact hv.watchDegraded

theorem Moves.setSampleState (ch : Channel) (x : SampleState) (h : Moves a s) : Moves a (setSampleState ch x s) := by
  unfold Machine.setSampleState
  split
  · exact h
  · exact (h.changeSample ch _ (.inl rfl)).sampleStateChanged ch x

theorem Moves.goodSample (ch : Channel) (v : Nat) (h : Moves a s) : Moves a (goodSample ch v s) := by
  unfold Machine.goodSample
  extract_lets w t u x
  have ht : Moves a t := h.changeSample ch _ (.inr (Nat.min_le_right _ _))
  have hu : Moves a u := by
    unfold u
    split
    · rename_i height
      refine ht.heightWord _ ((Nat.min_le_right _ _).trans ?_)
      have above : ¬ ch.val < 12 := by omega
      simp [channelTop, above, height.2]
    · exact ht
  have hx : Moves a x := hu.setSampleState ch .valid
  split
  · exact hx.evalComparators _
  · exact hx

theorem Moves.takeSample (channel : BitVec 5) (fault : Bool) (value : BitVec 11) (h : Moves a s) :
    Moves a (takeSample channel fault value s) := by
  unfold Machine.takeSample
  split
  · exact h
  · split
    · split
      · exact (h.changeSample _ _ (.inl rfl)).setSampleState _ _
      · exact h.goodSample _ _
    · exact h.sp _ (fun range => range.samples) fun _ => bump_le

theorem Moves.sampleTimeout (h : Moves a s) : Moves a (if s.inReset .sense then s else countDiscard s) := by
  split
  · exact h
  · exact h.sp _ (fun range => range.samples) fun _ => bump_le

theorem Moves.ageOut (ch : Channel) (h : Moves a s) : Moves a (ageOut ch s) := by
  unfold Machine.ageOut
  split
  · exact h
  · extract_lets t u
    have hu : Moves a u := (h.time _).changeSample ch _ (.inl rfl)
    split
    · exact hu.setSampleState ch _
    · exact hu

/-! ### The angle counters -/

theorem Moves.changeAngle (x : Angle) (f : AngleCounter → AngleCounter) (bounded : (s.angle x).Bounded → (f (s.angle x)).Bounded)
    (counted : (s.angle x).Counted → (f (s.angle x)).Counted) (h : Moves a s) : Moves a (changeAngle x f s) := by
  cases x with
  | joint =>
    exact h.mc _ (fun ⟨_, _, _, _, m⟩ => ⟨m.speed, m.wheels, bounded m.joint, m.actuator⟩)
      fun c => ⟨c.motion.circ, c.motion.teeth, c.motion.remainder, c.motion.revs, c.motion.wheels, counted c.motion.joint, c.motion.actuator⟩
  | actuator =>
    exact h.mc _ (fun ⟨_, _, _, _, m⟩ => ⟨m.speed, m.wheels, m.joint, bounded m.actuator⟩)
      fun c => ⟨c.motion.circ, c.motion.teeth, c.motion.remainder, c.motion.revs, c.motion.wheels, c.motion.joint, counted c.motion.actuator⟩

theorem Moves.stepAngle (x : Angle) (f : AngleCounter → AngleCounter) (bounded : (s.angle x).Bounded → (f (s.angle x)).Bounded)
    (counted : (s.angle x).Counted → (f (s.angle x)).Counted) (h : Moves a s) : Moves a (stepAngle x f s) := by
  unfold Machine.stepAngle
  dsimp only
  split
  · exact h.changeAngle x f bounded counted
  · exact ((h.changeAngle x f bounded counted).setFlag _).watchDegraded

theorem AngleCounter.bounded_zero {x : AngleCounter} (h : x.count = 0) : x.Bounded := by
  unfold AngleCounter.Bounded
  omega

theorem AngleCounter.moved_bounded (step : Int) (x : AngleCounter) : (x.moved step).Bounded := by
  unfold AngleCounter.Bounded AngleCounter.moved clamp
  dsimp only
  split
  · omega
  · split <;> omega

theorem AngleCounter.disturbed_counted (now : Nat) (x : AngleCounter) : (x.disturbed now).Counted := by
  unfold AngleCounter.disturbed
  dsimp only
  split
  · exact ⟨Nat.zero_le _, bump_le⟩
  · refine ⟨?_, bump_le⟩
    simp
    omega

theorem AngleCounter.disturbed_bounded (now : Nat) {x : AngleCounter} (h : x.Bounded) : (x.disturbed now).Bounded := by
  unfold AngleCounter.disturbed
  dsimp only
  split
  · exact h
  · exact h

theorem AngleCounter.transit_kept (now : Nat) (p : Phases) (x : AngleCounter) :
    (x.Bounded → (x.transit now p).Bounded) ∧ (x.Counted → (x.transit now p).Counted) := by
  unfold AngleCounter.transit
  split
  · exact ⟨id, id⟩
  · split
    · exact ⟨fun _ => x.moved_bounded 1, fun h => h⟩
    · split
      · exact ⟨fun _ => x.moved_bounded (-1), fun h => h⟩
      · exact ⟨x.disturbed_bounded now, fun _ => x.disturbed_counted now⟩

theorem Moves.transit (x : Angle) (p : Phases) (h : Moves a s) : Moves a (Machine.stepAngle x (AngleCounter.transit s.now p) s) :=
  h.stepAngle x _ (AngleCounter.transit_kept _ p _).1 (AngleCounter.transit_kept _ p _).2

theorem Moves.movePhases (x : Angle) (p : Phases) (h : Moves a s) : Moves a (Machine.changeAngle x (fun y => { y with phases := p }) s) :=
  h.changeAngle x _ id id

theorem Moves.dropIllegal (x : Angle) (h : Moves a s) : Moves a (dropIllegal x s) := by
  unfold Machine.dropIllegal
  split
  · exact h
  · refine (h.time _).changeAngle x _ (fun k => k) fun k => ⟨?_, k.2⟩
    have := k.1
    simp
    omega

theorem Moves.centreMark (x : Angle) (h : Moves a s) :
    Moves a (if s.inReset .sense then s else Machine.stepAngle x AngleCounter.marked s) := by
  split
  · exact h
  · exact h.stepAngle x _ (fun _ => AngleCounter.bounded_zero rfl) fun k => ⟨Nat.zero_le _, k.2⟩

theorem Moves.startSenseReset (h : Moves a s) : Moves a (startSenseReset s) := by
  unfold Machine.startSenseReset
  have cleared (x : Angle) {t : State} (ht : Moves a t) : Moves a (Machine.stepAngle x AngleCounter.cleared t) :=
    ht.stepAngle x _ (fun _ => AngleCounter.bounded_zero rfl) fun _ => ⟨Nat.zero_le _, Nat.zero_le _⟩
  have emptied (ch : Channel) {t : State} (ht : Moves a t) : Moves a (resetSample ch t) :=
    (ht.changeSample ch (fun r => { r with value := 0, ageAt := none }) (.inr (Nat.zero_le _))).setSampleState ch .stale
  have sampled : Moves a (Sys2Proof.forAll 21 resetSample s) := h.forAll fun ch _ k => emptied ch k
  dsimp only
  generalize Sys2Proof.forAll 21 resetSample s = x at sampled
  have counted : Moves a { x with sp := { x.sp with discards := 0 } } := sampled.sp _ (fun range => range.samples) fun _ => Nat.zero_le _
  exact cleared _ (cleared _ (counted.setComparators _ _ _))

/-! ### Control events -/

theorem Moves.reportRisen (e : RisingEntry) (h : Moves a s) : Moves a (reportRisen e s) := by
  unfold Machine.reportRisen
  split
  · exact (h.leaveRising _).riseRecord _
  · exact h

theorem Moves.lookRisen (h : Moves a s) : Moves a (lookRisen s) := by
  unfold Machine.lookRisen
  split
  · exact h
  · exact h.foldl (fun e _ k => k.reportRisen e) _

theorem Moves.bandTransition (c : Corner) (height : Nat) (h : Moves a s) : Moves a (bandTransition c height s) := by
  have phase (p : KneelPhase) : Moves a (Machine.changeCorner c (fun r => { r with phase := p }) s) :=
    h.changeCorner c _ (.inl rfl) (.inr (.inl rfl)) fun _ _ k => k
  unfold Machine.bandTransition
  dsimp only
  split
  · split
    · exact (phase .kneeled).setFlagIf _ _
    · exact h
  · split
    · exact (phase .level).lookRisen
    · exact h
  all_goals exact h

theorem Moves.workCorner (c : Corner) (live : a.FillLaw → s.inReset .level = false) (h : Moves a s) : Moves a (workCorner c s) := by
  unfold Machine.workCorner
  extract_lets r height t
  split
  · exact h
  · rename_i some
    have ht : Moves a t := h.changeCorner c _ (.inl rfl) (.inr (.inl rfl)) fun _ _ range => by
      obtain ⟨revs, _, sum, _, rest⟩ := range
      refine ⟨revs, Nat.zero_le _, Nat.zero_le _, fun x same => ?_, rest⟩
      cases same
      exact Nat.div_le_of_le_mul (by rw [Nat.mul_comm]; exact sum)
    exact (ht.bandTransition c height).judge false c height fun law =>
      ((bandTransition_table c height t).inReset .level).trans (live law)

theorem Moves.controlEvent (c : Corner) (live : a.FillLaw → s.inReset .level = false) (h : Moves a s) : Moves a (controlEvent c s) := by
  unfold Machine.controlEvent
  dsimp only
  split
  · exact h.formContext.workCorner c fun law => ((formContext_only s).inReset .level).trans (live law)
  · exact h.formContext

theorem Moves.revolveCorner (c : Corner) (h : Moves a s) : Moves a (revolveCorner c s) := by
  unfold Machine.revolveCorner
  dsimp only
  split
  · exact h
  · rename_i counts
    simp only [Bool.or_eq_true, not_or, Bool.not_eq_true] at counts
    split
    · exact (h.changeCorner c (fun r => { r with revs := 0 }) (.inl rfl) (.inr (.inl rfl))
        fun _ _ ⟨_, rest⟩ => ⟨Nat.zero_le _, rest⟩).controlEvent c fun _ => counts.1
    · rename_i few
      refine h.changeCorner c _ (.inl rfl) (.inr (.inl rfl)) fun _ _ ⟨_, rest⟩ => ⟨?_, rest⟩
      show (s.corner c).revs + 1 ≤ 15
      omega

theorem Moves.revolutionEvent (x : Axle) (h : Moves a s) : Moves a (revolutionEvent x s) :=
  h.forAll fun c _ k => by
    split
    · exact k.revolveCorner c
    · exact k

/-! ### The timers of the corners -/

/-- In a LEVEL reset no timer runs that could form a command (R122), so none of those expires. -/
theorem State.FillLaw.live (law : s.FillLaw) (held : s.resetHeld = false)
    (runs : s.lc.haltAt ≠ none ∨ ∃ c : Corner, (s.corner c).sourceAt ≠ none) : s.inReset .level = false := by
  obtain ⟨_, _, _, _, _, stands⟩ := law held
  rw [← Bool.not_eq_true]
  intro reset
  obtain ⟨halt, corners⟩ := stands reset
  rcases runs with timer | ⟨c, timer⟩
  · exact timer halt
  · exact timer (corners c).2.1

theorem Moves.sourceExpiry (c : Corner) (held : s.resetHeld = false) : Moves s (sourceExpiry c s) := by
  unfold Machine.sourceExpiry
  split
  · exact .start
  · rename_i t runs
    have live (law : s.FillLaw) : s.inReset .level = false := law.live held (.inr ⟨c, by simp [runs]⟩)
    have again (x : Option Nat) : Moves s (Machine.changeCorner c (fun r => { r with sourceAt := r.source.period.map (x.getD 0 + ·) }) (atLeast t s)) :=
      (Moves.start.time t).changeCorner c _ (.inl rfl) (.inl live) fun _ _ k => k
    exact (again (some _)).controlEvent c live

theorem Moves.strobeExpiry (c : Corner) (h : Moves a s) : Moves a (strobeExpiry c s) := by
  unfold Machine.strobeExpiry
  split
  · exact (h.time _).changeCorner c _ (.inl rfl) (.inr (.inl rfl)) fun _ _ k => k
  · exact h

theorem Moves.waitExpiry (c : Corner) (h : Moves a s) : Moves a (waitExpiry c s) := by
  unfold Machine.waitExpiry
  split
  · refine Moves.watchDegraded ?_
    split
    · exact ((h.time _).changeCorner c _ (.inl rfl) (.inr (.inl rfl)) fun _ _ k => k).setFlag .sensor
    all_goals exact (h.time _).changeCorner c _ (.inl rfl) (.inr (.inl rfl)) fun _ _ k => k
  · exact h

theorem Moves.recoveryExpiry (c : Corner) (h : Moves a s) : Moves a (recoveryExpiry c s) := by
  unfold Machine.recoveryExpiry
  split
  · exact h
  · exact (h.time _).changeCorner c _ (.inl rfl) (.inr (.inl rfl)) fun _ _ k => k

theorem Moves.haltExpiry (held : s.resetHeld = false) : Moves s (haltExpiry s) := by
  unfold Machine.haltExpiry
  split
  · exact .start
  · rename_i t runs
    have stopped : Moves s { atLeast t s with lc := { s.lc with haltAt := none } } :=
      (Moves.start.time t).levelling _ rfl rfl rfl (.inr (.inl rfl)) id
    dsimp only
    split
    · exact stopped.resumeNow fun law => law.live held (.inl (by simp [runs]))
    · exact stopped

theorem Moves.endLevelReset (live : s.inReset .level = false) (h : Moves a s) : Moves a (endLevelReset s) := by
  unfold Machine.endLevelReset
  extract_lets src t u v
  have ht : Moves a t := by
    refine h.lc { s.lc with corners := mapAll s.lc.corners (recomputePhase s.eu.env.offsets), context := contextNow s }
      ⟨rfl, rfl, fun c => .inl ?_, .inl fun _ => live, fun range count => ⟨fun c => ?_, count.level.strays⟩⟩
    · rw [mapAll_get]
      rfl
    · obtain ⟨revs, number, sum, last, _, _, rest⟩ := count.level.corners c
      simp only [mapAll_get]
      exact ⟨revs, number, sum, last, (range.env.offsets c).1, (range.env.offsets c).2, rest⟩
  have hu : Moves a u := ht.forCorners (fun c x => takeSource_only c _ x) (fun c _ l k => k.takeSource c _ l) live
  have hv : Moves a v := hu.forAll fun c _ k => k.meetHeight c _
  exact hv.watchDegraded.lookRisen

end Sys2Proof.Machine
end

section
/-! PROOFS. The moves of a command, continued: the wheels, the records' timers, the generators, the brakes and the joint. -/

namespace Sys2Proof.Machine

variable {a s : State}

/-! ### The wheels -/

theorem Moves.distanceIncrement (inc : Nat) (h : Moves a s) : Moves a (distanceIncrement inc s) := by
  have travelled := h.travel inc
  unfold Machine.distanceIncrement
  dsimp only
  rw [← travelSlots]
  have formed (i : Slot) {t : State} (ht : Moves a t) : Moves a (Machine.checkRetire i (formEnvelope t)) := ht.form.checkRetire i
  cases reached : arriving s inc with
  | nil =>
    rw [reached] at travelled
    exact travelled
  | cons i rest =>
    rw [reached, if_neg (List.cons_ne_nil i rest)] at travelled
    exact (travelled.checkRetire i).foldl (fun j _ k => formed j k) rest

theorem Moves.rollOn (h : Moves a s) : Moves a (rollOn s) := by
  unfold Machine.rollOn
  extract_lets r inc src t
  have ht : Moves a t := by
    refine h.mc _ (fun range => ?_) fun count => ?_
    · exact ⟨range.motion.speed, range.motion.wheels, range.motion.joint, range.motion.actuator⟩
    · obtain ⟨circ, teeth, _, revs, wheels, joint, actuator⟩ := count.motion
      refine ⟨circ, teeth, ?_, revs, wheels, joint, actuator⟩
      show r - r / s.mc.teeth * s.mc.teeth ≤ 199
      have rest : r - r / s.mc.teeth * s.mc.teeth = r % s.mc.teeth := by
        rw [Nat.mod_def, Nat.mul_comm]
      have below : r % s.mc.teeth < s.mc.teeth := Nat.mod_lt _ (by omega)
      omega
  split
  · exact ht
  · have tripped : Moves a { t with mc := { t.mc with trip := t.mc.trip + BitVec.ofNat 32 inc } } :=
      ht.mc _ (fun range => ⟨range.motion.speed, range.motion.wheels, range.motion.joint, range.motion.actuator⟩)
        fun count => ⟨count.motion.circ, count.motion.teeth, count.motion.remainder, count.motion.revs, count.motion.wheels,
          count.motion.joint, count.motion.actuator⟩
    exact tripped.distanceIncrement inc

theorem Moves.setRevs (x : Axle) (n : Nat) (small : s.mc.teeth ≤ 200 → n ≤ 199) (h : Moves a s) :
    Moves a { s with mc := { s.mc with revs := upd s.mc.revs x fun _ => n } } := by
  refine h.mc _ (fun range => ⟨range.motion.speed, range.motion.wheels, range.motion.joint, range.motion.actuator⟩) fun count => ?_
  obtain ⟨circ, teeth, remainder, revs, wheels, joint, actuator⟩ := count.motion
  refine ⟨circ, teeth, remainder, fun y => ?_, wheels, joint, actuator⟩
  dsimp only
  rw [upd_get]
  split
  · exact small teeth.2
  · exact revs y

theorem Moves.countRevolution (x : Axle) (h : Moves a s) : Moves a (countRevolution x s) := by
  unfold Machine.countRevolution
  dsimp only
  split
  · exact (h.setRevs x 0 fun _ => Nat.zero_le _).revolutionEvent x
  · exact h.setRevs x _ fun _ => by omega

theorem Moves.wheelPulse (w : Corner) (h : Moves a s) : Moves a (wheelPulse w s) := by
  unfold Machine.wheelPulse
  extract_lets src t u
  have ht : Moves a t := by
    refine h.mc _ (fun range => ⟨range.motion.speed, fun c => ?_, range.motion.joint, range.motion.actuator⟩) fun count =>
      ⟨count.motion.circ, count.motion.teeth, count.motion.remainder, count.motion.revs, fun c => ?_, count.motion.joint,
        count.motion.actuator⟩
    · dsimp only
      rw [upd_get]
      split
      · exact range.motion.wheels w
      · exact range.motion.wheels c
    · dsimp only
      rw [upd_get]
      split
      · exact ⟨bump_le, (count.motion.wheels w).2⟩
      · exact count.motion.wheels c
  have hu : Moves a u := by
    unfold u
    split
    · exact ht.rollOn
    · exact ht
  split
  · exact hu.countRevolution _
  · exact hu

/-- A change of the flags and timers of the Motion Counters. -/
theorem Moves.motion (x : MotionCounters) (range : s.mc.SpeedsInRange → x.SpeedsInRange) (count : s.mc.Counted → x.Counted) (h : Moves a s) :
    Moves a { s with mc := x } := h.mc x (fun r => range r.motion) fun c => count c.motion

theorem MotionCounters.SpeedsInRange.of_same {x y : MotionCounters} (speed : y.speed = x.speed) (wheels : y.wheels = x.wheels)
    (joint : y.joint = x.joint) (actuator : y.actuator = x.actuator) (h : x.SpeedsInRange) : y.SpeedsInRange :=
  ⟨speed ▸ h.speed, wheels ▸ h.wheels, joint ▸ h.joint, actuator ▸ h.actuator⟩

theorem Moves.movingChanged (h : Moves a s) : Moves a (movingChanged s) := by
  unfold Machine.movingChanged
  dsimp only
  split
  · exact h.emptyReleaseSet.formContext
  · exact h.formContext

theorem Moves.stationaryChanged (h : Moves a s) : Moves a (stationaryChanged s) := by
  unfold Machine.stationaryChanged
  dsimp only
  split
  · exact h.armRecords.formContext
  · exact h.formContext

theorem MotionCounters.Counted.of_same {x y : MotionCounters} (circ : y.circ = x.circ) (teeth : y.teeth = x.teeth)
    (remainder : y.remainder = x.remainder) (revs : y.revs = x.revs) (wheels : y.wheels = x.wheels)
    (joint : y.joint = x.joint) (actuator : y.actuator = x.actuator) (h : x.Counted) : y.Counted :=
  ⟨circ ▸ h.circ, teeth ▸ h.teeth, remainder ▸ h.remainder, revs ▸ h.revs, wheels ▸ h.wheels, joint ▸ h.joint, actuator ▸ h.actuator⟩

theorem Moves.setMoving (b : Bool) (h : Moves a s) : Moves a (setMoving b s) := by
  unfold Machine.setMoving
  split
  · exact h
  · have moved : Moves a { s with mc := { s.mc with moving := b } } :=
      h.motion _ (.of_same rfl rfl rfl rfl) (.of_same rfl rfl rfl rfl rfl rfl rfl)
    exact moved.movingChanged

theorem Moves.setStationary (b : Bool) (h : Moves a s) : Moves a (setStationary b s) := by
  unfold Machine.setStationary
  split
  · exact h
  · have stood : Moves a { s with mc := { s.mc with stationary := b } } :=
      h.motion _ (.of_same rfl rfl rfl rfl) (.of_same rfl rfl rfl rfl rfl rfl rfl)
    exact stood.stationaryChanged

theorem Moves.setSpeed (v : Nat) (top : v ≤ 1500) (h : Moves a s) : Moves a (setSpeed v s) := by
  unfold Machine.setSpeed
  extract_lets old src t u
  have ht : Moves a t := h.motion _ (fun m => ⟨top, m.wheels, m.joint, m.actuator⟩) (.of_same rfl rfl rfl rfl rfl rfl rfl)
  have hu : Moves a u := by
    unfold u
    split
    · exact ht
    · exact (ht.evalInhibit.setMoving _).setStationary _
  exact hu.motion _ (.of_same rfl rfl rfl rfl) (.of_same rfl rfl rfl rfl rfl rfl rfl)

theorem Wheel.close_speed_le (circ teeth : Nat) (w : Wheel) : (w.close circ teeth).speed ≤ 1500 := Nat.min_le_left _ _

theorem Wheel.close_counted (circ teeth : Nat) {w : Wheel} (h : w.Counted) : (w.close circ teeth).Counted := by
  refine ⟨Nat.zero_le _, fun k => ?_⟩
  match k with
  | 0 => exact h.2 1
  | 1 => exact h.2 2
  | 2 => exact h.2 3
  | 3 => exact h.1

theorem Moves.bucketExpiry (h : Moves a s) : Moves a (bucketExpiry s) := by
  unfold Machine.bucketExpiry
  extract_lets t p wheels src u
  have hu : Moves a u := by
    refine (h.time s.mc.bucketAt).mc { t.mc with circ := p.circ, teeth := p.teeth, wheels := wheels, bucketAt := t.now + cyclePeriod }
      (fun range => ⟨range.motion.speed, fun c => ?_, range.motion.joint, range.motion.actuator⟩) fun count => ?_
    · dsimp only [wheels]
      rw [mapAll_get]
      exact Wheel.close_speed_le _ _ _
    · obtain ⟨c1, c2, t1, t2, _⟩ := count.host.params
      refine ⟨⟨c1, c2⟩, ⟨t1, t2⟩, count.motion.remainder, count.motion.revs, fun c => ?_, count.motion.joint, count.motion.actuator⟩
      dsimp only [wheels]
      rw [mapAll_get]
      exact Wheel.close_counted _ _ (count.motion.wheels c)
  refine hu.setSpeed _ ?_
  rcases largest_attained (wheels.toList.map (·.speed)) with zero | mem
  · rw [zero]
    exact Nat.zero_le _
  · obtain ⟨w, mem, speed⟩ := List.mem_map.1 mem
    rw [← speed]
    obtain ⟨n, hn, rfl⟩ := Vector.mem_iff_getElem.1 (Vector.mem_toList_iff.1 mem)
    rw [show wheels[n] = _ from mapAll_get _ _ ⟨n, hn⟩]
    exact Wheel.close_speed_le _ _ _

theorem Moves.stationaryExpiry (h : Moves a s) : Moves a (stationaryExpiry s) := by
  unfold Machine.stationaryExpiry
  split
  · exact h
  · rename_i t _
    have stopped : Moves a { atLeast t s with mc := { s.mc with stationaryAt := none } } :=
      (h.time t).motion _ (.of_same rfl rfl rfl rfl) (.of_same rfl rfl rfl rfl rfl rfl rfl)
    exact stopped.setStationary true

/-! ### The records' timers -/

theorem Moves.armExpiry (i : Slot) (h : Moves a s) : Moves a (armExpiry i s) := by
  unfold Machine.armExpiry
  split
  · exact h
  · rename_i r stands
    split
    · rename_i armed _
      refine ((h.time _).setFlag .recordTimeout).retire i fun q same => ?_
      cases stands.symm.trans same
      rw [armed]
      exact RecState.noConfusion
    · exact h

theorem Record.stepped_inRange (now : Nat) {r : Record} (h : r.InRange) : (r.stepped now).InRange := by
  obtain ⟨floor, ceiling, steer, offset, damping, swing, delay, arm, conds, low, high, left, dist, rest⟩ := h
  exact ⟨floor, ceiling, steer, offset, damping, swing, delay, arm, conds, low, high, (Nat.sub_le _ _).trans left, dist,
    fun other => ⟨by show r.releaseLeft - 50 = 0; rw [(rest other).1], (rest other).2⟩⟩

theorem Moves.stepExpiry (i : Slot) (h : Moves a s) : Moves a (stepExpiry i s) := by
  unfold Machine.stepExpiry
  split
  · exact h
  · split
    · have stepped (now : Nat) {t : State} (ht : Moves a t) : Moves a (formEnvelope (changeRecord i (Record.stepped now) t)) :=
        ht.change i _ (fun _ => ⟨rfl, rfl, rfl, rfl⟩) (fun _ _ => Record.stepped_inRange now) fun _ _ active => .inl active
      exact (stepped _ (h.time _)).checkRetire i
    · exact h

/-! ### The generators -/

theorem Generator.quiet_sound (now : Nat) (g : Generator) : (g.quiet now).Sound := ⟨fun _ => ⟨rfl, rfl⟩, fun _ => rfl⟩

theorem Generator.start_sound (now : Nat) (p : Program) (g : Generator) : (g.start now p).Sound := by
  cases p with
  | idle => exact Generator.quiet_sound now g
  | single t => exact ⟨nofun, nofun⟩
  | train on off n => exact ⟨nofun, nofun⟩
  | duty d => exact ⟨nofun, nofun⟩

theorem Program.toCome_le {p : Program} (h : p.inRange = p) : p.toCome ≤ 254 := by
  cases p with
  | train on off n =>
    simp only [Program.inRange] at h
    split at h
    · cases h
    · have bound : min n 255 = n := (Program.train.inj h).2.2
      show n - 1 ≤ 254
      omega
  | idle => exact Nat.zero_le _
  | single t => exact Nat.zero_le _
  | duty d => exact Nat.zero_le _

theorem Generator.start_toCome_le (now : Nat) {p : Program} (h : p.inRange = p) (g : Generator) : (g.start now p).toCome ≤ 254 := by
  cases p with
  | idle => exact Nat.zero_le _
  | single t => exact Program.toCome_le h
  | train on off n => exact Program.toCome_le h
  | duty d => exact Program.toCome_le h

/-- R71: a program ends by running out. -/
theorem Moves.ranOut (g : GenId) (h : Moves a s) : Moves a (ranOut g (changeGen g (Generator.toIdle s.now) s)) := by
  have ends (other : ∀ c, g ≠ .fill c) : Moves a (changeGen g (Generator.toIdle s.now) s) :=
    h.period g _ ⟨.inr ⟨rfl, other⟩, fun _ => Generator.quiet_sound _ _, fun _ => Nat.zero_le _⟩
  cases g with
  | fill c => exact h.runOut c
  | apply c => exact ends (fun _ => GenId.noConfusion)
  | brakeExhaust c => exact ends (fun _ => GenId.noConfusion)
  | cornerExhaust c => exact ends (fun _ => GenId.noConfusion)
  | kerbward => exact ends (fun _ => GenId.noConfusion)
  | offward => exact ends (fun _ => GenId.noConfusion)
  | damping => exact ends (fun _ => GenId.noConfusion)

theorem Moves.singleEnd (g : GenId) (h : Moves a s) : Moves a (singleEnd g s) := by
  unfold Machine.singleEnd
  dsimp only
  split
  · exact (h.time _).ranOut g
  · exact h

theorem Moves.trainEnd (g : GenId) (h : Moves a s) : Moves a (trainEnd g s) := by
  unfold Machine.trainEnd
  dsimp only
  split
  · rename_i prog waiting _
    have open_ (now on : Nat) : PeriodChange g (Generator.reopenTrain now on) (s.gen g) :=
      ⟨.inl rfl, fun _ => ⟨fun idle => (nomatch prog.symm.trans idle), fun waits => (nomatch waiting.symm.trans waits)⟩,
        fun range => (Nat.sub_le _ _).trans range.2⟩
    have close (now off : Nat) : PeriodChange g (Generator.closeTrain now off) (s.gen g) :=
      ⟨.inl rfl, fun _ => ⟨fun idle => (nomatch prog.symm.trans idle), fun _ => rfl⟩, fun range => range.2⟩
    split
    · exact (h.time _).period g _ (open_ _ _)
    · split
      · exact (h.time _).period g _ (close _ _)
      · exact (h.time _).ranOut g
  · exact h

theorem Moves.dutyOpenOver (g : GenId) (h : Moves a s) : Moves a (dutyOpenOver g s) := by
  unfold Machine.dutyOpenOver
  dsimp only
  split
  · exact (h.time _).period g _ ⟨.inl rfl, fun sound => ⟨fun idle => ⟨rfl, (sound.1 idle).2⟩, fun _ => rfl⟩, fun range => range.2⟩
  · exact h

theorem Moves.startAgain (g : GenId) (now : Nat) {p : Program} (same : (s.gen g).prog = p) (h : Moves a s) :
    Moves a (changeGen g (Generator.start now p) s) :=
  h.period g _ ⟨.inl ((Generator.start_prog now p _).trans same.symm), fun _ => Generator.start_sound now p _,
    fun range => Generator.start_toCome_le now (by rw [← same]; exact range.1) _⟩

theorem Moves.dutyPeriodOver (g : GenId) (h : Moves a s) : Moves a (dutyPeriodOver g s) := by
  unfold Machine.dutyPeriodOver
  dsimp only
  split
  · rename_i prog _ _
    exact (h.time _).startAgain g _ prog
  · exact h

theorem Moves.deadTimeOver (g : GenId) (h : Moves a s) : Moves a (deadTimeOver g s) := by
  unfold Machine.deadTimeOver
  dsimp only
  split
  · exact (h.time _).startAgain g _ rfl
  · exact h

/-! ### The brakes -/

theorem freeLoad_le {k o : Sample} {full top : Nat} (hk : k.value ≤ top) (ho : o.value ≤ top) (hf : full ≤ top) : freeLoad k o full ≤ top := by
  unfold freeLoad
  split <;> omega

theorem loadStage_inRange (b : Bool) {free : Nat} (low : free ≤ 1000) {x : BrakeAxle} (h : x.InRange) : (loadStage b free x).InRange := by
  obtain ⟨load, last, latch, rest⟩ := h
  unfold loadStage
  split
  · exact ⟨low, fun y same => by cases same; exact low, nofun, rest⟩
  · split
    · rename_i v held
      exact ⟨latch v held, last, latch, rest⟩
    · have kept : x.lastFree.getD free ≤ 1000 := by
        cases given : x.lastFree with
        | none => exact low
        | some y => exact last y given
      exact ⟨kept, last, fun y same => by cases same; exact kept, rest⟩

theorem loadCeiling_le {cmin cmax lempty lfull load top : Nat} (high : cmax ≤ top) :
    loadCeiling cmin cmax lempty lfull load ≤ top := by
  unfold loadCeiling
  extract_lets low
  have lows : low ≤ cmax := Nat.min_le_right _ _
  split
  · exact high
  · have share : (cmax - low) * min (load - lempty) (lfull - lempty) / (lfull - lempty) ≤ cmax - low :=
      Nat.div_le_of_le_mul (by rw [Nat.mul_comm]; exact Nat.mul_le_mul_right _ (Nat.min_le_right _ _))
    omega

theorem axleStage_inRange (range : s.Ranges) (count : s.Counts) (x : Axle) {y : BrakeAxle} (h : y.InRange) : (axleStage s x y).InRange := by
  obtain ⟨_, _, _, _, _, _, _, axles, _⟩ := count.host.params
  obtain ⟨_, cmax, _, lfull⟩ := axles x
  have bellows (c : Corner) : (s.bellows c).value ≤ 1000 := by
    have top := range.samples ⟨6 + c.val, by omega⟩
    have low : 6 + c.val < 12 := by omega
    simp only [channelTop, low, if_true] at top
    exact top
  have free := freeLoad_le (bellows (kerbOf x)) (bellows (offsideOf x)) lfull
  obtain ⟨load, last, latch, _⟩ :=
    loadStage_inRange ((s.corner (kerbOf x)).phase == .level && (s.corner (offsideOf x)).phase == .level) free h
  have ceiling (l : Nat) := loadCeiling_le (lempty := s.hl.params.lempty[x.val]) (lfull := s.hl.params.lfull[x.val]) (cmin := s.hl.params.cmin[x.val]) (load := l) cmax
  exact ⟨load, last, latch, ceiling _, (driverPressure_le count.brake.demand _).trans (ceiling _), range.env.floors x, Nat.min_le_left _ _⟩

theorem Moves.pedalStage (h : Moves a s) : Moves a (pedalStage s) := by
  unfold Machine.pedalStage
  dsimp only
  refine Moves.setFlagIf _ _ (h.bc _ fun range count => ⟨?_, range.motion.speed, count.brake.axles, count.brake.channels⟩)
  exact pedalDemand_le (range.samples 18) (range.samples 19)

theorem slipNext_hold_le {p : Params} (holds : p.holds ≤ 100) {base vref slip hold prev : Nat} (few : hold ≤ 100) (x : SlipState) :
    holdNext x (slipNext p base vref slip hold prev x) hold ≤ 100 := by
  rw [holdNext_eq]
  split
  · rename_i stays
    split
    · rename_i was
      subst was
      simp only [slipNext] at stays
      split_ifs at stays
      omega
    · decide
  · exact Nat.zero_le _

theorem slipOf_le (vref vw : Nat) : slipOf vref vw ≤ 1000 := by
  unfold slipOf
  split
  · exact Nat.zero_le _
  · exact Nat.div_le_of_le_mul (Nat.mul_le_mul_right _ (Nat.sub_le _ _))

theorem channelStage_values (range : s.Ranges) (count : s.Counts) (c : Corner) :
    (if (s.chamber c).ok then runningChannel s.hl.params (s.brakeAxle c).base s.mc.speed s.mc.wheels[c.val].speed (s.chamber c)
        s.bc.channels[c.val] else degradedChannel (s.brakeAxle c).base s.mc.wheels[c.val].speed (s.chamber c)).InRange := by
  have base : (s.brakeAxle c).base ≤ 1000 := (count.brake.axles (axleOf c)).2.2.2.2.2.2
  have chamber : (s.chamber c).value ≤ 1000 := by
    have top := range.samples ⟨c.val, by omega⟩
    have low : c.val < 12 := by omega
    simp only [channelTop, low, if_true] at top
    exact top
  have wheel := range.motion.wheels c
  obtain ⟨_, _, _, _, _, _, _, _, _, _, _, _, _, _, _, _, holds, _⟩ := count.host.params
  obtain ⟨_, hold, _⟩ := count.brake.channels c
  split
  · refine ⟨fun y same => ?_, slipNext_hold_le holds hold _, slipOf_le _ _, wheel, chamber, fun n same => ?_⟩
    · cases same
      exact (targetNext_le _ _ _ _ _ _).trans base
    · have fits := commandOf_fits
        ((targetNext s.hl.params (s.brakeAxle c).base (s.bc.channels[c.val].target.getD 0) (s.chamber c).value s.bc.channels[c.val].slip
          (slipNext s.hl.params (s.brakeAxle c).base s.mc.speed (slipOf s.mc.speed s.mc.wheels[c.val].speed) s.bc.channels[c.val].holdCount
            (s.bc.channels[c.val].target.getD 0) s.bc.channels[c.val].slip) : Int) - ((s.chamber c).value : Int))
      rcases same with same | same
      · exact cast (congrArg BrakeCommand.Fits same) fits
      · exact cast (congrArg BrakeCommand.Fits same) fits
  · exact ⟨fun y same => by cases same; exact base, Nat.zero_le _, Nat.zero_le _, wheel, chamber, by
      intro n same
      rcases same with same | same <;> cases same⟩

theorem Moves.handCommand (c : Corner) (x : BrakeCommand) (h : Moves a s) : Moves a (handCommand c x s) := by
  cases x with
  | apply t => exact h.brake c .first _
  | exhaust t => exact h.brake c .second _
  | none => exact (h.brake c .first _).brake c .second _

theorem Moves.channelStage (c : Corner) (h : Moves a s) : Moves a (channelStage c s) := by
  unfold Machine.channelStage
  extract_lets x base vw old new t u
  have ht : Moves a t := by
    refine h.bc _ fun range count => ⟨count.brake.demand, count.brake.speed, count.brake.axles, fun d => ?_⟩
    dsimp only
    rw [upd_get]
    split
    · exact channelStage_values range count c
    · exact count.brake.channels d
  exact (ht.setFlagIf _ .slip).handCommand c new.command

theorem Moves.brakeExpiry (h : Moves a s) : Moves a (brakeExpiry s) := by
  unfold Machine.brakeExpiry
  extract_lets t src u
  have hu : Moves a u := (h.time _).bc _ fun _ count => ⟨count.brake.demand, count.brake.speed, count.brake.axles, count.brake.channels⟩
  split
  · exact hu
  · unfold brakeWork
    dsimp only
    refine Moves.forAll (fun c _ k => k.channelStage c) (hu.pedalStage.bc _ fun range count => ?_)
    refine ⟨count.brake.demand, count.brake.speed, fun x => ?_, count.brake.channels⟩
    dsimp only
    rw [mapAll_get]
    exact axleStage_inRange range count x (count.brake.axles x)

/-! ### The joint -/

theorem jointNext_clear_le {b : Band} {v clear : Nat} {theta rate : Int} (few : clear ≤ 99) (x : JointState) :
    (jointNext b v theta rate x clear).2 ≤ 99 := by
  unfold jointNext
  split
  · split_ifs
    · exact Nat.zero_le _
    · dsimp only
      omega
    · exact Nat.zero_le _
  · split_ifs
    · exact Nat.zero_le _
    · exact few
    · exact few
  · split_ifs
    · exact Nat.zero_le _
    · exact few
    · exact few

theorem dampingLevel_le {b : Band} (low : b.damping ≤ 7) {minimum : Nat} (least : minimum ≤ 7) (usable : Bool) (x : JointState) :
    dampingLevel b usable x minimum ≤ 7 := by
  unfold dampingLevel
  split
  · exact le_refl 7
  · refine Nat.max_le.2 ⟨least, ?_⟩
    split
    · exact low
    · exact Nat.min_le_left _ _
    · exact le_refl 7

theorem steerTarget_natAbs_le {bound : Int} (low : 0 ≤ bound) (high : bound ≤ 140) (gain : Nat) (theta : Int) :
    (steerTarget gain theta bound).natAbs ≤ 140 := by
  unfold steerTarget
  split
  · decide
  · unfold clamp
    split_ifs <;> omega

theorem followTarget_natAbs_le {command target : Int} {top : Nat} (c : command.natAbs ≤ top) (t : target.natAbs ≤ top) :
    (followTarget command target).natAbs ≤ top := by
  unfold followTarget
  split_ifs <;> omega

theorem jointCycle_inRange {bands : Vector Band 8} {v : Nat} {joint actuator : AngleCounter} {steer damping : Nat} {x : JointController}
    (hb : ∀ b : Fin 8, bands[b.val].InRange) (hj : joint.Bounded) (ha : actuator.Bounded) (hs : steer ≤ 140) (hd : damping ≤ 7)
    (h : x.InRange) : (Machine.jointCycle bands v joint actuator steer damping x).InRange := by
  obtain ⟨clear, previous, rate, damp, steerUsed, dampUsed, low, high, target, command, error⟩ := h
  unfold AngleCounter.Bounded at hj ha
  obtain ⟨_, _, _, _, _, _, _, level⟩ := hb (bandOf v)
  have bound : (0 : Int) ≤ min 140 (steer : Int) ∧ min (140 : Int) (steer : Int) ≤ 140 := by omega
  unfold Machine.jointCycle
  extract_lets usable theta r band row next locked top aim follow engaged
  have aims : aim.natAbs ≤ 140 := by
    unfold aim
    split
    · decide
    · exact steerTarget_natAbs_le bound.1 bound.2 _ _
  have follows : follow.natAbs ≤ 140 := by
    unfold follow
    split
    · decide
    · exact followTarget_natAbs_le command aims
  refine ⟨?_, fun y same => ?_, ?_, dampingLevel_le level hd _ _, hs, hd, bound.1, bound.2, aims, follows, ?_⟩
  · show next.2 ≤ 99
    unfold next
    split
    · exact jointNext_clear_le clear _
    · exact Nat.zero_le _
  · dsimp only at same
    split at same
    · cases same
      exact hj
    · cases same
  · show r.natAbs ≤ 1200
    unfold r theta
    split
    · cases was : x.previous with
      | none =>
        show (0 : Int).natAbs ≤ 1200
        decide
      | some p =>
        have := previous p was
        show (joint.count - p).natAbs ≤ 1200
        omega
    · decide
  · show (if engaged then x.error else follow - actuator.count).natAbs ≤ 740
    split
    · exact error
    · omega

theorem Moves.steerValves (engaged : Bool) (e : Int) (h : Moves a s) : Moves a (steerValves engaged e s) := by
  unfold Machine.steerValves
  split_ifs
  · exact (h.steer .first .idle).steer .second .idle
  · exact h.steer .first _
  · exact h.steer .second _
  · exact (h.steer .first .idle).steer .second .idle

theorem Moves.jointRecord (old new : JointState) (h : Moves a s) : Moves a (jointRecord old new s) := by
  unfold Machine.jointRecord
  split_ifs
  · exact (h.placeInternal _ _ _).setFlag _
  · exact h.withdraw _ _
  · exact h

theorem Moves.jointWork (h : Moves a s) : Moves a (jointWork s) := by
  have cycled : Moves a { s with js := jointCycle s.hl.params.bands s.mc.speed s.mc.joint s.mc.actuator s.eu.env.steer s.eu.env.damping s.js } :=
    h.js _ fun range count => by
      obtain ⟨_, _, _, _, _, _, _, _, _, _, _, _, _, _, _, _, _, _, _, _, _, _, _, bands⟩ := count.host.params
      exact jointCycle_inRange bands range.motion.joint range.motion.actuator range.env.steer range.env.damping count.joint
  exact Moves.steerValves _ _ (Moves.damping _ (Moves.jointRecord _ _ cycled))

/-- The cycle timer of the Joint Supervisor starts again (R124). -/
def jointRestarted (s : State) : State :=
  { atLeast s.js.cycleAt s with js := { s.js with cycleAt := (atLeast s.js.cycleAt s).now + cyclePeriod } }

theorem jointExpiry_eq (s : State) : jointExpiry s =
    if (jointRestarted s).inReset .joint then { jointRestarted s with js := { (jointRestarted s).js with engaged := true } }
    else jointWork (jointRestarted s) := rfl

theorem Moves.jointExpiry (h : Moves a s) : Moves a (jointExpiry s) := by
  have restarted : Moves a (jointRestarted s) := (h.time _).js _ fun _ count => count.joint
  rw [jointExpiry_eq]
  split
  · exact restarted.js _ fun _ count => count.joint
  · exact restarted.jointWork

end Sys2Proof.Machine
end

section
/-! PROOFS. The moves of a command, continued: the door lines and the translator. -/

namespace Sys2Proof.Machine

variable {a s : State}

/-! ### What the operations of a line keep -/

/-- Two lines of the same queue, attempts and errors. -/
structure Line.SameCounts (l m : Line) : Prop where
  attempts : m.attempts = l.attempts
  errors   : m.errors = l.errors
  queue    : m.queue = l.queue

theorem Line.SameCounts.trans {l m n : Line} (h : l.SameCounts m) (k : m.SameCounts n) : l.SameCounts n :=
  ⟨k.attempts.trans h.attempts, k.errors.trans h.errors, k.queue.trans h.queue⟩

theorem Line.SameCounts.counted {l m : Line} (h : l.SameCounts m) (c : l.Counted) : m.Counted := by
  refine ⟨?_, ?_, ?_⟩
  · rw [h.attempts]
    exact c.attempts
  · rw [h.errors]
    exact c.errors
  · rw [h.queue]
    exact c.queue

theorem Line.takeLow_sameCounts (now : Nat) (l : Line) : l.SameCounts (l.takeLow now) := by
  unfold Line.takeLow
  split
  · exact ⟨rfl, rfl, rfl⟩
  · exact ⟨rfl, rfl, rfl⟩

theorem Line.tryFree_sameCounts (now : Nat) (b : Bool) (l : Line) : l.SameCounts (l.tryFree now b) := by
  unfold Line.tryFree
  split
  · exact ⟨rfl, rfl, rfl⟩
  · split
    · split
      · exact ⟨rfl, rfl, rfl⟩
      · exact ⟨rfl, rfl, rfl⟩
    · exact ⟨rfl, rfl, rfl⟩

theorem Line.minimumOver_sameCounts (now : Nat) (b : Bool) (l : Line) : l.SameCounts (l.minimumOver now b) :=
  Line.SameCounts.trans (m := { l with minimumAt := none }) ⟨rfl, rfl, rfl⟩ (Line.tryFree_sameCounts now b _)

theorem Line.fill_sameCounts (now : Nat) (code : BitVec 7) (l : Line) : l.SameCounts (l.fill now code) :=
  Line.SameCounts.trans (m := { l with holding := some code, activity := .held }) ⟨rfl, rfl, rfl⟩ (Line.takeLow_sameCounts now _)

theorem Line.startSend_sameCounts (now : Nat) (c : Command) (l : Line) : l.SameCounts (l.startSend now c) := by
  unfold Line.startSend
  refine Line.SameCounts.trans ?_ (Line.takeLow_sameCounts now _)
  exact ⟨rfl, rfl, rfl⟩

theorem Line.releaseSend_sameCounts (now : Nat) (x : Send) (l : Line) : l.SameCounts (l.releaseSend now x) := by
  unfold Line.releaseSend
  refine Line.SameCounts.trans ?_ (Line.tryFree_sameCounts now false _)
  exact ⟨rfl, rfl, rfl⟩

theorem Line.taken_sameCounts (now : Nat) (b : Bool) (l : Line) : l.SameCounts (l.taken now b) := by
  unfold Line.taken
  refine Line.SameCounts.trans ?_ (Line.tryFree_sameCounts now b _)
  exact ⟨rfl, rfl, rfl⟩

theorem Line.setBits_sameCounts : ∀ (bs : List Bool) (l : Line), l.SameCounts (bs.foldl Line.setBit l)
  | [], _ => ⟨rfl, rfl, rfl⟩
  | b :: bs, l => Line.SameCounts.trans (m := l.setBit b) ⟨rfl, rfl, rfl⟩ (Line.setBits_sameCounts bs _)

theorem Line.clockedIn_sameCounts (c : Command) (l : Line) : l.SameCounts (l.clockedIn c) :=
  have set := (Line.setBits_sameCounts c.levels { l with sent := [] })
  ⟨set.attempts, set.errors, set.queue⟩

theorem Line.attempted_counted (ack : Bool) (fate : SendFate) {l : Line} (h : l.Counted) : (l.attempted ack fate).Counted := by
  unfold Line.attempted
  dsimp only
  split
  · split
    · exact ⟨Nat.zero_le _, h.errors, by rw [List.map_tail]; exact h.queue.sublist (List.tail_sublist _)⟩
    · rename_i kept
      refine ⟨?_, h.errors, h.queue⟩
      simp only [drops, Bool.or_eq_true, Bool.and_eq_true, decide_eq_true_eq, not_or, not_and, beq_self_eq_true, true_and,
        Bool.not_eq_true'] at kept
      have few := kept.2 (Bool.eq_false_iff.mpr kept.1)
      show l.attempts + 1 ≤ 2
      omega
  · exact ⟨Nat.zero_le _, h.errors, h.queue⟩
  · exact ⟨Nat.zero_le _, h.errors, h.queue⟩

/-- A change of a line that keeps its counts. -/
theorem Moves.line (d : Door) (f : Line → Line) (same : ∀ l : Line, l.SameCounts (f l)) (h : Moves a s) : Moves a (Machine.changeLine d f s) :=
  h.changeLine d f (same _).counted

/-- A change of every line that keeps their counts. -/
theorem Moves.allLines (f : Fin 4 → Line → Line) (count : ∀ d (l : Line), l.Counted → (f d l).Counted) (x : RampState) (h : Moves a s) :
    Moves a { s with dl := ⟨mapAll s.dl.lines f, x⟩ } :=
  h.dl _ fun c d => by
    dsimp only
    rw [mapAll_get]
    exact count d _ (c.lines d)

/-! ### Words, clocks and sends -/

theorem Moves.settleClock (d : Door) (h : Moves a s) : Moves a (settleClock d s) := by
  unfold Machine.settleClock
  dsimp only
  split
  · split
    · exact (h.time _).line d _ (Line.minimumOver_sameCounts _ _)
    · exact h
  · exact h

theorem Moves.doorEvent (d : Door) (h : Moves a s) : Moves a (doorEvent d s) := ((h.setFlag .door).evalListing _).evalInhibit

theorem Moves.rampEvent (h : Moves a s) : Moves a (rampEvent s) := (h.setFlag .door).evalListing _

theorem Moves.setDoor (d : Door) (x : DoorState) (h : Moves a s) : Moves a (setDoor d x s) := by
  unfold Machine.setDoor
  split
  · exact h
  · exact (h.line d (fun l => { l with door := x }) fun _ => ⟨rfl, rfl, rfl⟩).doorEvent d

theorem Moves.setRamp (x : RampState) (h : Moves a s) : Moves a (setRamp x s) := by
  unfold Machine.setRamp
  split
  · exact h
  · exact (h.dl { s.dl with ramp := x } fun c => c.lines).rampEvent

theorem Moves.takeReport (d : Door) (code : Nat) (h : Moves a s) : Moves a (takeReport d code s) := by
  unfold Machine.takeReport
  dsimp only
  have door : Moves a (match doorReport code with | some x => Machine.setDoor d x s | none => s) := by
    split
    · exact h.setDoor d _
    · exact h
  split
  · exact door.setRamp _
  · exact door

theorem Moves.stopPrefixTimer (d : Door) (h : Moves a s) : Moves a (stopPrefixTimer d s) := h.translator _ rfl

theorem Moves.discardWord (d : Door) (h : Moves a s) : Moves a (discardWord d s) :=
  h.changeLine d _ fun c => ⟨c.attempts, bump_le, c.queue⟩

theorem Moves.acceptWord (d : Door) (code : BitVec 7) (h : Moves a s) : Moves a (acceptWord d code s) := by
  unfold Machine.acceptWord
  extract_lets was t u v
  have ht : Moves a t := h.line d (fun l => l.heard s.now) fun _ => ⟨rfl, rfl, rfl⟩
  have hu : Moves a u := by
    unfold u
    split
    · exact ht
    · exact ht.restorePermission d
  have hv : Moves a v := by
    unfold v
    split
    · exact hu.stopPrefixTimer d
    · exact hu.takeReport d _
  exact hv.line d _ (Line.fill_sameCounts _ _)

theorem Moves.judgeWord (d : Door) (code : BitVec 7) (parity : Bool) (stop : StopBit) (h : Moves a s) :
    Moves a (judgeWord d code parity stop s) := by
  unfold Machine.judgeWord
  split
  · exact h.acceptWord d code
  · exact h.discardWord d

theorem Moves.takeWord (d : Door) (code : BitVec 7) (parity : Bool) (stop : StopBit) (h : Moves a s) :
    Moves a (takeWord d code parity stop s) := by
  unfold Machine.takeWord
  split
  · exact (h.settleClock d).judgeWord d code parity stop
  · exact (h.settleClock d).judgeWord d code parity stop
  · exact h
  · exact h.line d _ fun _ => ⟨rfl, rfl, rfl⟩

theorem Moves.startWord (d : Door) (h : Moves a s) : Moves a (startWord d s) := by
  unfold Machine.startWord
  split
  · exact (h.settleClock d).line d _ fun _ => ⟨rfl, rfl, rfl⟩
  · exact h
  · exact h
  · exact h

theorem Moves.stopWord (d : Door) (h : Moves a s) : Moves a (stopWord d s) := by
  unfold Machine.stopWord
  split
  · exact (h.time _).discardWord d
  · exact h
  · exact h
  · exact h

theorem Moves.minimumEnd (d : Door) (h : Moves a s) : Moves a (minimumEnd d s) := by
  unfold Machine.minimumEnd
  split
  · exact h
  · exact (h.time _).line d _ (Line.minimumOver_sameCounts _ _)

theorem Moves.beginSend (d : Door) (h : Moves a s) : Moves a (beginSend d s) := by
  unfold Machine.beginSend
  split
  · dsimp only
    split
    · exact ((h.settleClock d).time _).line d _ (Line.startSend_sameCounts _ _)
    · exact (h.settleClock d).time _
  · exact h

theorem Moves.releaseClock (d : Door) (h : Moves a s) : Moves a (releaseClock d s) := by
  unfold Machine.releaseClock
  split
  · split
    · exact h
    · exact (h.time _).line d _ (Line.releaseSend_sameCounts _ _)
  · exact h

theorem Moves.settleAttempt (d : Door) (ack : Bool) (fate : SendFate) (h : Moves a s) : Moves a (settleAttempt d ack fate s) :=
  (h.changeLine d _ (Line.attempted_counted ack fate)).setFlagIf _ _

theorem Moves.endSend (d : Door) (ack : Bool) (x : Send) (h : Moves a s) : Moves a (endSend d ack x s) := by
  unfold Machine.endSend
  extract_lets t u
  have ht : Moves a t := h.line d _ fun _ => ⟨rfl, rfl, rfl⟩
  have hu : Moves a u := by
    unfold u
    split
    · exact ht.judgeWord d _ _ _
    · exact ht
  exact hu.settleAttempt d ack x.fate

theorem Moves.attemptEdge (d : Door) (ack : Bool) (h : Moves a s) : Moves a (attemptEdge d ack s) := by
  unfold Machine.attemptEdge
  split
  · split
    · exact (h.line d _ (Line.clockedIn_sameCounts _)).endSend d ack _
    · exact h
  · exact h

theorem Moves.attemptTimeout (d : Door) (h : Moves a s) : Moves a (attemptTimeout d s) := by
  unfold Machine.attemptTimeout
  split
  · split
    · exact (h.time _).endSend d false _
    · exact h
  · exact h

theorem Moves.lossExpiry (d : Door) (h : Moves a s) : Moves a (lossExpiry d s) := by
  unfold Machine.lossExpiry
  split
  · rename_i t _
    have lost : Moves a (Machine.setDoor d .unknown (Machine.stopPrefixTimer d (Machine.changeLine d Line.lost (atLeast t s)))) :=
      (((h.time _).line d Line.lost fun _ => ⟨rfl, rfl, rfl⟩).stopPrefixTimer d).setDoor d .unknown
    dsimp only
    split
    · exact lost.setRamp _
    · exact lost
  · exact h
  · exact h

theorem Line.doorsReset_counted (now : Nat) (l : Line) : (l.doorsReset now).Counted := by
  unfold Line.doorsReset
  exact (Line.takeLow_sameCounts now _).counted ⟨Nat.zero_le _, Nat.zero_le _, List.nodup_nil⟩

theorem Moves.sendUnknown (old : DoorLines) (h : Moves a s) : Moves a (sendUnknown old s) := by
  unfold Machine.sendUnknown
  dsimp only
  have doors : Moves a (Sys2Proof.forAll 4 (fun d s => if old.lines[d.val].door = .unknown then s else Machine.doorEvent d s) s) := by
    refine h.forAll fun d t ht => ?_
    split
    · exact ht
    · exact ht.doorEvent d
  split
  · exact doors
  · exact doors.rampEvent

theorem Moves.startDoorsReset (h : Moves a s) : Moves a (startDoorsReset s) := by
  unfold Machine.startDoorsReset
  have lines := h.allLines (fun _ l => l.doorsReset s.now) (fun _ l _ => l.doorsReset_counted s.now) .unknown
  refine Moves.sendUnknown _ (Moves.dt { s.dt with prefixAt := Vector.replicate 4 none } ?_ lines)
  exact fun c => c.ignored

theorem Moves.endDoorsReset (h : Moves a s) : Moves a (endDoorsReset s) := by
  unfold Machine.endDoorsReset
  have lines := h.allLines (fun _ l => l.tryFree s.now false) (fun _ l => (l.tryFree_sameCounts s.now false).counted) s.dl.ramp
  exact lines.forAll fun d _ k => k.restorePermission d

/-! ### The translator -/

theorem Moves.countIgnored (d : Door) (h : Moves a s) : Moves a (countIgnored d s) :=
  h.dt _ fun c e => by
    dsimp only
    rw [upd_get]
    split
    · exact bump_le
    · exact c.ignored e

theorem Moves.act (d : Door) (kneel : Bool) (x : Action) (h : Moves a s) : Moves a (act d kneel x s) := by
  cases x with
  | ignore => exact h.countIgnored d
  | place k v =>
    simp only [Machine.act, actPlace]
    split
    · exact (h.placeRecord _).countIgnored d
    · exact h.placeRecord _
  | release k =>
    simp only [Machine.act, actRelease]
    split
    · exact h.ownerRetire _
    · exact h
  | send c => exact h.queueCommand d c
  | haltKneel =>
    simp only [Machine.act]
    split
    · exact h.haltKneel
    · exact h.countIgnored d
  | resumeKneel =>
    simp only [Machine.act]
    split
    · exact h.resumeKneel
    · exact h.countIgnored d
  | clearQueue => exact h.clearQueue d

theorem Moves.runCell (d : Door) (row : Fin 256) (h : Moves a s) : Moves a (runCell d row s) :=
  h.foldl (fun x _ k => k.act d _ x) _

theorem Moves.takePrefix (d : Door) (h : Moves a s) : Moves a (takePrefix d s) := by
  have marked : Moves a (Machine.changeLine d (fun l => { l with prefixPending := true }) s) := h.line d _ fun _ => ⟨rfl, rfl, rfl⟩
  exact Moves.translator _ rfl marked

/-- The translator has served a line. -/
theorem Moves.served (d : Door) (h : Moves a s) : Moves a { s with dt := { s.dt with lastServed := d } } := h.translator _ rfl

theorem Moves.translate (d : Door) (code : BitVec 7) (extended : Bool) (h : Moves a s) : Moves a (translate d code extended s) := by
  have served := (h.line d (fun l => l.taken s.now (s.inReset .doors)) (Line.taken_sameCounts _ _)).served d
  unfold Machine.translate
  dsimp only
  split
  · exact Moves.runCell d _ (served.line d _ fun _ => ⟨rfl, rfl, rfl⟩)
  · split
    · exact Moves.takePrefix d served
    · exact Moves.runCell d _ served

theorem Moves.translateNext (h : Moves a s) : Moves a (translateNext s) := by
  unfold Machine.translateNext
  split
  · exact h
  · split
    · exact h.translate _ _ _
    · exact h

theorem Moves.prefixExpiry (d : Door) (h : Moves a s) : Moves a (prefixExpiry d s) := by
  unfold Machine.prefixExpiry
  split
  · exact h
  · exact ((h.time _).stopPrefixTimer d).line d _ fun _ => ⟨rfl, rfl, rfl⟩

end Sys2Proof.Machine
end

section
/-! PROOFS. The moves of a command, continued: the parameter store and the Host Link. -/

namespace Sys2Proof.Machine

variable {a s : State}

/-! ### The parameter store (R177) -/

/-- A write keeps the ranges of the store `p` and returns six bytes at most. -/
structure ParamWrite.Kept (p : Params) (w : ParamWrite) : Prop where
  params : p.InRange → w.params.InRange
  stored : w.stored.length ≤ 6

theorem ranged_params {lo hi v : Int} {f : Nat → Params} {w : ParamWrite} (order : 0 ≤ lo ∧ lo ≤ hi) (h : ranged lo hi v f = some w) :
    ∃ n : Nat, lo ≤ n ∧ (n : Int) ≤ hi ∧ w.params = f n ∧ w.stored.length = 2 := by
  cases h
  refine ⟨(clamp v lo hi).toNat, ?_, ?_, rfl, rfl⟩
  · unfold clamp
    omega
  · unfold clamp
    omega

variable {p : Params} {w : ParamWrite} {v : Int}

theorem ranged_kept {lo hi : Int} {f : Nat → Params} (order : 0 ≤ lo ∧ lo ≤ hi)
    (keeps : ∀ n : Nat, lo ≤ n → (n : Int) ≤ hi → p.InRange → (f n).InRange) (h : ranged lo hi v f = some w) : w.Kept p := by
  obtain ⟨n, low, high, params, stored⟩ := ranged_params order h
  exact ⟨fun range => params ▸ keeps n low high range, by omega⟩

theorem Params.InRange.bands (range : p.InRange) : ∀ b : Fin 8, p.bands[b.val].InRange := by
  unfold Params.InRange at range
  grind

theorem Params.InRange.thresholds (range : p.InRange) : p.reserve ≤ 1200 ∧ p.low ≤ 1200 ∧ p.critical ≤ 1200 := by
  unfold Params.InRange at range
  grind

/-- R50: thresholds within 0 to 1200 are put in order. -/
theorem orderThresholds_inRange {q : Params} (range : p.InRange)
    (others : q = { p with reserve := q.reserve, low := q.low, critical := q.critical }) (reserve : q.reserve ≤ 1200) (low : q.low ≤ 1200)
    (critical : q.critical ≤ 1200) : (orderThresholds q).InRange := by
  rw [others]
  unfold orderThresholds Params.InRange at *
  dsimp only
  grind

theorem writeThreshold_kept {f : Nat → Params} (keeps : ∀ n : Nat, n ≤ 1200 → p.InRange → (orderThresholds (f n)).InRange)
    (h : writeThreshold v f = some w) : w.Kept p := by
  unfold writeThreshold at h
  obtain ⟨x, stored, rfl⟩ := Option.map_eq_some_iff.mp h
  obtain ⟨n, _, high, params, _⟩ := ranged_params (by decide) stored
  refine ⟨fun range => ?_, Nat.le_refl 6⟩
  show (orderThresholds x.params).InRange
  rw [params]
  exact keeps n (by omega) range

theorem writeAxle_kept {i : Nat} {f : Fin 3 → Nat → Params} (keeps : ∀ (x : Fin 3) (n : Nat), n ≤ 1000 → p.InRange → (f x n).InRange)
    (h : writeAxle v i f = some w) : w.Kept p := by
  unfold writeAxle at h
  split at h
  · exact ranged_kept (by decide) (fun n _ high => keeps _ n (by omega)) h
  · cases h

theorem writeBand_kept {lo hi : Int} {i : Nat} {f : Band → Nat → Band} (order : 0 ≤ lo ∧ lo ≤ hi)
    (keeps : ∀ (b : Band) (n : Nat), lo ≤ n → (n : Int) ≤ hi → b.InRange → (f b n).InRange) (h : writeBand p lo hi v i f = some w) :
    w.Kept p := by
  unfold writeBand at h
  split at h
  · rename_i small
    refine ranged_kept order (fun n low high range => ?_) h
    have bands : ∀ b : Fin 8, ((upd p.bands ⟨i, small⟩ fun b => f b n)[b.val]).InRange := fun b => by
      rw [upd_get]
      split
      · exact keeps _ n low high (range.bands ⟨i, small⟩)
      · exact range.bands b
    unfold Params.InRange at *
    grind
  · cases h

/-- An entry of an axle's table is set. -/
theorem setEntry_le {n top : Nat} {v : Vector Nat n} (range : ∀ i : Fin n, v[i.val] ≤ top) (x : Fin n) {y : Nat} (small : y ≤ top) (i : Fin n) :
    (v.set x.val y)[i.val] ≤ top := by
  rw [Vector.getElem_set]
  split
  · exact small
  · exact range i

/-- R177: a write of a parameter keeps every value of the store within its range. -/
theorem writeParam_kept {n i : Nat} (h : writeParam n i v p = some w) : w.Kept p := by
  unfold writeParam at h
  split at h
  case h_1 | h_2 | h_10 | h_11 | h_12 | h_13 | h_14 | h_15 | h_16 | h_17 =>
    refine ranged_kept (by decide) (fun n low high range => ?_) h
    unfold Params.InRange at *
    grind
  case h_3 =>
    refine writeThreshold_kept (fun n small range => ?_) h
    exact orderThresholds_inRange range rfl small range.thresholds.2.1 range.thresholds.2.2
  case h_4 =>
    refine writeThreshold_kept (fun n small range => ?_) h
    exact orderThresholds_inRange range rfl range.thresholds.1 small range.thresholds.2.2
  case h_5 =>
    refine writeThreshold_kept (fun n small range => ?_) h
    exact orderThresholds_inRange range rfl range.thresholds.1 range.thresholds.2.1 small
  case h_6 | h_7 | h_8 | h_9 =>
    refine writeAxle_kept (fun x n small range => ?_) h
    unfold Params.InRange at *
    grind [setEntry_le]
  case h_18 =>
    split at h
    · obtain ⟨x, _, rfl⟩ := Option.map_eq_some_iff.mp h
      exact ⟨id, Nat.le_of_ble_eq_true rfl⟩
    · cases h
  case h_19 | h_20 | h_21 | h_22 | h_23 =>
    refine writeBand_kept (by decide) (fun b n low high band => ?_) h
    unfold Band.InRange at *
    grind
  case h_24 => cases h

/-! ### Responses (R170 to R173, R182) -/

theorem frameOf_length (code : Byte) (st : Status) (payload : List Byte) : (frameOf code st payload).length = payload.length + 4 := by
  simp only [frameOf, List.length_append, List.length_cons, List.length_nil]
  omega

theorem Moves.transact (n : Nat) (h : Moves a s) : Moves a (transact n s) := h.host _ rfl rfl rfl rfl

theorem Moves.takeRequest (n : Nat) (h : Moves a s) : Moves a (takeRequest n s) := (h.transact n).host _ rfl rfl rfl rfl

theorem Moves.answer (code : Byte) (st : Status) {payload : List Byte} (short : payload.length ≤ 26) (h : Moves a s) :
    Moves a (answer code st payload s) :=
  h.hl _ id fun c => ⟨c.host.params, c.host.runCount, by
    show (frameOf code st payload).length ≤ 30
    rw [frameOf_length]
    omega⟩

theorem Moves.refuse (code : Byte) (st : Status) (h : Moves a s) : Moves a (refuse code st s) := h.answer code st (Nat.zero_le _)

theorem Moves.failCheck (code : Byte) (h : Moves a s) : Moves a (failCheck code s) := (h.refuse code .check).setFlag .link

theorem handleBytes_length (h : Option Handle) : (handleBytes h).length = 2 := by
  cases h
  · rfl
  · rfl

theorem pageOf_length {image bytes : List Byte} {p : Nat} (h : pageOf image p = some bytes) : bytes.length ≤ 26 := by
  unfold pageOf at h
  split at h
  · cases h
    exact List.length_take_le _ _
  · cases h

theorem Moves.answerPage (code : Byte) (image : List Byte) (page : Byte) (h : Moves a s) : Moves a (answerPage code image page s) := by
  unfold Machine.answerPage
  split
  · rename_i bytes page
    exact h.answer _ _ (pageOf_length page)
  · exact h.refuse _ _

/-! ### Configuration, supervision and resets (R176 to R181) -/

theorem Moves.configure (h : Moves a s) : Moves a (configure s) := by
  have configured : Moves a { s with hl := { s.hl with configured := true } } := h.host _ rfl rfl rfl rfl
  have watching := (configured.evalListing (· == .configDone)).startWatching
  exact watching.hl _ id fun c => ⟨c.host.params, Nat.zero_le _, c.host.response⟩

theorem Moves.runCount (x : HostLink) (n : Nat) (small : n ≤ 9) (resets : x.resets = s.hl.resets) (params : x.params = s.hl.params)
    (runs : x.runCount = n) (response : x.response = s.hl.response) (h : Moves a s) : Moves a { s with hl := x } :=
  h.hl x (by rw [resets]; exact id) fun c => ⟨params ▸ c.host.params, runs ▸ small, response ▸ c.host.response⟩

theorem Moves.beat (h : Moves a s) : Moves a (beat s) := by
  unfold Machine.beat
  refine Moves.host _ rfl rfl rfl rfl ?_
  split
  · exact h
  · split
    · split
      · have regained : Moves a { s with hl := { s.hl with supervised := true, runCount := 0 } } :=
          h.runCount _ 0 (Nat.zero_le _) rfl rfl rfl rfl
        exact regained.withdraw _ _
      · exact h.runCount _ (s.hl.runCount + 1) (by omega) rfl rfl rfl rfl
    · exact h.runCount _ 0 (Nat.zero_le _) rfl rfl rfl rfl

theorem Moves.heartExpiry (h : Moves a s) : Moves a (heartExpiry s) := by
  unfold Machine.heartExpiry
  split
  · exact h
  · rename_i t _
    have lost : Moves a { atLeast t s with hl := { s.hl with heartAt := none, supervised := false, runCount := 0 } } :=
      (h.time t).runCount _ 0 (Nat.zero_le _) rfl rfl rfl rfl
    dsimp only
    split
    · exact lost.placeInternal _ _ _
    · exact lost

/-- The reset of another group than LEVEL is set, or LEVEL's is set anew or ended. -/
theorem Moves.setReset (g : Group) (t : Option Nat) (ok : g = .level → t.isSome = true → s.inReset .level = true) (h : Moves a s) :
    Moves a (setReset g t s) :=
  h.hl _ (by
    show ((upd s.hl.resets (Group.index g) fun _ => t)[(Group.index .level).val]).isSome = true → _
    rw [upd_get]
    split
    · rename_i same
      refine ok ?_
      cases g
      case level => rfl
      all_goals cases same
    · exact id) fun c => ⟨c.host.params, c.host.runCount, c.host.response⟩

theorem BrakeChannel.hold_inRange {x : BrakeChannel} (h : x.InRange) : x.hold.InRange := by
  obtain ⟨_, _, _, wheel, sample, _⟩ := h
  exact ⟨nofun, Nat.zero_le _, Nat.zero_le _, wheel, sample, fun n bad => by simp [BrakeChannel.hold] at bad⟩

theorem Moves.startBrakeReset (h : Moves a s) : Moves a (startBrakeReset s) :=
  h.bc _ fun _ c => by
    refine ⟨c.brake.demand, c.brake.speed, fun x => ?_, fun x => ?_⟩
    · dsimp only
      rw [mapAll_get]
      obtain ⟨load, _, _, rest⟩ := c.brake.axles x
      exact ⟨load, nofun, nofun, rest⟩
    · dsimp only
      rw [mapAll_get]
      exact BrakeChannel.hold_inRange (c.brake.channels x)

theorem Moves.startJointReset (h : Moves a s) : Moves a (startJointReset s) :=
  h.js _ fun _ c => by
    obtain ⟨clear, _, rate, damping, steer, used, low, high, _, _, error⟩ := c.joint
    exact ⟨clear, nofun, rate, damping, steer, used, low, high, Nat.zero_le _, Nat.zero_le _, error⟩

/-- A group other than LEVEL enters its reset; LEVEL's is a move of its own. -/
theorem Moves.startReset (g : Group) (other : g ≠ .level) (h : Moves a s) : Moves a (startReset g s) := by
  have quiet := h.quiet g other
  cases g with
  | brake => exact quiet.startBrakeReset
  | level => exact absurd rfl other
  | joint => exact quiet.startJointReset
  | doors => exact quiet.startDoorsReset
  | sense => exact quiet.startSenseReset

theorem Moves.resetGroup (g : Group) (time : Nat) (h : Moves a s) : Moves a (resetGroup g time s) := by
  unfold Machine.resetGroup
  dsimp only
  split
  · rename_i was
    exact h.setReset g _ fun level _ => level ▸ was
  · by_cases level : g = .level
    · cases level
      exact h.levelReset _
    · exact (h.setReset g _ fun is => absurd is level).startReset g level

theorem Moves.endReset (g : Group) (live : s.inReset g = false) (h : Moves a s) : Moves a (endReset g s) := by
  cases g with
  | level => exact h.endLevelReset live
  | doors => exact h.endDoorsReset
  | brake => exact h
  | joint => exact h
  | sense => exact h

theorem Moves.groupEnd (g : Group) (h : Moves a s) : Moves a (groupEnd g s) := by
  unfold Machine.groupEnd
  split
  · exact h
  · refine Moves.endReset g ?_ ((h.time _).setReset g none nofun)
    simp [State.inReset, Machine.setReset]

/-! ### What a write does at once (R50, R52, R119) -/

theorem Moves.paramWritten (n : Nat) (old : Params) (h : Moves a s) : Moves a (paramWritten n old s) := by
  have rewritten : Moves a (wheelRewritten s) :=
    h.mc _ (fun r => ⟨r.motion.speed, r.motion.wheels, r.motion.joint, r.motion.actuator⟩) fun c =>
      ⟨c.motion.circ, c.motion.teeth, Nat.zero_le _, fun x => by simp, c.motion.wheels, c.motion.joint,
      c.motion.actuator⟩
  unfold Machine.paramWritten
  split
  · exact rewritten
  · exact rewritten
  · unfold thresholdsRewritten
    dsimp only
    split
    · exact h
    · split
      · exact h.evalComparators _
      · exact h
  · unfold sourceRewritten
    split
    · exact h
    · rename_i live
      exact h.forCorners refreshSource_only (fun c _ live k => k.refreshSource c live) (Bool.eq_false_iff.mpr live)
  · exact h

/-- R4: a written row keeps the ranges of section 1.2. -/
theorem Profile.written_inRange {row : Profile} (k : Kind) (variant : Option Variant) (v : Supplied) (h : row.InRange) :
    (row.written k variant v).InRange := by
  obtain ⟨floor, ceiling, steer, offset, damping, swing, delay, arm, conds⟩ := h
  refine ⟨takeNat_le floor, takeNat_le ceiling, takeNat_le steer, takeOffset_bounds offset, damping, takeNat_le swing, takeNat_getD_le delay,
    takeNat_getD_le arm, ?_⟩
  unfold Profile.written
  dsimp only
  split
  · rw [List.length_map]
    exact mergeConds_length _
  · exact conds

theorem Moves.setProfile (k : Kind) (row : Profile) (range : s.Ranges → row.InRange) (h : Moves a s) : Moves a (setProfile k row s) :=
  h.profiles _ fun r j => by
    rw [upd_get]
    split
    · exact range r
    · exact r.profiles j

theorem Moves.writeProfile (kind variant : Byte) (v : Supplied) (h : Moves a s) : Moves a (writeProfile kind variant v s).2 := by
  unfold Machine.writeProfile
  split
  · exact h
  · dsimp only
    split
    · exact h
    · split
      · exact h
      · exact h.setProfile _ _ fun r => Profile.written_inRange _ _ _ (r.profiles _)

/-! ### The requests -/

theorem Moves.placeChecked (o : Owner) (kind variant : Byte) (v : Supplied) (parent : Option (Option Handle)) (h : Moves a s) :
    Moves a (placeChecked o kind variant v parent s).state := by
  unfold Machine.placeChecked
  split
  · exact h
  · split
    · exact h
    · split
      · exact h
      · exact h.placeRecord _

theorem Moves.applyBatch (o : Owner) : ∀ (es : List AmendEntry) (n : Nat) (clamped : Bool) {s : State}, Moves a s →
    Moves a (applyBatch o es n clamped s).state
  | [], _, _, _, h => h
  | e :: es, n, clamped, s, h => by
    have amended := h.amendOne o e.handle e.change
    unfold Machine.applyBatch
    split
    · rename_i answered
      rw [answered] at amended
      exact Moves.applyBatch o es _ _ amended
    · rename_i answered
      rw [answered] at amended
      exact Moves.applyBatch o es _ _ amended
    · exact h

/-- A body of a request answers by moves. -/
def BodyMoves (body : HostOwner → List Byte → State → State) : Prop :=
  ∀ (o : HostOwner) (payload : List Byte) {a s : State}, Moves a s → Moves a (body o payload s)

theorem Moves.serve {body : HostOwner → List Byte → State → State} (moves : BodyMoves body) {code : Byte} {accepts : Accepts} (f : HostFrame)
    (h : Moves a s) : Moves a (serve code accepts body f s) := by
  unfold Machine.serve
  dsimp only
  split
  · exact (h.takeRequest _).failCheck _
  · split
    · exact (h.takeRequest _).refuse _ _
    · split
      · exact moves _ _ (h.takeRequest _)
      · exact (h.takeRequest _).refuse _ _

theorem readWhole_moves (code : Byte) (image : State → List Byte) : BodyMoves fun _ => readWhole code image := by
  intro o payload a s h
  unfold readWhole
  dsimp only
  split
  · exact h.answerPage _ _ _
  · exact h.refuse _ _

theorem readIndexed_moves {α : Type} (code : Byte) (index : Byte → Option α) (image : State → α → List Byte) :
    BodyMoves fun _ => readIndexed code index image := by
  intro o payload a s h
  unfold readIndexed
  dsimp only
  split
  · split
    · exact h.answerPage _ _ _
    · exact h.refuse _ _
  · exact h.refuse _ _

theorem bodyPlace_moves : BodyMoves bodyPlace := by
  intro o payload a s h
  unfold bodyPlace
  split
  · split
    · refine (h.placeChecked _ _ _ _ _).answer _ _ ?_
      split
      · rw [handleBytes_length]
        decide
      · exact Nat.zero_le _
    · exact h.refuse _ _
  · exact h.refuse _ _

theorem bodyQuery_moves : BodyMoves bodyQuery := by
  intro o payload a s h
  unfold bodyQuery
  split
  · split
    · exact h.answerPage _ _ _
    · exact h.refuse _ _
  · exact h.refuse _ _

theorem bodyFind_moves : BodyMoves bodyFind := by
  intro o payload a s h
  unfold bodyFind
  split
  · refine h.answer _ _ ?_
    rw [handleBytes_length]
    decide
  · exact h.refuse _ _

theorem bodyList_moves : BodyMoves bodyList := by
  intro o payload a s h
  unfold bodyList
  split
  · exact h.answer _ _ (by simp [listResponse, u16])
  · exact h.refuse _ _

theorem bodyAmend_moves : BodyMoves bodyAmend := by
  intro o payload a s h
  unfold bodyAmend
  split
  · split
    · exact h.refuse _ _
    · split
      · exact h.answer _ _ (Nat.le_of_ble_eq_true rfl)
      · refine (h.applyBatch _ _ _ _).answer _ _ ?_
        unfold u8Opt
        split
        · exact Nat.le_of_ble_eq_true rfl
        · exact Nat.le_of_ble_eq_true rfl
  · exact h.refuse _ _

theorem bodyRetire_moves : BodyMoves bodyRetire := by
  intro o payload a s h
  unfold bodyRetire
  split
  · split
    · exact h.refuse _ _
    · split
      · exact h.refuse _ _
      · exact (h.ownerRetire _).answer _ _ (Nat.zero_le _)
  · exact h.refuse _ _

theorem bodyRetireForce_moves : BodyMoves bodyRetireForce := by
  intro o payload a s h
  unfold bodyRetireForce
  split
  · split
    · exact h.refuse _ _
    · split
      · exact h.refuse _ _
      · split
        · exact h.refuse _ _
        · split
          · exact h.refuse _ _
          · exact h.refuse _ _
          all_goals exact (h.forceRetire _).answer _ _ (Nat.zero_le _)
  · exact h.refuse _ _

theorem bodySetDoorRelease_moves : BodyMoves bodySetDoorRelease := by
  intro o payload a s h
  unfold bodySetDoorRelease
  split
  · split
    · exact h.refuse _ _
    · split
      · exact h.refuse _ _
      · split
        · exact h.refuse _ _
        · exact (h.setReleaseSet _).answer _ _ (Nat.le_of_ble_eq_true rfl)
  · exact h.refuse _ _

theorem bodyDoorCommand_moves : BodyMoves bodyDoorCommand := by
  intro o payload a s h
  unfold bodyDoorCommand
  split
  · split
    · exact h.refuse _ _
    · split
      · split
        · exact h.refuse _ _
        · exact (h.queueCommand _ _).answer _ _ (Nat.zero_le _)
      · exact h.refuse _ _
  · exact h.refuse _ _

theorem Moves.setService (b : Bool) (h : Moves a s) : Moves a (setService b s) := h.host _ rfl rfl rfl rfl

theorem bodySetMode_moves : BodyMoves bodySetMode := by
  intro o payload a s h
  unfold bodySetMode
  split
  · split
    · exact h.refuse _ _
    · split
      · exact h.answer _ _ (Nat.zero_le _)
      · split
        · exact (h.setService _).answer _ _ (Nat.zero_le _)
        · split
          · exact (h.setService _).answer _ _ (Nat.zero_le _)
          · exact h.refuse _ _
  · exact h.refuse _ _

theorem bodyHeartbeat_moves : BodyMoves bodyHeartbeat := by
  intro o payload a s h
  unfold bodyHeartbeat
  split
  · refine Moves.answer _ _ (Nat.le_of_ble_eq_true rfl) ?_
    split
    · exact h.beat
    · exact h
  · exact h.refuse _ _

theorem bodyAckAttention_moves : BodyMoves bodyAckAttention := by
  intro o payload a s h
  unfold bodyAckAttention
  split
  · exact Moves.answer _ _ (Nat.le_of_ble_eq_true rfl) (h.host _ rfl rfl rfl rfl)
  · exact h.refuse _ _

theorem bodySetAttentionMask_moves : BodyMoves bodySetAttentionMask := by
  intro o payload a s h
  unfold bodySetAttentionMask
  split
  · exact Moves.answer _ _ (Nat.le_of_ble_eq_true rfl) (h.host _ rfl rfl rfl rfl)
  · exact h.refuse _ _

theorem bodyLastStatus_moves : BodyMoves bodyLastStatus := by
  intro o payload a s h
  unfold bodyLastStatus
  split
  · exact h.answer _ _ (Nat.le_of_ble_eq_true rfl)
  · exact h.refuse _ _

theorem bodyWriteXlate_moves : BodyMoves bodyWriteXlate := by
  intro o payload a s h
  unfold bodyWriteXlate
  split
  · split
    · exact h.refuse _ _
    · split
      · exact h.refuse _ _
      · split
        · split
          · exact h.refuse _ _
          · exact Moves.answer _ _ (Nat.zero_le _) (h.translator _ rfl)
        · exact h.refuse _ _
  · exact h.refuse _ _

theorem bodyWriteProfile_moves : BodyMoves bodyWriteProfile := by
  intro o payload a s h
  unfold bodyWriteProfile
  split
  · split
    · exact h.refuse _ _
    · split
      · exact h.refuse _ _
      · exact (h.writeProfile _ _ _).answer _ _ (Nat.zero_le _)
  · exact h.refuse _ _

theorem bodyConfigDone_moves : BodyMoves bodyConfigDone := by
  intro o payload a s h
  unfold bodyConfigDone
  split
  · split
    · exact h.answer _ _ (Nat.zero_le _)
    · exact h.configure.answer _ _ (Nat.zero_le _)
  · exact h.refuse _ _

theorem bodyResetGroup_moves : BodyMoves bodyResetGroup := by
  intro o payload a s h
  unfold bodyResetGroup
  split
  · split
    · exact h.refuse _ _
    · split
      · exact h.refuse _ _
      · split
        · exact h.refuse _ _
        · exact (h.resetGroup _ _).answer _ _ (Nat.zero_le _)
  · exact h.refuse _ _

theorem bodyResetAll_moves : BodyMoves bodyResetAll := by
  intro o payload a s h
  unfold bodyResetAll
  split
  · split
    · exact h.refuse _ _
    · exact h.allReset
  · exact h.refuse _ _

theorem bodyWriteParam_moves : BodyMoves bodyWriteParam := by
  intro o payload a s h
  unfold bodyWriteParam
  split
  · split
    · exact h.refuse _ _
    · split
      · exact h.refuse _ _
      · rename_i w written
        have kept := writeParam_kept written
        refine Moves.answer _ _ (kept.stored.trans (by decide)) (Moves.paramWritten _ _ (h.hl _ id fun c => ?_))
        exact ⟨kept.params c.host.params, c.host.runCount, c.host.response⟩
  · exact h.refuse _ _

end Sys2Proof.Machine
end

section
/-! PROOFS. Every command's effect is a chain of moves. -/

namespace Sys2Proof.Machine

variable {s t : State}

/-- Every request of the host answers by moves, whichever its code names (R170 to R182). -/
theorem requestOf_moves {code : Nat} {r : HostFrame → State → State} (hr : requestOf code = some r) (f : HostFrame) : Moves s (r f s) := by
  unfold requestOf at hr
  split at hr
  all_goals cases hr
  exacts [Moves.serve bodyPlace_moves f .start, Moves.serve bodyQuery_moves f .start, Moves.serve bodyFind_moves f .start,
    Moves.serve bodyList_moves f .start, Moves.serve bodyAmend_moves f .start, Moves.serve bodyRetire_moves f .start,
    Moves.serve bodyRetireForce_moves f .start, Moves.serve (readWhole_moves _ _) f .start, Moves.serve (readIndexed_moves _ _ _) f .start,
    Moves.serve (readIndexed_moves _ _ _) f .start, Moves.serve (readWhole_moves _ _) f .start,
    Moves.serve (readIndexed_moves _ _ _) f .start, Moves.serve (readIndexed_moves _ _ _) f .start,
    Moves.serve bodySetDoorRelease_moves f .start, Moves.serve bodyDoorCommand_moves f .start, Moves.serve bodySetMode_moves f .start,
    Moves.serve bodyHeartbeat_moves f .start, Moves.serve bodyAckAttention_moves f .start,
    Moves.serve bodySetAttentionMask_moves f .start, Moves.serve bodyLastStatus_moves f .start, Moves.serve bodyWriteParam_moves f .start,
    Moves.serve bodyWriteProfile_moves f .start, Moves.serve bodyWriteXlate_moves f .start, Moves.serve bodyConfigDone_moves f .start,
    Moves.serve bodyResetGroup_moves f .start, Moves.serve bodyResetAll_moves f .start]

theorem takeBytes_moves (bytes : List Byte) : Moves s (takeBytes bytes s) := by
  unfold takeBytes
  split
  · exact Moves.start.transact 0
  · split
    · exact (Moves.start.takeRequest _).failCheck _
    · split
      · rename_i hr
        exact requestOf_moves hr _
      · exact (Moves.start.takeRequest _).refuse _ _

theorem doorWord_moves (d : Door) (code : BitVec 7) (parity : Bool) (stop : StopBit) :
    Moves s (if s.inReset .doors then s else takeWord d code parity stop s) := by
  split
  · exact .start
  · exact Moves.start.takeWord d code parity stop

theorem doorStartBit_moves (d : Door) : Moves s (if s.inReset .doors then s else startWord d s) := by
  split
  · exact .start
  · exact Moves.start.startWord d

/-- PHASE_TRANSITION moves the pins of a part held in reset too (R65). -/
theorem phaseTransition_moves (a : Angle) (p : Phases) (e : execPhaseTransition a p s = .next t) : Moves s t := by
  obtain rfl := Host.Outcome.next.inj e
  split
  · exact Moves.start.movePhases a p
  · exact Moves.start.transit a p

/-- A part held in reset takes nothing, and else the command has its effect. -/
theorem running_moves {f : State → State} (effect : s.resetHeld = false → Moves s (f s)) (e : running f s = .next t) : Moves s t := by
  obtain rfl := Host.Outcome.next.inj e
  split
  · exact .start
  · rename_i live
    exact effect (Bool.eq_false_iff.mpr live)

/-- The effect of a request is that of its code's. -/
theorem request_moves (code : Nat) {r : HostFrame → State → State} {f : HostFrame} (hr : requestOf code = some r)
    (e : running (r f) s = .next t) : Moves s t := running_moves (fun _ => requestOf_moves hr f) e

/-- Every command takes the part by moves from its state to the next. -/
theorem exec_moves : ∀ c : Instr, exec c s = .next t → Moves s t
  | .powerOn, e => Host.Outcome.next.inj e ▸ .powerOn .start
  | .resetInput, e => Host.Outcome.next.inj e ▸ .holdReset .start
  | .place _, e => request_moves 0x01 rfl e
  | .query _, e => request_moves 0x02 rfl e
  | .find _, e => request_moves 0x03 rfl e
  | .list _, e => request_moves 0x04 rfl e
  | .amend _, e => request_moves 0x05 rfl e
  | .retire _, e => request_moves 0x06 rfl e
  | .retireForce _, e => request_moves 0x07 rfl e
  | .readEnvelope _, e => request_moves 0x10 rfl e
  | .readBrake _, e => request_moves 0x11 rfl e
  | .readCorner _, e => request_moves 0x12 rfl e
  | .readJoint _, e => request_moves 0x13 rfl e
  | .readDoor _, e => request_moves 0x14 rfl e
  | .readSample _, e => request_moves 0x15 rfl e
  | .setDoorRelease _, e => request_moves 0x20 rfl e
  | .doorCommand _, e => request_moves 0x21 rfl e
  | .setMode _, e => request_moves 0x22 rfl e
  | .heartbeat _, e => request_moves 0x23 rfl e
  | .ackAttention _, e => request_moves 0x24 rfl e
  | .setAttentionMask _, e => request_moves 0x25 rfl e
  | .lastStatus _, e => request_moves 0x26 rfl e
  | .writeParam _, e => request_moves 0x30 rfl e
  | .writeProfile _, e => request_moves 0x31 rfl e
  | .writeXlate _, e => request_moves 0x32 rfl e
  | .configDone _, e => request_moves 0x33 rfl e
  | .resetGroup _, e => request_moves 0x40 rfl e
  | .resetAll _, e => request_moves 0x41 rfl e
  | .frameCheckFail bytes, e => running_moves (fun _ => takeBytes_moves bytes) e
  | .heartbeatTimerExpiry, e => running_moves (fun _ => Moves.start.heartExpiry) e
  | .groupResetEnd g, e => running_moves (fun _ => Moves.start.groupEnd g) e
  | .sampleWord channel fault value, e => running_moves (fun _ => Moves.start.takeSample channel fault value) e
  | .sampleWordTimeout, e => running_moves (f := fun s => if s.inReset .sense then s else countDiscard s) (fun _ => Moves.start.sampleTimeout) e
  | .sampleAgeExpiry ch, e => running_moves (fun _ => Moves.start.ageOut ch) e
  | .wheelPulse w, e => running_moves (fun _ => Moves.start.wheelPulse w) e
  | .bucketTimerExpiry, e => running_moves (fun _ => Moves.start.bucketExpiry) e
  | .stationaryTimerExpiry, e => running_moves (fun _ => Moves.start.stationaryExpiry) e
  | .phaseTransition a p, e => phaseTransition_moves a p e
  | .illegalEntryExpiry a, e => running_moves (fun _ => Moves.start.dropIllegal a) e
  | .centreMark a, e =>
    running_moves (f := fun s => if s.inReset .sense then s else stepAngle a AngleCounter.marked s) (fun _ => Moves.start.centreMark a) e
  | .armTimeout i, e => running_moves (fun _ => Moves.start.armExpiry i) e
  | .releaseStep i, e => running_moves (fun _ => Moves.start.stepExpiry i) e
  | .singlePeriodEnd g, e => running_moves (fun _ => Moves.start.singleEnd g) e
  | .trainPeriodEnd g, e => running_moves (fun _ => Moves.start.trainEnd g) e
  | .dutyOpenEnd g, e => running_moves (fun _ => Moves.start.dutyOpenOver g) e
  | .dutyPeriodEnd g, e => running_moves (fun _ => Moves.start.dutyPeriodOver g) e
  | .deadTimeEnd g, e => running_moves (fun _ => Moves.start.deadTimeOver g) e
  | .brakeCycle, e => running_moves (fun _ => Moves.start.brakeExpiry) e
  | .cornerTimerExpiry c, e => running_moves (Moves.sourceExpiry c) e
  | .strobeTimerExpiry c, e => running_moves (fun _ => Moves.start.strobeExpiry c) e
  | .waitTimerExpiry c, e => running_moves (fun _ => Moves.start.waitExpiry c) e
  | .recoveryWindowExpiry c, e => running_moves (fun _ => Moves.start.recoveryExpiry c) e
  | .haltTimerExpiry, e => running_moves Moves.haltExpiry e
  | .jsCycle, e => running_moves (fun _ => Moves.start.jointExpiry) e
  | .doorWord d code parity stop, e =>
    running_moves (f := fun s => if s.inReset .doors then s else takeWord d code parity stop s) (fun _ => doorWord_moves d code parity stop) e
  | .doorWordClockStop d, e => running_moves (fun _ => Moves.start.stopWord d) e
  | .inhibitMinEnd d, e => running_moves (fun _ => Moves.start.minimumEnd d) e
  | .lossTimerExpiry d, e => running_moves (fun _ => Moves.start.lossExpiry d) e
  | .sendStart d, e => running_moves (fun _ => Moves.start.beginSend d) e
  | .sendClockRelease d, e => running_moves (fun _ => Moves.start.releaseClock d) e
  | .sendAttemptEnd d ack, e => running_moves (fun _ => Moves.start.attemptEdge d ack) e
  | .sendTimeout d, e => running_moves (fun _ => Moves.start.attemptTimeout d) e
  | .translateWord, e => running_moves (fun _ => Moves.start.translateNext) e
  | .prefixTimerExpiry d, e => running_moves (fun _ => Moves.start.prefixExpiry d) e
  | .doorStartBit d, e => running_moves (f := fun s => if s.inReset .doors then s else startWord d s) (fun _ => doorStartBit_moves d) e

/-- A step either idles, which moves the clock alone, or takes its command by moves. -/
theorem step_moves (e : step s = .next t) : t = { s with now := s.now + 1 } ∨ ∃ rest, Moves { s with pending := rest } t := by
  unfold step at e
  split at e
  · exact .inl (Host.Outcome.next.inj e).symm
  · rename_i c rest _
    exact .inr ⟨rest, exec_moves c e⟩

/-- A law that the queue and the clock do not enter and every chain of moves keeps is kept by every step. -/
theorem step_keeps {P : State → Prop} (queue : ∀ (s : State) rest, P s → P { s with pending := rest })
    (clock : ∀ (s : State) n, P s → P { s with now := n }) (moves : ∀ {s t : State}, P s → Moves s t → P t) (h : P s) (e : step s = .next t) :
    P t := by
  rcases step_moves e with rfl | ⟨rest, taken⟩
  · exact clock s _ h
  · exact moves (queue s rest h) taken

end Sys2Proof.Machine
end

section
/-! PROOFS. The laws of the table and the envelope (O52, O55, O56): each move keeps them. -/

namespace Sys2Proof.Machine

variable {a s t : State}

/-! ### Moves that leave the table and the envelope -/

theorem quietGroup_rt (g : Group) (s : State) : (quietGroup g s).rt = s.rt ∧ (quietGroup g s).eu = s.eu := by
  cases g
  all_goals exact ⟨rfl, rfl⟩

theorem handBrake_rt (c : Corner) (side : Side) (p : Program) (s : State) :
    (handBrake c side p s).rt = s.rt ∧ (handBrake c side p s).eu = s.eu := by
  unfold handBrake
  split
  all_goals exact ⟨rfl, rfl⟩

theorem handSteer_rt (side : Side) (p : Program) (s : State) : (handSteer side p s).rt = s.rt ∧ (handSteer side p s).eu = s.eu := by
  unfold handSteer
  split
  all_goals exact ⟨rfl, rfl⟩

theorem handDamping_rt (p : Program) (s : State) : (handDamping p s).rt = s.rt ∧ (handDamping p s).eu = s.eu := by
  unfold handDamping
  split
  all_goals exact ⟨rfl, rfl⟩

/-- The envelope after a reset is the one START_HOLD forms (R29, R42). -/
theorem resetEnvelope_formed : resetEnvelopeUnit.env = envelopeOf resetTable.slots := by decide +kernel

/-- A property that the table and the envelope decide is kept by every move, when the moves that touch either keep it. -/
theorem Moves.tableInduction {P : State → Prop} (kept : ∀ {s t : State}, P s → t.rt.slots = s.rt.slots → t.eu.env = s.eu.env → P t)
    (reset : ∀ {s : State}, s.rt = resetTable → s.eu.env = envelopeOf resetTable.slots → P s)
    (form : ∀ {s}, P s → P (formEnvelope s))
    (change : ∀ {s} (i : Slot) (f : Record → Record), KeepsName f →
      (∀ r, s.recordAt i = some r → r.state = .active → (f r).state = .active ∨ s.hasChild i = false) → P s →
      P (formEnvelope (changeRecord i f s)))
    (mark : ∀ {s} (i : Slot) (f : Record → Record), OnlyMarks f → P s → P (changeRecord i f s))
    (free : ∀ {s} (i : Slot) (r : Record), s.recordAt i = some r → (s.ParentLaw → s.hasChild i = false) → P s → P (freeSlot i r s))
    (stand : ∀ {s} (i : Slot) (r : Record), Placeable s i r → P s → P (standRecord i r s))
    (travel : ∀ {s} (inc : Nat), P s → P (if arriving s inc = [] then travelSlots inc s else formEnvelope (travelSlots inc s)))
    (h : P a) (moves : Moves a t) : P t := by
  have only {s t : State} (o : LevelOnly s t) : P s → P t := fun p => kept p (congrArg _ o.rt) (congrArg _ o.eu)
  have both {s t : State} (o : t.rt = s.rt ∧ t.eu = s.eu) : P s → P t := fun p => kept p (congrArg _ o.1) (congrArg _ o.2)
  induction moves with
  | start => exact h
  | powerOn => exact reset rfl resetEnvelope_formed
  | allReset => exact reset rfl resetEnvelope_formed
  | form _ ih => exact form ih
  | change i f same _ parent _ ih => exact change i f same parent ih
  | mark i f marks _ ih => exact mark i f marks ih
  | free i r stands childless _ ih => exact free i r stands childless ih
  | stand i r can _ ih => exact stand i r can ih
  | travel inc _ ih => exact travel inc ih
  | brake c side p _ ih => exact both (handBrake_rt c side p _) ih
  | steer side p _ ih => exact both (handSteer_rt side p _) ih
  | damping p _ ih => exact both (handDamping_rt p _) ih
  | quiet g _ _ ih => exact both (quietGroup_rt g _) ih
  | runOut c _ ih => exact only (returnGrant_only c _) (kept ih rfl rfl)
  | stopFill c _ ih => exact only (stopLevel_only c _ _) ih
  | exhaust c p _ ih => exact only (handLevel_only c _ p _) ih
  | fill afresh c e p _ _ _ ih => exact only (commandFill_only afresh c e p _) ih
  | reserve x _ ih => exact only (reserveEvent_only x _) ih
  | time _ _ ih | holdReset _ ih | profiles _ _ _ ih | inhibit _ _ ih | sp _ _ _ _ ih | mc _ _ _ _ ih | bc _ _ _ ih | js _ _ _ ih
  | dl _ _ _ ih | dt _ _ _ ih | hl _ _ _ _ ih | degraded _ _ ih | period _ _ _ _ ih | lc _ _ _ ih | levelReset _ _ ih =>
    exact kept ih rfl rfl

/-! ### The envelope (O52) -/

/-- Two records contribute the same to every item of the envelope (R31 to R36). -/
structure Record.SameParts (q r : Record) : Prop where
  floor   : ∀ x, q.floorOn x = r.floorOn x
  ceiling : q.ceilingPart = r.ceilingPart
  steer   : q.steerPart = r.steerPart
  offset  : ∀ c, q.offsetPart c = r.offsetPart c
  damping : q.dampingPart = r.dampingPart
  kind    : q.kind = r.kind

/-- Records that contribute the same form the same envelope. -/
theorem envelopeFrom_congr {f : Record → Record} (rs : List Record) (same : ∀ r ∈ rs, (f r).SameParts r) :
    envelopeFrom (rs.map f) = envelopeFrom rs := by
  have floors : floorOf (rs.map f) = floorOf rs := by
    funext x
    unfold floorOf
    rw [List.map_map]
    exact congrArg largest (List.map_congr_left fun r hr => (same r hr).floor x)
  have offsets : offsetOf (rs.map f) = offsetOf rs := by
    funext c
    unfold offsetOf
    rw [List.filterMap_map]
    exact congrArg (List.foldl min 0) (List.filterMap_congr fun r hr => (same r hr).offset c)
  have ceilings : (rs.map f).filterMap Record.ceilingPart = rs.filterMap Record.ceilingPart := by
    rw [List.filterMap_map]
    exact List.filterMap_congr fun r hr => (same r hr).ceiling
  have steers : (rs.map f).filterMap Record.steerPart = rs.filterMap Record.steerPart := by
    rw [List.filterMap_map]
    exact List.filterMap_congr fun r hr => (same r hr).steer
  have dampings : (rs.map f).map Record.dampingPart = rs.map Record.dampingPart := by
    rw [List.map_map]
    exact List.map_congr_left fun r hr => (same r hr).damping
  have kneels : (rs.map f).any (·.kind == .kneel) = rs.any (·.kind == .kneel) := by
    rw [List.any_map, Bool.eq_iff_iff, List.any_eq_true, List.any_eq_true]
    exact exists_congr fun r => and_congr_right fun hr => by simp [(same r hr).kind]
  simp only [envelopeFrom, floors, offsets, ceilings, steers, dampings, kneels]

/-- A record with its two marks clear, kneel-risen (R16) and told by its owner (R21). -/
def Record.unmarked (r : Record) : Record := { r with risen := false, ownerRelease := false }

/-- The two marks are in no item of the envelope. -/
theorem marked_envelopeOf {f : Record → Record} (marks : OnlyMarks f) (i : Slot) (s : State) :
    envelopeOf (changeRecord i f s).rt.slots = envelopeOf s.rt.slots := by
  have same (r : Record) : (f r).unmarked = r.unmarked := by
    rw [marks r]
    rfl
  have unmarked : (liveRecords (changeRecord i f s).rt.slots).map Record.unmarked = (liveRecords s.rt.slots).map Record.unmarked :=
    liveRecords_upd_map same s.rt.slots i
  have parts (rs : List Record) : envelopeFrom (rs.map Record.unmarked) = envelopeFrom rs :=
    envelopeFrom_congr rs fun r _ => ⟨fun _ => rfl, rfl, rfl, fun _ => rfl, rfl, rfl⟩
  rw [envelopeOf_eq_from, envelopeOf_eq_from, ← parts, unmarked, parts]

theorem mem_liveRecords_iff {r : Record} : r ∈ liveRecords s.rt.slots ↔ ∃ i : Slot, s.recordAt i = some r := by
  simp only [liveRecords, List.mem_filterMap, Vector.mem_toList_iff, Vector.mem_iff_getElem]
  constructor
  · rintro ⟨e, ⟨n, hn, rfl⟩, stands⟩
    exact ⟨⟨n, hn⟩, stands⟩
  · rintro ⟨i, stands⟩
    exact ⟨_, ⟨i.val, i.isLt, rfl⟩, stands⟩

theorem mapAll_liveRecords (f : Record → Record) (slots : Vector SlotEntry 32) :
    liveRecords (mapAll slots fun _ e => { e with record := e.record.map f }) = (liveRecords slots).map f := by
  have entries : (mapAll slots fun _ e => { e with record := e.record.map f }).toList =
      slots.toList.map fun e => { e with record := e.record.map f } := by
    refine List.ext_getElem (by simp) fun n here there => ?_
    have := mapAll_get slots (fun _ e => ({ e with record := e.record.map f } : SlotEntry)) ⟨n, by simpa using here⟩
    simpa using this
  rw [liveRecords, entries, List.filterMap_map, liveRecords, List.map_filterMap]
  rfl

/-- While no distance comes to 0 no item of the envelope moves (R15, R33). -/
theorem travelled_envelopeOf {inc : Nat} (far : arriving s inc = []) : envelopeOf (travelSlots inc s).rt.slots = envelopeOf s.rt.slots := by
  rw [envelopeOf_eq_from, envelopeOf_eq_from]
  have table : liveRecords (travelSlots inc s).rt.slots = (liveRecords s.rt.slots).map (Record.travelled inc) := mapAll_liveRecords _ _
  rw [table]
  refine envelopeFrom_congr _ fun r live => ?_
  have away : r.arrives inc = false := by
    obtain ⟨i, stands⟩ := mem_liveRecords_iff.mp live
    have := List.filter_eq_nil_iff.mp far i (List.mem_finRange i)
    simpa [stands] using this
  unfold Record.travelled
  split
  · rename_i releasing
    refine ⟨fun _ => rfl, rfl, ?_, fun _ => rfl, rfl, rfl⟩
    simp only [Record.arrives, releasing, beq_self_eq_true, Bool.true_and, Bool.and_eq_false_iff, decide_eq_false_iff_not] at away
    simp only [Record.steerPart, releasing]
    have same : 0 < r.distLeft - inc ↔ 0 < r.distLeft := by omega
    simp only [same]
  · exact ⟨fun _ => rfl, rfl, rfl, fun _ => rfl, rfl, rfl⟩

theorem Moves.envelopeLaw (h : a.EnvelopeLaw) (moves : Moves a t) : t.EnvelopeLaw :=
  Moves.tableInduction (P := State.EnvelopeLaw)
    (fun law slots env => env.trans (law.trans (congrArg envelopeOf slots.symm)))
    (fun table env => env.trans (congrArg (fun x => envelopeOf x.slots) table.symm))
    (fun _ => formEnvelope_envelopeLaw _)
    (fun i f _ _ _ => formEnvelope_envelopeLaw _)
    (fun i f marks law => law.trans (marked_envelopeOf marks i _).symm)
    (fun i r _ _ _ => formEnvelope_envelopeLaw _)
    (fun i r _ _ => by
      unfold standRecord
      split
      · unfold adopt
        split
        · split
          · exact returnActive_envelopeLaw _ _
          · exact formEnvelope_envelopeLaw _
        · exact formEnvelope_envelopeLaw _
      · exact formEnvelope_envelopeLaw _)
    (fun inc law => by
      split
      · rename_i none
        exact law.trans (travelled_envelopeOf none).symm
      · exact formEnvelope_envelopeLaw _)
    h moves

theorem formEnvelope_seq (s : State) :
    (formEnvelope s).eu.seq = if envelopeOf s.rt.slots = s.eu.env then s.eu.seq else s.eu.seq + 1 := by
  unfold formEnvelope
  dsimp only
  rw [(sendOffsets_only _ _ _).eu]
  split <;> rfl

/-- Settles O52: every move keeps the law, and a forming counts a change. -/
theorem envelopeLawKept : Obligations.EnvelopeLawKept := by
  refine ⟨fun s t h e => step_keeps (P := State.EnvelopeLaw) (fun _ _ => id) (fun _ _ => id) Moves.envelopeLaw h e, ?_⟩
  rintro s t rfl
  exact ⟨formEnvelope_rt s, (formEnvelope_envelopeLaw s).trans (by rw [formEnvelope_rt]), formEnvelope_seq s⟩

end Sys2Proof.Machine
end

section
/-! PROOFS. The laws of the records and of their parents (O55, O56): each move keeps them. -/

namespace Sys2Proof.Machine

variable {a s t : State} {i j : Slot}

/-! ### Tables whose records are reworked in their slots -/

/-- Every slot holds at its handle the record it held, changed by `f` but for its kind, owner, parent and depth. -/
structure Reworked (f : Slot → Record → Record) (s t : State) : Prop where
  handles : ∀ j, t.handleAt j = s.handleAt j
  records : ∀ j, t.recordAt j = (s.recordAt j).map (f j)
  names   : ∀ j, KeepsName (f j)

theorem Reworked.of_rt {f : Slot → Record → Record} (h : Reworked f s t) {u : State} (same : u.rt.slots = t.rt.slots) : Reworked f s u := by
  refine ⟨fun j => ?_, fun j => ?_, h.names⟩
  · rw [← h.handles j]
    unfold State.handleAt
    rw [same]
  · rw [← h.records j]
    unfold State.recordAt
    rw [same]

theorem changeRecord_reworked {f : Record → Record} (same : KeepsName f) (i : Slot) (s : State) :
    Reworked (fun j => if i = j then f else id) s (changeRecord i f s) := by
  refine ⟨fun j => changeRecord_handleAt i j f s, fun j => ?_, fun j => ?_⟩
  · rw [changeRecord_recordAt]
    split
    · rfl
    · simp
  · split
    · exact same
    · exact fun _ => ⟨rfl, rfl, rfl, rfl⟩

theorem OnlyMarks.keepsName {f : Record → Record} (marks : OnlyMarks f) : KeepsName f := by
  intro r
  rw [marks r]
  exact ⟨rfl, rfl, rfl, rfl⟩

theorem travelSlots_reworked (inc : Nat) (s : State) : Reworked (fun _ => Record.travelled inc) s (travelSlots inc s) := by
  refine ⟨fun j => ?_, fun j => ?_, fun _ r => ?_⟩
  · simp [State.handleAt, travelSlots, mapAll_get]
  · simp [State.recordAt, travelSlots, mapAll_get]
  · unfold Record.travelled
    split
    · exact ⟨rfl, rfl, rfl, rfl⟩
    · exact ⟨rfl, rfl, rfl, rfl⟩

/-- A reworked record is the change of the one that stood in its slot. -/
theorem Reworked.was {f : Slot → Record → Record} (h : Reworked f s t) {q : Record} (stands : t.recordAt j = some q) :
    ∃ r, s.recordAt j = some r ∧ q = f j r ∧ q.kind = r.kind ∧ q.owner = r.owner ∧ q.parent = r.parent ∧ q.depth = r.depth := by
  rw [h.records] at stands
  obtain ⟨r, before, rfl⟩ := Option.map_eq_some_iff.mp stands
  exact ⟨r, before, rfl, h.names j r⟩

theorem names_iff {k : Handle} : s.names k = true ↔ s.handleAt k.slot = k ∧ s.recordAt k.slot ≠ none := by
  cases k
  simp [State.names, State.handleAt, State.recordAt, Option.isSome_iff_ne_none]

theorem Reworked.namesSame {f : Slot → Record → Record} (h : Reworked f s t) (k : Handle) : t.names k = s.names k := by
  rw [Bool.eq_iff_iff, names_iff, names_iff, h.handles, h.records]
  simp

/-! ### One record for a kind and an owner (R1, R6) -/

theorem State.RecordLaw.reworked {f : Slot → Record → Record} (h : Reworked f s t) (law : s.RecordLaw) : t.RecordLaw := by
  obtain ⟨one, classed⟩ := law
  refine ⟨fun i j r q hr hq kind owner => ?_, fun i r hr => ?_⟩
  · obtain ⟨r', br, _, kr, or, _⟩ := h.was hr
    obtain ⟨q', bq, _, kq, oq, _⟩ := h.was hq
    exact one i j r' q' br bq (kr ▸ kq ▸ kind) (or ▸ oq ▸ owner)
  · obtain ⟨r', before, _, kind, owner, _⟩ := h.was hr
    rw [kind, owner]
    exact classed i r' before

theorem State.RecordLaw.of_rt (law : s.RecordLaw) (same : t.rt.slots = s.rt.slots) : t.RecordLaw := by
  unfold State.RecordLaw State.recordAt at *
  rw [same]
  exact law

theorem State.ParentLaw.of_rt (law : s.ParentLaw) (same : t.rt.slots = s.rt.slots) : t.ParentLaw := by
  unfold State.ParentLaw State.names State.recordAt at *
  rw [same]
  exact law

theorem resetTable_record : ∀ i : Slot, resetTable.slots[i.val].record = if i = 24 then some startHoldRecord else none := by decide +kernel

/-- After a reset START_HOLD stands in slot 25 alone (R29). -/
theorem reset_recordAt (table : s.rt = resetTable) {r : Record} (stands : s.recordAt i = some r) : i = 24 ∧ r = startHoldRecord := by
  rw [State.recordAt, table, resetTable_record] at stands
  split at stands
  · rename_i here
    exact ⟨here, (Option.some.inj stands).symm⟩
  · cases stands

theorem reset_recordLaw (table : s.rt = resetTable) : s.RecordLaw := by
  refine ⟨fun i j r q hr hq _ _ => ?_, fun i r hr => ?_⟩
  · exact (reset_recordAt table hr).1.trans (reset_recordAt table hq).1.symm
  · obtain ⟨rfl, rfl⟩ := reset_recordAt table hr
    decide

theorem reset_parentLaw (table : s.rt = resetTable) : s.ParentLaw := by
  intro i r hr
  obtain ⟨rfl, rfl⟩ := reset_recordAt table hr
  exact ⟨by decide, fun _ => rfl, nofun⟩

theorem freeSlot_slots (i : Slot) (r : Record) (s : State) : (freeSlot i r s).rt.slots = (vacate i s).rt.slots := by
  rw [freeSlot, formEnvelope_rt, endService_rt]
  rfl

theorem vacate_recordLaw (law : s.RecordLaw) (i : Slot) : (vacate i s).RecordLaw := by
  obtain ⟨one, classed⟩ := law
  have before {j : Slot} {r : Record} (stands : (vacate i s).recordAt j = some r) : s.recordAt j = some r := by
    rw [vacate_recordAt] at stands
    split at stands
    · cases stands
    · exact stands
  exact ⟨fun j k r q hr hq => one j k r q (before hr) (before hq), fun j r hr => classed j r (before hr)⟩

theorem putRecord_recordAt (i j : Slot) (r : Record) (s : State) :
    (putRecord i r s).recordAt j = if i = j then some r else s.recordAt j := by
  split
  · rename_i here
    subst here
    exact putRecord_recordAt_self s i r
  · rename_i other
    exact putRecord_recordAt_ne s r other

theorem putRecord_recordLaw {r : Record} (can : Placeable s i r) (law : s.RecordLaw) : (putRecord i r s).RecordLaw := by
  obtain ⟨one, classed⟩ := law
  have fresh {j : Slot} {q : Record} (stands : s.recordAt j = some q) : ¬ (q.kind = r.kind ∧ q.owner = r.owner) :=
    fun same => can.fresh j q stands same.1 same.2
  refine ⟨fun j k x y hx hy kind owner => ?_, fun j x hx => ?_⟩
  · rw [putRecord_recordAt] at hx hy
    split at hx <;> split at hy
    · rename_i here there
      exact here.symm.trans there
    · cases hx
      exact absurd ⟨kind.symm, owner.symm⟩ (fresh hy)
    · cases hy
      exact absurd ⟨kind, owner⟩ (fresh hx)
    · exact one j k x y hx hy kind owner
  · rw [putRecord_recordAt] at hx
    split at hx
    · rename_i here
      cases hx
      subst here
      exact ⟨can.classed, can.permitted⟩
    · exact classed j x hx

theorem Record.reactivate_keepsName : KeepsName Record.reactivate := fun _ => ⟨rfl, rfl, rfl, rfl⟩

/-- A parent that takes a child keeps every record's name; no ACTIVE record leaves its state, and the parent is ACTIVE when it was
RELEASING (R9). -/
theorem adopt_reworked (k : Handle) (s : State) : ∃ f, Reworked f s (adopt k s) ∧
    (∀ j r, r.state = .active → (f j r).state = .active) ∧
    ∀ p, s.recordAt k.slot = some p → p.state ≠ .armed → (f k.slot p).state = .active := by
  have same : Reworked (fun _ => id) s s := ⟨fun _ => rfl, fun _ => by rw [Option.map_id, id], fun _ _ => ⟨rfl, rfl, rfl, rfl⟩⟩
  unfold adopt
  split
  · rename_i p parent
    split
    · refine ⟨_, (changeRecord_reworked Record.reactivate_keepsName k.slot s).of_rt ?_, fun j r active => ?_, fun q _ _ => ?_⟩
      · rw [returnActive, leaveRising_rt, formEnvelope_rt]
      · split
        · rfl
        · exact active
      · rw [if_pos rfl]
        rfl
    · rename_i other
      refine ⟨_, same, fun j r active => active, fun q stands unarmed => ?_⟩
      cases parent.symm.trans stands
      cases state : p.state with
      | armed => exact absurd state unarmed
      | active => exact state
      | releasing => exact absurd state other
  · rename_i absent
    exact ⟨_, same, fun j r active => active, fun p stands => absurd stands (by rw [absent]; nofun)⟩

theorem standRecord_reworked (i : Slot) (r : Record) (s : State) : ∃ f, Reworked f (putRecord i r s) (standRecord i r s) ∧
    (∀ j q, q.state = .active → (f j q).state = .active) ∧
    ∀ k p, r.parent = some k → (putRecord i r s).recordAt k.slot = some p → p.state ≠ .armed → (f k.slot p).state = .active := by
  unfold standRecord
  split
  · rename_i k named
    obtain ⟨f, reworked, active, parent⟩ := adopt_reworked k (formEnvelope (putRecord i r s))
    refine ⟨f, ⟨fun j => ?_, fun j => ?_, reworked.names⟩, active, fun k' p named' stands => ?_⟩
    · rw [reworked.handles]
      unfold State.handleAt
      rw [formEnvelope_rt]
    · rw [reworked.records, formEnvelope_recordAt]
    · cases named.symm.trans named'
      exact parent p ((formEnvelope_recordAt _ _).trans stands)
  · rename_i root
    refine ⟨fun _ => id, ⟨fun j => ?_, fun j => ?_, fun _ _ => ⟨rfl, rfl, rfl, rfl⟩⟩, fun _ _ => id, fun k p named => ?_⟩
    · unfold State.handleAt
      rw [formEnvelope_rt]
    · rw [formEnvelope_recordAt, Option.map_id, id]
    · cases root.symm.trans named

theorem Moves.recordLaw (h : a.RecordLaw) (moves : Moves a t) : t.RecordLaw :=
  Moves.tableInduction (P := State.RecordLaw)
    (fun law slots _ => law.of_rt slots)
    (fun table _ => reset_recordLaw table)
    (fun law => law.of_rt (by rw [formEnvelope_rt]))
    (fun i f same _ law => (law.reworked (changeRecord_reworked same i _)).of_rt (by rw [formEnvelope_rt]))
    (fun i f marks law => law.reworked (changeRecord_reworked marks.keepsName i _))
    (fun i r _ _ law => (vacate_recordLaw law i).of_rt (freeSlot_slots i r _))
    (fun i r can law => by
      obtain ⟨_, reworked, _⟩ := standRecord_reworked i r _
      exact (putRecord_recordLaw can law).reworked reworked)
    (fun inc law => by
      have travelled := law.reworked (travelSlots_reworked inc _)
      split
      · exact travelled
      · exact travelled.of_rt (by rw [formEnvelope_rt]))
    h moves

/-- Settles O55: each record that moves create is of a kind its owner may place, in its class, and the first of its kind and owner. -/
theorem recordLawKept : Obligations.RecordLawKept := fun _ _ h e =>
  step_keeps (P := State.RecordLaw) (fun _ _ => id) (fun _ _ => id) Moves.recordLaw h e

/-! ### Live parents (R9) -/

theorem State.ParentLaw.reworked {f : Slot → Record → Record} (h : Reworked f s t) (law : s.ParentLaw)
    (parent : ∀ j p, s.recordAt j = some p → p.state = .active → (f j p).state = .active ∨ s.hasChild j = false) : t.ParentLaw := by
  intro i r stands
  obtain ⟨r', before, _, _, _, named, depth⟩ := h.was stands
  obtain ⟨low, root, child⟩ := law i r' before
  rw [named, depth]
  refine ⟨low, root, fun k names => ?_⟩
  obtain ⟨live, p, standing, active, above⟩ := child k names
  refine ⟨(h.namesSame k).trans live, f k.slot p, by rw [h.records, standing]; rfl, ?_, above.trans ?_⟩
  · rcases parent k.slot p standing active with kept | childless
    · exact kept
    · have handle := (names_iff.mp live).1
      exact absurd (handle ▸ names) (hasChild_eq_false_iff.mp childless i r' before)
  · rw [(h.names k.slot p).2.2.2]

theorem vacate_parentLaw (law : s.ParentLaw) (childless : s.hasChild i = false) : (vacate i s).ParentLaw := by
  intro j r stands
  rw [vacate_recordAt] at stands
  split at stands
  · cases stands
  · obtain ⟨low, root, child⟩ := law j r stands
    refine ⟨low, root, fun k named => ?_⟩
    obtain ⟨live, p, standing, rest⟩ := child k named
    obtain ⟨handle, lives⟩ := names_iff.mp live
    have other : i ≠ k.slot := fun same => hasChild_eq_false_iff.mp childless j r stands (by rw [named, same, handle])
    have still : (vacate i s).recordAt k.slot = s.recordAt k.slot := by rw [vacate_recordAt, if_neg other]
    refine ⟨names_iff.mpr ⟨?_, still ▸ lives⟩, p, still.trans standing, rest⟩
    rw [vacate_handleAt_ne other, handle]

theorem standRecord_parentLaw {r : Record} (can : Placeable s i r) (law : s.ParentLaw) : (standRecord i r s).ParentLaw := by
  obtain ⟨f, reworked, active, parent⟩ := standRecord_reworked i r s
  have handles (j : Slot) : (putRecord i r s).handleAt j = s.handleAt j := by
    simp only [State.handleAt, putRecord, upd_get]
    split
    · rename_i here
      subst here
      rfl
    · rfl
  have standing {k : Handle} {p : Record} (stands : s.recordAt k.slot = some p) : (putRecord i r s).recordAt k.slot = some p := by
    rw [putRecord_recordAt, if_neg, stands]
    intro here
    rw [← here, can.free] at stands
    cases stands
  have live {k : Handle} {p : Record} (names : s.names k = true) (stands : s.recordAt k.slot = some p) :
      (standRecord i r s).names k = true ∧ (standRecord i r s).recordAt k.slot = some (f k.slot p) ∧ (f k.slot p).depth = p.depth := by
    refine ⟨?_, ?_, (reworked.names k.slot p).2.2.2⟩
    · rw [reworked.namesSame, names_iff, handles, standing stands]
      exact ⟨(names_iff.mp names).1, nofun⟩
    · rw [reworked.records, standing stands]
      rfl
  intro j q stands
  obtain ⟨q', before, _, _, _, named, depth⟩ := reworked.was stands
  rw [named, depth]
  rw [putRecord_recordAt] at before
  split at before
  · cases before
    refine ⟨can.depth, can.root, fun k parents => ?_⟩
    obtain ⟨names, p, above, unarmed, deeper⟩ := can.parent k parents
    obtain ⟨names', above', same⟩ := live names above
    exact ⟨names', _, above', parent k p parents (standing above) unarmed, same ▸ deeper⟩
  · obtain ⟨low, root, child⟩ := law j q' before
    refine ⟨low, root, fun k parents => ?_⟩
    obtain ⟨names, p, above, is, deeper⟩ := child k parents
    obtain ⟨names', above', same⟩ := live names above
    exact ⟨names', _, above', active _ _ is, same ▸ deeper⟩

theorem Moves.parentLaw (h : a.ParentLaw) (moves : Moves a t) : t.ParentLaw :=
  Moves.tableInduction (P := State.ParentLaw)
    (fun law slots _ => law.of_rt slots)
    (fun table _ => reset_parentLaw table)
    (fun law => law.of_rt (by rw [formEnvelope_rt]))
    (fun i f same parent law => by
      refine State.ParentLaw.of_rt (law.reworked (changeRecord_reworked same i _) fun j p stands active => ?_) (by rw [formEnvelope_rt])
      split
      · rename_i here
        subst here
        exact parent p stands active
      · exact .inl active)
    (fun i f marks law => by
      refine law.reworked (changeRecord_reworked marks.keepsName i _) fun j p _ active => .inl ?_
      split
      · rw [marks p]
        exact active
      · exact active)
    (fun i r _ childless law => (vacate_parentLaw law (childless law)).of_rt (freeSlot_slots i r _))
    (fun i r can law => standRecord_parentLaw can law)
    (fun inc law => by
      have travelled := law.reworked (travelSlots_reworked inc _) fun j p _ active => .inl (by
        unfold Record.travelled
        split
        · exact active
        · exact active)
      split
      · exact travelled
      · exact travelled.of_rt (by rw [formEnvelope_rt]))
    h moves

/-- Settles O56: no move retires a record that has a child, and each that leaves ACTIVE has none. -/
theorem parentLawKept : Obligations.ParentLawKept := fun _ _ h e =>
  step_keeps (P := State.ParentLaw) (fun _ _ => id) (fun _ _ => id) Moves.parentLaw h e

end Sys2Proof.Machine
end

section
/-! PROOFS. The laws on values (O57, O58): each move keeps them. -/

namespace Sys2Proof.Machine

variable {a s t : State} {i j : Slot}

/-! ### What the forming of the envelope keeps (R30, R37 to R41, R108) -/

/-- A property that the steps of a forming keep. -/
structure FormStable (P : State → Prop) : Prop where
  stored  : ∀ {s : State}, P s → P (storeEnvelope (envelopeOf s.rt.slots) s)
  inhibit : ∀ {s : State} (b : Bool), P s → P { s with eu := { s.eu with inhibit := b } }
  offset  : ∀ {s : State} (c : Corner) (f : KneelPhase → KneelPhase), P s →
    P (changeCorner c (fun r => { r with offset := s.eu.env.offsets[c.val], phase := f r.phase }) s)
  halt    : ∀ {s : State}, P s → P { s with lc := { s.lc with haltAt := none, resumePending := false } }
  command : ∀ {s : State} (c : Corner), s.inReset .level = false → P s → P (commandFromLast c s)

theorem FormStable.offsetEvent {P : State → Prop} (h : FormStable P) (c : Corner) (p : P s) : P (offsetEvent c s.eu.env.offsets[c.val] s) := by
  unfold Machine.offsetEvent
  split
  · exact h.offset c id p
  · rename_i live
    have moved := h.offset c (fun x => x.afterOffset s.eu.env.offsets[c.val]) p
    have placed : (dropHalt s.anyHalted (changeCorner c (fun r =>
        { r with offset := s.eu.env.offsets[c.val], phase := r.phase.afterOffset s.eu.env.offsets[c.val] }) s)).inReset .level = false :=
      (((changeCorner_only c _ s).trans (dropHalt_only _ _)).inReset .level).trans (Bool.eq_false_iff.mpr live)
    refine h.command c placed ?_
    unfold dropHalt
    split
    · exact h.halt moved
    · exact moved

theorem FormStable.form {P : State → Prop} (h : FormStable P) (p : P s) : P (formEnvelope s) := by
  unfold formEnvelope
  dsimp only
  have start : P (if (envelopeOf s.rt.slots).ceiling = s.eu.env.ceiling then storeEnvelope (envelopeOf s.rt.slots) s
      else evalInhibit (storeEnvelope (envelopeOf s.rt.slots) s)) := by
    split
    · exact h.stored p
    · exact h.inhibit _ (h.stored p)
  have env : (if (envelopeOf s.rt.slots).ceiling = s.eu.env.ceiling then storeEnvelope (envelopeOf s.rt.slots) s
      else evalInhibit (storeEnvelope (envelopeOf s.rt.slots) s)).eu.env = envelopeOf s.rt.slots := by
    split
    · rfl
    · rfl
  refine (forAll_rel (fun x y : State => x.eu.env = envelopeOf s.rt.slots ∧ P x → y.eu.env = envelopeOf s.rt.slots ∧ P y) (fun _ => id)
    (fun h k => k ∘ h) _ (fun c x hx => ?_) _ ⟨env, start⟩).2
  unfold sendOffset
  split
  · exact hx
  · have sent := h.offsetEvent c hx.2
    rw [hx.1] at sent
    exact ⟨(congrArg EnvelopeUnit.env (offsetEvent_only c _ x).eu).trans hx.1, sent⟩

/-! ### The envelope's ranges (R31 to R36) -/

theorem envelopeOf_inRange (records : ∀ (i : Slot) (r : Record), s.recordAt i = some r → r.InRange) : (envelopeOf s.rt.slots).InRange := by
  have live {r : Record} (h : r ∈ liveRecords s.rt.slots) : r.InRange := by
    obtain ⟨i, stands⟩ := mem_liveRecords_iff.mp h
    exact records i r stands
  obtain ⟨_, _, _, ceiling, steer, floors, offsets, damping, _⟩ := envelopeItems s.rt.slots _ rfl
  refine ⟨fun x => ?_, ?_, ?_, fun c => ?_, ?_⟩
  · rcases floors x with neutral | ⟨r, hr, y, given, _, part⟩
    · omega
    · obtain ⟨floor, _, _, _, _, _, _, _, _, _, _, left, _⟩ := live hr
      have top := floor y given
      rcases part with ⟨_, whole⟩ | ⟨_, _, part⟩
      · omega
      · have small : y * r.releaseLeft / r.delay ≤ y := Nat.div_le_of_le_mul (by rw [Nat.mul_comm]; exact Nat.mul_le_mul_right y left)
        omega
  · rcases ceiling with neutral | ⟨r, hr, _, given⟩
    · omega
    · obtain ⟨_, top, _⟩ := live hr
      exact top _ given
  · rcases steer with neutral | ⟨r, hr, given, _⟩
    · omega
    · obtain ⟨_, _, top, _⟩ := live hr
      exact top _ given
  · rcases offsets c with neutral | ⟨r, hr, _, _, _, given⟩
    · omega
    · obtain ⟨_, _, _, range, _⟩ := live hr
      exact range _ given
  · rcases damping with neutral | ⟨r, hr, _, _, given⟩
    · omega
    · obtain ⟨_, _, _, _, top, _⟩ := live hr
      exact top _ given

/-! ### The ranges of `RangeLaw` (O57) -/

theorem State.Ranges.same (h : s.Ranges) (rt : t.rt = s.rt) (env : t.eu.env = s.eu.env) (sp : t.sp.samples = s.sp.samples) (mc : t.mc = s.mc) :
    t.Ranges := by
  refine ⟨fun i r stands => ?_, fun k => ?_, env ▸ h.env, fun ch => ?_, mc ▸ h.motion⟩
  · rw [State.recordAt, rt] at stands
    exact h.records i r stands
  · rw [State.profile, rt]
    exact h.profiles k
  · rw [State.sample, sp]
    exact h.samples ch

theorem State.Ranges.reworked {f : Slot → Record → Record} (h : s.Ranges) (same : Reworked f s t) (table : TableOnly s t)
    (env : t.eu.env.InRange) (keeps : ∀ j r, s.recordAt j = some r → r.InRange → (f j r).InRange) : t.Ranges := by
  refine ⟨fun i r stands => ?_, fun k => ?_, env, fun ch => ?_, table.mc ▸ h.motion⟩
  · obtain ⟨q, before, rfl, _⟩ := same.was stands
    exact keeps i q before (h.records i q before)
  · rw [State.profile, table.profiles]
    exact h.profiles k
  · rw [State.sample, table.sp]
    exact h.samples ch

/-- The ranges with the forming of the envelope still to come. -/
theorem State.Ranges.form (records : ∀ (i : Slot) (r : Record), s.recordAt i = some r → r.InRange) (profiles : ∀ k : Kind, (s.profile k).InRange)
    (samples : ∀ ch : Channel, (s.sample ch).value ≤ channelTop ch) (motion : s.mc.SpeedsInRange) : (formEnvelope s).Ranges := by
  have table := formEnvelope_table s
  refine ⟨fun i r stands => records i r ((formEnvelope_recordAt i s).symm.trans stands), fun k => ?_, ?_, fun ch => ?_, table.mc ▸ motion⟩
  · rw [State.profile, table.profiles]
    exact profiles k
  · rw [formEnvelope_envelopeLaw s, formEnvelope_rt]
    exact envelopeOf_inRange records
  · rw [State.sample, table.sp]
    exact samples ch

theorem changeRecord_records {f : Record → Record} (i : Slot) (h : s.Ranges) (keeps : ∀ r, s.recordAt i = some r → r.InRange → (f r).InRange)
    (j : Slot) (r : Record) (stands : (changeRecord i f s).recordAt j = some r) : r.InRange := by
  rw [changeRecord_recordAt] at stands
  split at stands
  · rename_i here
    subst here
    obtain ⟨q, before, rfl⟩ := Option.map_eq_some_iff.mp stands
    exact keeps q before (h.records i q before)
  · exact h.records j r stands

theorem Record.travelled_inRange (inc : Nat) {r : Record} (h : r.InRange) : (r.travelled inc).InRange := by
  obtain ⟨floor, ceiling, steer, offset, damping, swing, delay, arm, conds, low, high, left, dist, rest⟩ := h
  unfold Record.travelled
  split
  · rename_i releasing
    exact ⟨floor, ceiling, steer, offset, damping, swing, delay, arm, conds, low, high, left, (Nat.sub_le _ _).trans dist,
      fun other => absurd releasing other⟩
  · exact ⟨floor, ceiling, steer, offset, damping, swing, delay, arm, conds, low, high, left, dist, rest⟩

theorem defaultProfile_inRange (k : Kind) : (defaultProfile k).InRange := by
  cases k
  all_goals simp [Profile.InRange, defaultProfile]

theorem defaultProfiles_get (k : Kind) : defaultProfiles[k.index.val] = defaultProfile k := by
  cases k
  all_goals rfl

theorem startHoldRecord_inRange : startHoldRecord.InRange := by simp [Record.InRange, startHoldRecord]

theorem resetEnvelope_inRange : resetEnvelopeUnit.env.InRange := by
  refine ⟨by decide, by decide, by decide, fun c => ?_, by decide⟩
  simp [resetEnvelopeUnit]

theorem resetMotion_speedsInRange (now : Nat) (joint actuator : Phases) : (resetMotion now joint actuator).SpeedsInRange := by
  refine ⟨Nat.zero_le _, fun c => ?_, ?_, ?_⟩
  · simp [resetMotion]
  · exact AngleCounter.bounded_zero rfl
  · exact AngleCounter.bounded_zero rfl

theorem reset_ranges (table : s.rt = resetTable) (env : s.eu.env = resetEnvelopeUnit.env) (sp : s.sp = resetSensePort)
    {now : Nat} {joint actuator : Phases} (mc : s.mc = resetMotion now joint actuator) : s.Ranges := by
  refine ⟨fun i r stands => ?_, fun k => ?_, ?_, fun ch => ?_, ?_⟩
  · obtain ⟨rfl, rfl⟩ := reset_recordAt table stands
    exact startHoldRecord_inRange
  · rw [State.profile, table]
    exact defaultProfiles_get k ▸ defaultProfile_inRange k
  · rw [env]
    exact resetEnvelope_inRange
  · rw [State.sample, sp]
    simp [resetSensePort]
  · rw [mc]
    exact resetMotion_speedsInRange now joint actuator

theorem State.Ranges.formed (h : s.Ranges) : (formEnvelope s).Ranges := .form h.records h.profiles h.samples h.motion

theorem State.Ranges.changed {f : Record → Record} (h : s.Ranges) (i : Slot)
    (keeps : ∀ r, s.recordAt i = some r → r.InRange → (f r).InRange) : (changeRecord i f s).Ranges :=
  ⟨changeRecord_records i h keeps, h.profiles, h.env, h.samples, h.motion⟩

theorem State.Ranges.put {r : Record} (h : s.Ranges) (range : r.InRange) : (putRecord i r s).Ranges := by
  refine ⟨fun j q stands => ?_, h.profiles, h.env, h.samples, h.motion⟩
  rw [putRecord_recordAt] at stands
  split at stands
  · cases stands
    exact range
  · exact h.records j q stands

theorem State.Ranges.returned (i : Slot) (h : s.Ranges) : (returnActive i s).Ranges :=
  State.Ranges.same (s := formEnvelope (changeRecord i Record.reactivate s)) (h.changed i fun _ _ => Record.reactivate_inRange).formed
    rfl rfl rfl rfl

theorem State.Ranges.standRecord {r : Record} (h : s.Ranges) (range : r.InRange) : (standRecord i r s).Ranges := by
  have formed : (formEnvelope (putRecord i r s)).Ranges := (h.put range).formed
  unfold Machine.standRecord
  split
  · unfold adopt
    split
    · split
      · exact formed.returned _
      · exact formed
    · exact formed
  · exact formed

/-- A slot that is FREE again, with the forming of the envelope still to come (R18). -/
theorem State.Ranges.vacated (i : Slot) (r : Record) (h : s.Ranges) :
    (endService r.kind (setFlag .record (vacate i (leaveRising (s.handleAt i) s)))).Ranges := by
  have table := (leaveRising_table (s.handleAt i) s).trans ((vacate_table i _).trans ((setFlag_table .record _).trans (endService_table r.kind _)))
  have same : (endService r.kind (setFlag .record (vacate i (leaveRising (s.handleAt i) s)))).rt = (vacate i s).rt := endService_rt _ _
  have env : (endService r.kind (setFlag .record (vacate i (leaveRising (s.handleAt i) s)))).eu = s.eu := by
    unfold endService
    split
    · rfl
    · rfl
  refine ⟨fun j q stands => ?_, fun k => ?_, env ▸ h.env, fun ch => ?_, table.mc ▸ h.motion⟩
  · rw [State.recordAt, same] at stands
    have before := (vacate_recordAt i j s).symm.trans stands
    split at before
    · cases before
    · exact h.records j q before
  · rw [State.profile, same]
    exact h.profiles k
  · rw [State.sample, table.sp]
    exact h.samples ch

theorem travelSlots_table (inc : Nat) (s : State) : TableOnly s (Machine.travelSlots inc s) := by
  unfold Machine.travelSlots
  generalize mapAll s.rt.slots _ = x
  constructor <;> rfl

theorem State.Ranges.travelSlots (inc : Nat) (h : s.Ranges) : (travelSlots inc s).Ranges :=
  h.reworked (travelSlots_reworked inc s) (travelSlots_table inc s) h.env fun _ _ _ => Record.travelled_inRange inc

/-- A move of the valves or of the Levelling Controller. -/
theorem State.Ranges.levelOnly (h : s.Ranges) (only : LevelOnly s t) : t.Ranges :=
  h.same only.rt (congrArg _ only.eu) (congrArg _ only.sp) only.mc

theorem Moves.ranges (h : a.Ranges) (moves : Moves a t) : t.Ranges := by
  induction moves with
  | start => exact h
  | powerOn => exact reset_ranges rfl rfl rfl rfl
  | allReset => exact reset_ranges rfl rfl rfl rfl
  | form _ ih => exact ih.formed
  | change i f _ range _ _ ih => exact (ih.changed i range).formed
  | mark i f marks _ ih =>
    refine ih.changed i fun r _ range => ?_
    rw [marks r]
    exact range
  | free i r _ _ _ ih => exact (ih.vacated i r).formed
  | stand i r can _ ih => exact ih.standRecord (can.range ih)
  | travel inc _ ih =>
    have travelled := ih.travelSlots inc
    split
    · exact travelled
    · exact travelled.formed
  | profiles x range _ ih => exact ⟨ih.records, range ih, ih.env, ih.samples, ih.motion⟩
  | sp x range _ _ ih => exact ⟨ih.records, ih.profiles, ih.env, range ih, ih.motion⟩
  | mc x range _ _ ih => exact ⟨ih.records, ih.profiles, ih.env, ih.samples, range ih⟩
  | brake c side p _ ih =>
    unfold handBrake
    split
    · exact ih
    · exact ih.same rfl rfl rfl rfl
  | steer side p _ ih =>
    unfold handSteer
    split
    · exact ih
    · exact ih.same rfl rfl rfl rfl
  | damping p _ ih =>
    unfold handDamping
    split
    · exact ih
    · exact ih.same rfl rfl rfl rfl
  | quiet g _ _ ih =>
    unfold quietGroup
    split
    all_goals exact ih.same rfl rfl rfl rfl
  | runOut c _ ih => exact (ih.same (t := changeGen _ _ _) rfl rfl rfl rfl).levelOnly (returnGrant_only c _)
  | stopFill c _ ih => exact ih.levelOnly (stopLevel_only c _ _)
  | exhaust c p _ ih => exact ih.levelOnly (handLevel_only c _ p _)
  | fill afresh c e p _ _ _ ih => exact ih.levelOnly (commandFill_only afresh c e p _)
  | reserve x _ ih => exact ih.levelOnly (reserveEvent_only x _)
  | time _ _ ih | holdReset _ ih | inhibit _ _ ih | bc _ _ _ ih | js _ _ _ ih | dl _ _ _ ih | dt _ _ _ ih | hl _ _ _ _ ih
  | degraded _ _ ih | period _ _ _ _ ih | lc _ _ _ ih | levelReset _ _ ih => exact ih.same rfl rfl rfl rfl

/-- Settles O57: what each move writes to a block stands in the block's ranges. -/
theorem rangeLawKept : Obligations.RangeLawKept := fun _ _ h e =>
  rangeLaw_iff.mpr (step_keeps (P := State.Ranges) (fun _ _ k => k.same rfl rfl rfl rfl) (fun _ _ k => k.same rfl rfl rfl rfl) Moves.ranges
    (rangeLaw_iff.mp h) e)

end Sys2Proof.Machine
end

section
/-! PROOFS. The laws of the generators (O53): each move keeps them. -/

namespace Sys2Proof.Machine

variable {a s t : State} {P : State → Prop} {A : Pair → Prop} {B : Generator → Prop}

/-! ### What the fill arbiter's steps keep (R109 to R111) -/

/-- A property that the valves of the corners, the waiting set, the grants and RESERVE may change under. -/
structure FillStable (P : State → Prop) : Prop where
  take    : ∀ {s : State} (c : Corner) (side : Side) (p : Program), P s → P (takeLevel c side p s)
  waiting : ∀ {s : State} (c : Corner) (w : Option WaitEntry), P s → P (changeCorner c (fun r => { r with waiting := w }) s)
  grants  : ∀ {s : State} (g : Vector (Option Corner) 2), P s → P { s with lc := { s.lc with grants := g } }
  reserve : ∀ {s : State} (x : Level), P s → P { s with lc := { s.lc with reserve := x } }
  outcome : ∀ {s : State} (c : Corner) (o : Option LevelOutcome), P s → P (changeCorner c (fun r => { r with outcome := o }) s)

namespace FillStable

theorem arbitrateOnce (h : FillStable P) (p : P s) : P (arbitrateOnce s) := by
  unfold Machine.arbitrateOnce
  split
  · split
    · exact h.take _ _ _ (h.grants _ (h.waiting _ none p))
    · exact p
  · exact p

theorem arbitrate (h : FillStable P) (p : P s) : P (arbitrate s) := h.arbitrateOnce (h.arbitrateOnce p)

theorem returnGrant (h : FillStable P) (c : Corner) (p : P s) : P (returnGrant c s) := h.arbitrate (h.grants _ p)

theorem handLevel (h : FillStable P) (c : Corner) (side : Side) (x : Program) (p : P s) : P (handLevel c side x s) := by
  unfold Machine.handLevel
  split
  · exact h.returnGrant c (h.take c side x p)
  · exact h.take c side x p

theorem stopLevel (h : FillStable P) (c : Corner) (side : Side) (p : P s) : P (stopLevel c side s) := by
  unfold Machine.stopLevel
  split
  · exact h.handLevel c side _ p
  · exact p

theorem commandFill (h : FillStable P) (afresh : Bool) (c : Corner) (e : Int) (x : Program) (p : P s) : P (commandFill afresh c e x s) := by
  unfold Machine.commandFill
  split
  · split
    · exact h.handLevel c _ x p
    · exact p
  · exact h.arbitrate (h.waiting c _ (h.stopLevel c _ p))

theorem reserveEvent (h : FillStable P) (x : Level) (p : P s) : P (reserveEvent x s) := by
  unfold Machine.reserveEvent
  dsimp only
  split
  · exact h.reserve x p
  · split
    · exact h.arbitrate (h.reserve _ p)
    · exact forAll_rel (fun x y : State => P x → P y) (fun _ => id) (fun h k => k ∘ h) _ (fun c _ => h.stopLevel c _) _ (h.reserve _ p)

theorem commandStable (h : FillStable P) : CommandStable P where
  outcome := h.outcome
  leave c := h.waiting c none
  stopFill c := h.stopLevel c _
  exhaust c p := h.handLevel c _ p
  fill afresh c e p _ := h.commandFill afresh c e p

end FillStable

/-! ### Laws on every pair and on DAMPING -/

/-- `A` holds of every pair and `B` of the unpaired DAMPING. -/
structure Valves.Keeps (A : Pair → Prop) (B : Generator → Prop) (v : Valves) : Prop where
  brake   : ∀ c : Corner, A v.brake[c.val]
  level   : ∀ c : Corner, A v.level[c.val]
  steer   : A v.steer
  damping : B v.damping

/-- A change of a generator within a period, whichever it is. -/
structure WithinPeriod (f : Generator → Generator) (x : Generator) : Prop where
  prog   : (f x).prog = x.prog ∨ (f x).prog = .idle
  sound  : x.Sound → (f x).Sound
  toCome : x.InRange → (f x).toCome ≤ 254

/-- A law on pairs and DAMPING that a handing (R67 to R74), a quieting (R75, R76) and the end of a period (R68 to R73) keep. -/
structure ValveLaw (A : Pair → Prop) (B : Generator → Prop) : Prop where
  fresh  : A ⟨freshGenerator, freshGenerator⟩ ∧ B freshGenerator
  hand   : ∀ (now : Nat) (side : Side) (p : Program) (pr : Pair), A pr → A (pr.hand now side p)
  alone  : ∀ (now : Nat) (p : Program) (g : Generator), B g → B (g.handAlone now p)
  quiet  : ∀ (now : Nat) (pr : Pair) (g : Generator), A (pr.quiet now) ∧ B (g.quiet now)
  first  : ∀ (f : Generator → Generator) (pr : Pair), WithinPeriod f pr.first → A pr → A { pr with first := f pr.first }
  second : ∀ (f : Generator → Generator) (pr : Pair), WithinPeriod f pr.second → A pr → A { pr with second := f pr.second }
  period : ∀ (f : Generator → Generator) (g : Generator), WithinPeriod f g → B g → B (f g)

namespace ValveLaw

theorem takeLevel (law : ValveLaw A B) (c : Corner) (side : Side) (p : Program) (h : s.valves.Keeps A B) :
    (takeLevel c side p s).valves.Keeps A B := by
  unfold Machine.takeLevel
  split
  · exact h
  · refine ⟨h.brake, fun d => ?_, h.steer, h.damping⟩
    dsimp only
    rw [upd_get]
    split
    · exact law.hand _ _ _ _ (h.level c)
    · exact h.level d

theorem fillStable (law : ValveLaw A B) : FillStable fun s => s.valves.Keeps A B where
  take c side p := law.takeLevel c side p
  waiting _ _ := id
  grants _ := id
  reserve _ := id
  outcome _ _ := id

theorem formStable (law : ValveLaw A B) : FormStable fun s => s.valves.Keeps A B where
  stored := id
  inhibit _ := id
  offset _ _ := id
  halt := id
  command c _ := law.fillStable.commandStable.commandFromLast c

theorem quietValves (law : ValveLaw A B) (now : Nat) (v : Valves) : (v.quiet now).Keeps A B := by
  refine ⟨fun c => ?_, fun c => ?_, (law.quiet now _ v.damping).1, (law.quiet now v.steer _).2⟩
  · simp only [Valves.quiet, mapAll_get]
    exact (law.quiet now _ v.damping).1
  · simp only [Valves.quiet, mapAll_get]
    exact (law.quiet now _ v.damping).1

theorem quietGroup (law : ValveLaw A B) (g : Group) (h : s.valves.Keeps A B) : (quietGroup g s).valves.Keeps A B := by
  have quieted := law.quietValves s.now s.valves
  cases g with
  | brake => exact ⟨quieted.brake, h.level, h.steer, h.damping⟩
  | level => exact ⟨h.brake, quieted.level, h.steer, h.damping⟩
  | joint => exact ⟨h.brake, h.level, quieted.steer, quieted.damping⟩
  | doors => exact h
  | sense => exact h

theorem setGen (law : ValveLaw A B) {v : Valves} (g : GenId) (f : Generator → Generator) (can : WithinPeriod f (v.gen g))
    (h : v.Keeps A B) : (v.setGen f g).Keeps A B := by
  have entry {n : Nat} {x : Vector Pair n} (i : Fin n) (k : Pair → Pair) (all : ∀ j : Fin n, A x[j.val]) (here : A (k x[i.val])) (j : Fin n) :
      A (upd x i k)[j.val] := by
    rw [upd_get]
    split
    · exact here
    · exact all j
  cases g with
  | apply c => exact ⟨entry c _ h.brake (law.first f _ can (h.brake c)), h.level, h.steer, h.damping⟩
  | brakeExhaust c => exact ⟨entry c _ h.brake (law.second f _ can (h.brake c)), h.level, h.steer, h.damping⟩
  | fill c => exact ⟨h.brake, entry c _ h.level (law.first f _ can (h.level c)), h.steer, h.damping⟩
  | cornerExhaust c => exact ⟨h.brake, entry c _ h.level (law.second f _ can (h.level c)), h.steer, h.damping⟩
  | kerbward => exact ⟨h.brake, h.level, law.first f _ can h.steer, h.damping⟩
  | offward => exact ⟨h.brake, h.level, law.second f _ can h.steer, h.damping⟩
  | damping => exact ⟨h.brake, h.level, h.steer, law.period f _ can h.damping⟩

theorem freeSlot (law : ValveLaw A B) (i : Slot) (r : Record) (h : s.valves.Keeps A B) : (freeSlot i r s).valves.Keeps A B := by
  refine law.formStable.form ?_
  unfold endService
  split
  · exact h
  · exact h

theorem standRecord (law : ValveLaw A B) (i : Slot) (r : Record) (h : s.valves.Keeps A B) : (standRecord i r s).valves.Keeps A B := by
  have formed : (formEnvelope (putRecord i r s)).valves.Keeps A B := law.formStable.form h
  unfold Machine.standRecord
  split
  · unfold adopt
    split
    · split
      · exact law.formStable.form formed
      · exact formed
    · exact formed
  · exact formed

theorem travel (law : ValveLaw A B) (inc : Nat) (h : s.valves.Keeps A B) :
    (if arriving s inc = [] then travelSlots inc s else formEnvelope (travelSlots inc s)).valves.Keeps A B := by
  have travelled : (travelSlots inc s).valves.Keeps A B := by
    unfold travelSlots
    generalize mapAll s.rt.slots _ = x
    exact h
  split
  · exact travelled
  · exact law.formStable.form travelled

theorem moves (law : ValveLaw A B) (h : a.valves.Keeps A B) (moves : Moves a t) : t.valves.Keeps A B := by
  induction moves with
  | start => exact h
  | powerOn =>
    refine ⟨fun c => ?_, fun c => ?_, law.fresh.1, law.fresh.2⟩
    · simp only [State.powered, freshValves, Vector.getElem_replicate]
      exact law.fresh.1
    · simp only [State.powered, freshValves, Vector.getElem_replicate]
      exact law.fresh.1
  | allReset => exact law.quietValves _ _
  | holdReset => exact law.quietValves _ _
  | form _ ih => exact law.formStable.form ih
  | change i f _ _ _ _ ih => exact law.formStable.form ih
  | free i r _ _ _ ih => exact law.freeSlot i r ih
  | stand i r _ _ ih => exact law.standRecord i r ih
  | travel inc _ ih => exact law.travel inc ih
  | brake c side p _ ih =>
    unfold handBrake
    split
    · exact ih
    · refine ⟨fun d => ?_, ih.level, ih.steer, ih.damping⟩
      dsimp only
      rw [upd_get]
      split
      · exact law.hand _ _ _ _ (ih.brake c)
      · exact ih.brake d
  | steer side p _ ih =>
    unfold handSteer
    split
    · exact ih
    · exact ⟨ih.brake, ih.level, law.hand _ _ _ _ ih.steer, ih.damping⟩
  | damping p _ ih =>
    unfold handDamping
    split
    · exact ih
    · exact ⟨ih.brake, ih.level, ih.steer, law.alone _ _ _ ih.damping⟩
  | quiet g _ _ ih => exact law.quietGroup g ih
  | period g f can _ ih => exact law.setGen g f ⟨can.prog.imp_right And.left, can.sound, can.toCome⟩ ih
  | runOut c _ ih =>
    refine law.fillStable.returnGrant c (law.setGen (.fill c) _ ⟨.inr rfl, fun _ => ?_, fun _ => Nat.zero_le _⟩ ih)
    exact Generator.quiet_sound _ _
  | levelReset t _ ih => exact law.quietGroup .level (s := setReset .level (some t) _) ih
  | stopFill c _ ih => exact law.fillStable.stopLevel c _ ih
  | exhaust c p _ ih => exact law.fillStable.handLevel c _ p ih
  | fill afresh c e p _ _ _ ih => exact law.fillStable.commandFill afresh c e p ih
  | reserve x _ ih => exact law.fillStable.reserveEvent x ih
  | time _ _ ih | mark _ _ _ _ ih | profiles _ _ _ ih | inhibit _ _ ih | sp _ _ _ _ ih | mc _ _ _ _ ih | bc _ _ _ ih | js _ _ _ ih
  | dl _ _ _ ih | dt _ _ _ ih | hl _ _ _ _ ih | degraded _ _ ih | lc _ _ _ ih => exact ih

end ValveLaw

/-! ### The interlock (R66, R72, R73) -/

theorem Generator.begin_sound (now : Nat) (partner : Option Nat) {p : Program} (opens : p ≠ .idle) (g : Generator) :
    (g.begin now partner p).Sound := by
  have waits (t : Nat) : (g.wait now t p).Sound := ⟨fun idle => absurd idle opens, fun _ => rfl⟩
  unfold Generator.begin
  split
  · split
    · exact waits _
    · exact Generator.start_sound now p g
  · exact Generator.start_sound now p g

theorem Pair.hand_sound (now : Nat) (side : Side) (p : Program) {pr : Pair} (h : pr.Sound) : (pr.hand now side p).Sound := by
  obtain ⟨first, second, apart⟩ := h
  have quiet (g : Generator) := Generator.quiet_sound now g
  unfold Pair.hand
  split
  · cases side
    · exact ⟨quiet _, second, .inl rfl⟩
    · exact ⟨first, quiet _, .inr rfl⟩
  · rename_i opens
    cases side
    · exact ⟨Generator.begin_sound now _ opens _, quiet _, .inr rfl⟩
    · exact ⟨quiet _, Generator.begin_sound now _ opens _, .inl rfl⟩

theorem soundLaw : ValveLaw Pair.Sound Generator.Sound where
  fresh := by
    have fresh : freshGenerator.Sound := ⟨fun _ => ⟨rfl, rfl⟩, fun _ => rfl⟩
    exact ⟨⟨fresh, fresh, .inl rfl⟩, fresh⟩
  hand now side p _ := Pair.hand_sound now side p
  alone now p g _ := Generator.start_sound now p.inRange g
  quiet now pr g := ⟨⟨Generator.quiet_sound now _, Generator.quiet_sound now _, .inl rfl⟩, Generator.quiet_sound now g⟩
  first f pr can h := ⟨can.sound h.1, h.2.1, by
    rcases can.prog with kept | ends
    · exact h.2.2.imp_left kept.trans
    · exact .inl ends⟩
  second f pr can h := ⟨h.1, can.sound h.2.1, by
    rcases can.prog with kept | ends
    · exact h.2.2.imp_right kept.trans
    · exact .inr ends⟩
  period f g can h := can.sound h

theorem interlockLaw_iff : s.InterlockLaw ↔ s.valves.Keeps Pair.Sound Generator.Sound :=
  ⟨fun ⟨brake, level, steer, damping⟩ => ⟨brake, level, steer, damping⟩,
    fun ⟨brake, level, steer, damping⟩ => ⟨brake, level, steer, damping⟩⟩

/-- Settles O53: a handing forces the partner IDLE, and no other move starts a program. -/
theorem interlockLawKept : Obligations.InterlockLawKept := fun _ _ h e =>
  interlockLaw_iff.mpr (step_keeps (P := fun s => s.valves.Keeps Pair.Sound Generator.Sound) (fun _ _ => id) (fun _ _ => id) soundLaw.moves
    (interlockLaw_iff.mp h) e)

end Sys2Proof.Machine
end

section
/-! PROOFS. The law on counts (O58): each move keeps it. -/

namespace Sys2Proof.Machine

variable {a s t : State}

/-! ### The generators' programs (R67, R69) -/

theorem Program.inRange_inRange (p : Program) : p.inRange.inRange = p.inRange := by
  cases p with
  | idle => rfl
  | single t =>
    by_cases zero : t = 0
    · simp [Program.inRange, zero]
    · have opens : min t 1000 ≠ 0 := by omega
      simp [Program.inRange, zero]
  | train on off n =>
    by_cases zero : on = 0 ∨ n = 0
    · simp [Program.inRange, zero]
    · have opens : ¬ (min on 1000 = 0 ∨ min n 255 = 0) := by omega
      simp [Program.inRange, zero]
  | duty d =>
    by_cases zero : d = 0
    · simp [Program.inRange, zero]
    · simp [Program.inRange, zero]

theorem Generator.quiet_inRange (now : Nat) (g : Generator) : (g.quiet now).InRange := ⟨rfl, Nat.zero_le _⟩

theorem Generator.start_inRange (now : Nat) {p : Program} (h : p.inRange = p) (g : Generator) : (g.start now p).InRange :=
  ⟨by rw [Generator.start_prog, h], Generator.start_toCome_le now h g⟩

theorem Generator.begin_inRange (now : Nat) (partner : Option Nat) {p : Program} (h : p.inRange = p) (g : Generator) :
    (g.begin now partner p).InRange := by
  unfold Generator.begin
  split
  · split
    · exact ⟨h, Program.toCome_le h⟩
    · exact Generator.start_inRange now h g
  · exact Generator.start_inRange now h g

/-- Both members of a pair hold programs in range. -/
def Pair.InRange (p : Pair) : Prop := p.first.InRange ∧ p.second.InRange

theorem Pair.hand_inRange (now : Nat) (side : Side) (p : Program) {pr : Pair} (h : pr.InRange) : (pr.hand now side p).InRange := by
  have quiet (g : Generator) := Generator.quiet_inRange now g
  unfold Pair.hand
  split
  · cases side
    · exact ⟨quiet _, h.2⟩
    · exact ⟨h.1, quiet _⟩
  · rename_i opens
    cases side
    · exact ⟨Generator.begin_inRange now _ p.inRange_inRange _, quiet _⟩
    · exact ⟨quiet _, Generator.begin_inRange now _ p.inRange_inRange _⟩

theorem WithinPeriod.inRange {f : Generator → Generator} {g : Generator} (can : WithinPeriod f g) (h : g.InRange) : (f g).InRange := by
  refine ⟨?_, can.toCome h⟩
  rcases can.prog with kept | ends
  · rw [kept]
    exact h.1
  · rw [ends]
    rfl

theorem inRangeLaw : ValveLaw Pair.InRange Generator.InRange where
  fresh := by
    have fresh : freshGenerator.InRange := ⟨rfl, Nat.zero_le _⟩
    exact ⟨⟨fresh, fresh⟩, fresh⟩
  hand now side p _ := Pair.hand_inRange now side p
  alone now p g _ := Generator.start_inRange now p.inRange_inRange g
  quiet now pr g := ⟨⟨Generator.quiet_inRange now _, Generator.quiet_inRange now _⟩, Generator.quiet_inRange now g⟩
  first f pr can h := ⟨can.inRange h.1, h.2⟩
  second f pr can h := ⟨h.1, can.inRange h.2⟩
  period f g can h := can.inRange h

theorem gens_iff : (∀ g : GenId, (s.gen g).InRange) ↔ s.valves.Keeps Pair.InRange Generator.InRange := by
  constructor
  · intro h
    exact ⟨fun c => ⟨h (.apply c), h (.brakeExhaust c)⟩, fun c => ⟨h (.fill c), h (.cornerExhaust c)⟩, ⟨h .kerbward, h .offward⟩, h .damping⟩
  · intro h g
    cases g with
    | apply c => exact (h.brake c).1
    | brakeExhaust c => exact (h.brake c).2
    | fill c => exact (h.level c).1
    | cornerExhaust c => exact (h.level c).2
    | kerbward => exact h.steer.1
    | offward => exact h.steer.2
    | damping => exact h.damping

theorem Moves.gens (h : a.Counts) (moves : Moves a t) : ∀ g : GenId, (t.gen g).InRange :=
  gens_iff.mpr (inRangeLaw.moves (gens_iff.mp h.gens) moves)

/-! ### The corners' records (section 6.1) -/

theorem LevellingController.InRange.changeCorner {x : LevellingController} (h : x.InRange) (c : Corner) {f : CornerRecord → CornerRecord}
    (keeps : ∀ r : CornerRecord, r.InRange → (f r).InRange) : ({ x with corners := upd x.corners c f } : LevellingController).InRange := by
  refine ⟨fun d => ?_, h.strays⟩
  dsimp only
  rw [upd_get]
  split
  · exact keeps _ (h.corners c)
  · exact h.corners d

theorem level_fillStable : FillStable fun s => s.lc.InRange where
  take c side p h := by
    unfold takeLevel
    split
    · exact h
    · exact h
  waiting c _ h := h.changeCorner c fun _ => id
  grants _ h := ⟨h.corners, h.strays⟩
  reserve _ h := ⟨h.corners, h.strays⟩
  outcome c _ h := h.changeCorner c fun _ => id

theorem level_formStable : FormStable fun s => s.Ranges ∧ s.lc.InRange where
  stored h := ⟨⟨h.1.records, h.1.profiles, envelopeOf_inRange h.1.records, h.1.samples, h.1.motion⟩, h.2⟩
  inhibit _ h := ⟨h.1.same rfl rfl rfl rfl, h.2⟩
  offset c _ h := ⟨h.1.same rfl rfl rfl rfl, h.2.changeCorner c fun _ ⟨revs, count, sum, last, _, _, rest⟩ =>
    ⟨revs, count, sum, last, (h.1.env.offsets c).1, (h.1.env.offsets c).2, rest⟩⟩
  halt h := ⟨h.1.same rfl rfl rfl rfl, ⟨h.2.corners, h.2.strays⟩⟩
  command c _ h := ⟨h.1.levelOnly (commandFromLast_only c _), level_fillStable.commandStable.commandFromLast c h.2⟩

/-! ### The blocks that a move leaves -/

/-- The counts of a state whose blocks but the Levelling Controller, the valves and the Host Link's flags stand as they were. -/
theorem State.Counts.same (h : s.Counts) (table : TableOnly s t) (lc : t.lc.InRange) (gens : ∀ g : GenId, (t.gen g).InRange) : t.Counts := by
  refine ⟨table.mc ▸ h.motion, table.sp ▸ h.discards, table.bc ▸ h.brake, lc, table.js ▸ h.joint, gens, fun d => ?_, fun d => ?_, ?_⟩
  · show (t.dl.lines[d.val]).Counted
    rw [table.dl]
    exact h.lines d
  · rw [table.dt]
    exact h.ignored d
  · rw [table.hl]
    exact ⟨h.host.params, h.host.runCount, h.host.response⟩

theorem defaultParams_inRange : defaultParams.InRange := by
  unfold Params.InRange Band.InRange
  decide +kernel

theorem resetMotion_counted (now : Nat) (joint actuator : Phases) : (resetMotion now joint actuator).Counted := by
  have circ : 1000 ≤ defaultParams.circ ∧ defaultParams.circ ≤ 4000 := by decide
  have teeth : 20 ≤ defaultParams.teeth ∧ defaultParams.teeth ≤ 200 := by decide
  refine ⟨circ, teeth, Nat.zero_le _, fun x => ?_, fun c => ⟨?_, fun k => ?_⟩, ⟨Nat.zero_le _, Nat.zero_le _⟩,
    ⟨Nat.zero_le _, Nat.zero_le _⟩⟩
  all_goals simp [resetMotion]

theorem resetBrake_inRange (now : Nat) : (resetBrake now).InRange := by
  refine ⟨Nat.zero_le _, Nat.zero_le _, fun x => ?_, fun c => ?_⟩
  · simp [resetBrake, BrakeAxle.InRange]
  · simp [resetBrake, resetChannel, BrakeChannel.InRange]

theorem resetLevelling_inRange (now : Nat) : (resetLevelling now).InRange := by
  refine ⟨fun c => ?_, Nat.zero_le _⟩
  simp [resetLevelling, resetCorner, CornerRecord.InRange]

theorem resetJoint_inRange (now : Nat) : (resetJoint now).InRange := by simp [resetJoint, JointController.InRange]

theorem resetLine_counted (now : Nat) (held : Option Nat) : (resetLine now held).Counted := ⟨Nat.zero_le _, Nat.zero_le _, List.nodup_nil⟩

theorem resetLink_inRange (cause : Cause) (shifted : List Byte) : (resetLink cause shifted).InRange :=
  ⟨defaultParams_inRange, Nat.zero_le _, Nat.le_of_lt (by cases cause <;> exact Nat.lt_of_sub_eq_succ rfl)⟩

/-- The counts after a reset (R64, R97, R121, R137, R153, R169, R181). -/
theorem reset_counts (now : Nat) (pending : List Instr) (joint actuator : Phases) (lines : Vector Line 4)
    (blocks : t = { State.powered now pending joint actuator with valves := t.valves, dl := resetLines now lines, hl := t.hl })
    (link : t.hl.InRange) (gens : ∀ g : GenId, (t.gen g).InRange) : t.Counts := by
  refine ⟨?_, ?_, ?_, ?_, ?_, gens, fun d => ?_, fun d => ?_, link⟩
  all_goals rw [blocks]
  · exact resetMotion_counted now joint actuator
  · exact Nat.zero_le _
  · exact resetBrake_inRange now
  · exact resetLevelling_inRange now
  · exact resetJoint_inRange now
  · simp only [resetLines, mapAll_get]
    exact resetLine_counted _ _
  · simp [State.powered, resetTranslator]

theorem State.Counts.form (range : s.Ranges) (h : s.Counts) (gens : ∀ g : GenId, ((formEnvelope s).gen g).InRange) : (formEnvelope s).Counts :=
  h.same (formEnvelope_table s) (level_formStable.form ⟨range, h.level⟩).2 gens

/-- A move of the corners' valves and of the arbiter. -/
theorem State.Counts.levelOnly (h : s.Counts) (only : LevelOnly s t) (lc : t.lc.InRange) (gens : ∀ g : GenId, (t.gen g).InRange) : t.Counts :=
  h.same only.table lc gens

theorem returnActive_level (i : Slot) (range : s.Ranges) (h : s.lc.InRange) : (returnActive i s).lc.InRange := by
  obtain ⟨_, formed⟩ := level_formStable.form (s := changeRecord i Record.reactivate s)
    ⟨range.changed i fun _ _ => Record.reactivate_inRange, h⟩
  exact ⟨formed.corners, formed.strays⟩

theorem standRecord_level (i : Slot) {r : Record} (r_range : r.InRange) (range : s.Ranges) (h : s.lc.InRange) : (standRecord i r s).lc.InRange := by
  have formed := level_formStable.form (s := putRecord i r s) ⟨range.put r_range, h⟩
  unfold standRecord
  split
  · unfold adopt
    split
    · split
      · exact returnActive_level _ formed.1 formed.2
      · exact formed.2
    · exact formed.2
  · exact formed.2

theorem standRecord_table (i : Slot) (r : Record) (s : State) : TableOnly s (standRecord i r s) := by
  have formed := (putRecord_table i r s).trans (formEnvelope_table _)
  unfold standRecord
  split
  · exact formed.trans (adopt_table _ _)
  · exact formed

theorem travelSlots_lc (inc : Nat) (s : State) : (travelSlots inc s).lc = s.lc := by
  unfold travelSlots
  generalize mapAll s.rt.slots _ = x
  rfl

theorem State.Counts.travel (range : s.Ranges) (h : s.Counts) (inc : Nat)
    (gens : ∀ g : GenId, ((if arriving s inc = [] then travelSlots inc s else formEnvelope (travelSlots inc s)).gen g).InRange) :
    (if arriving s inc = [] then travelSlots inc s else formEnvelope (travelSlots inc s)).Counts := by
  have table := travelSlots_table inc s
  have travelled := range.travelSlots inc
  have level : (travelSlots inc s).lc.InRange := by
    rw [travelSlots_lc]
    exact h.level
  generalize travelSlots inc s = t at *
  split at gens
  · rw [if_pos (by assumption)]
    exact h.same table level gens
  · rw [if_neg (by assumption)]
    exact h.same (table.trans (formEnvelope_table t)) (level_formStable.form ⟨travelled, level⟩).2 gens

/-- Only the valves differ. -/
theorem State.Counts.valves (h : s.Counts) (same : t = { s with valves := t.valves }) (gens : ∀ g : GenId, (t.gen g).InRange) : t.Counts := by
  refine ⟨?_, ?_, ?_, ?_, ?_, gens, ?_, ?_, ?_⟩
  all_goals rw [same]
  · exact h.motion
  · exact h.discards
  · exact h.brake
  · exact h.level
  · exact h.joint
  · exact h.lines
  · exact h.ignored
  · exact h.host

theorem handBrake_valves (c : Corner) (side : Side) (p : Program) (s : State) :
    handBrake c side p s = { s with valves := (handBrake c side p s).valves } := by
  unfold handBrake
  split
  · rfl
  · rfl

theorem handSteer_valves (side : Side) (p : Program) (s : State) : handSteer side p s = { s with valves := (handSteer side p s).valves } := by
  unfold handSteer
  split
  · rfl
  · rfl

theorem handDamping_valves (p : Program) (s : State) : handDamping p s = { s with valves := (handDamping p s).valves } := by
  unfold handDamping
  split
  · rfl
  · rfl

theorem quietGroup_valves (g : Group) (s : State) : quietGroup g s = { s with valves := (quietGroup g s).valves } := by
  cases g
  all_goals rfl

theorem Line.heldInReset_sameCounts (now : Nat) (l : Line) : l.SameCounts (l.heldInReset now) :=
  have low := l.takeLow_sameCounts now
  ⟨low.attempts, low.errors, low.queue⟩

theorem CornerRecord.levelReset_inRange {r : CornerRecord} (h : r.InRange) : r.levelReset.InRange := by
  obtain ⟨_, _, _, _, rest⟩ := h
  exact ⟨Nat.zero_le _, Nat.zero_le _, Nat.zero_le _, nofun, rest⟩

theorem levelReset_level (t : Nat) (h : s.lc.InRange) : (startReset .level (setReset .level (some t) s)).lc.InRange := by
  refine ⟨fun c => ?_, h.strays⟩
  show ((mapAll s.lc.corners fun _ r => r.levelReset)[c.val]).InRange
  rw [mapAll_get]
  exact CornerRecord.levelReset_inRange (h.corners c)

theorem State.Counts.runOut (h : s.Counts) (c : Corner)
    (gens : ∀ g : GenId, ((returnGrant c (changeGen (.fill c) (Generator.toIdle s.now) s)).gen g).InRange) :
    (returnGrant c (changeGen (.fill c) (Generator.toIdle s.now) s)).Counts := by
  have only := returnGrant_only c (changeGen (.fill c) (Generator.toIdle s.now) s)
  refine ⟨only.mc ▸ h.motion, only.sp ▸ h.discards, only.bc ▸ h.brake, level_fillStable.returnGrant c h.level, only.js ▸ h.joint, gens,
    fun d => ?_, fun d => ?_, only.hl ▸ h.host⟩
  · show ((returnGrant c (changeGen (.fill c) (Generator.toIdle s.now) s)).dl.lines[d.val]).Counted
    rw [only.dl]
    exact h.lines d
  · rw [only.dt]
    exact h.ignored d

theorem Moves.counts (range : a.Ranges) (h : a.Counts) (moves : Moves a t) : t.Counts := by
  induction moves with
  | start => exact h
  | powerOn k _ => exact reset_counts _ _ _ _ _ rfl (resetLink_inRange .powerOn []) (Moves.gens h (.powerOn k))
  | allReset k _ => exact reset_counts _ _ _ _ _ rfl (resetLink_inRange .resetAll _) (Moves.gens h (.allReset k))
  | holdReset k ih =>
    refine ⟨ih.motion, ih.discards, ih.brake, ih.level, ih.joint, Moves.gens h (.holdReset k), fun d => ?_, ih.ignored, ih.host⟩
    simp only [Machine.holdReset, mapAll_get]
    exact (Line.heldInReset_sameCounts _ _).counted (ih.lines d)
  | form k ih => exact ih.form (k.ranges range) (Moves.gens h (.form k))
  | change i f same keeps parent k ih =>
    exact ih.same ((changeRecord_table i f _).trans (formEnvelope_table _))
      (level_formStable.form (s := changeRecord i f _) ⟨(k.ranges range).changed i keeps, ih.level⟩).2
      (Moves.gens h (.change i f same keeps parent k))
  | mark i f marks k ih => exact ih.same (changeRecord_table i f _) ih.level (Moves.gens h (.mark i f marks k))
  | free i r stands childless k ih =>
    refine ih.same (freeSlot_table i r _) (level_formStable.form ⟨(k.ranges range).vacated i r, ?_⟩).2
      (Moves.gens h (.free i r stands childless k))
    unfold endService
    split
    · exact ⟨ih.level.corners, ih.level.strays⟩
    · exact ⟨ih.level.corners, ih.level.strays⟩
  | stand i r can k ih =>
    exact ih.same (standRecord_table i r _) (standRecord_level i (can.range (k.ranges range)) (k.ranges range) ih.level)
      (Moves.gens h (.stand i r can k))
  | travel inc k ih => exact ih.travel (k.ranges range) inc (Moves.gens h (.travel inc k))
  | brake c side p k ih => exact ih.valves (handBrake_valves c side p _) (Moves.gens h (.brake c side p k))
  | steer side p k ih => exact ih.valves (handSteer_valves side p _) (Moves.gens h (.steer side p k))
  | damping p k ih => exact ih.valves (handDamping_valves p _) (Moves.gens h (.damping p k))
  | quiet g other k ih => exact ih.valves (quietGroup_valves g _) (Moves.gens h (.quiet g other k))
  | period g f can k ih => exact ih.valves (t := changeGen g f _) rfl (Moves.gens h (.period g f can k))
  | runOut c k ih =>
    refine ih.runOut c (Moves.gens h (.runOut c k))
  | stopFill c k ih =>
    exact ih.levelOnly (stopLevel_only c _ _) (level_fillStable.stopLevel c _ ih.level) (Moves.gens h (.stopFill c k))
  | exhaust c p k ih =>
    exact ih.levelOnly (handLevel_only c _ p _) (level_fillStable.handLevel c _ p ih.level) (Moves.gens h (.exhaust c p k))
  | fill afresh c e p opens live k ih =>
    exact ih.levelOnly (commandFill_only afresh c e p _) (level_fillStable.commandFill afresh c e p ih.level)
      (Moves.gens h (.fill afresh c e p opens live k))
  | reserve x k ih => exact ih.levelOnly (reserveEvent_only x _) (level_fillStable.reserveEvent x ih.level) (Moves.gens h (.reserve x k))
  | levelReset n k ih =>
    exact ⟨ih.motion, ih.discards, ih.brake, levelReset_level n ih.level, ih.joint, Moves.gens h (.levelReset n k), ih.lines, ih.ignored,
      ⟨ih.host.params, ih.host.runCount, ih.host.response⟩⟩
  | lc x quiet k ih =>
    exact ⟨ih.motion, ih.discards, ih.brake, quiet.values (k.ranges range) ih, ih.joint, ih.gens, ih.lines, ih.ignored, ih.host⟩
  | sp x _ count k ih => exact ⟨ih.motion, count ih.discards, ih.brake, ih.level, ih.joint, ih.gens, ih.lines, ih.ignored, ih.host⟩
  | mc x _ count k ih => exact ⟨count ih, ih.discards, ih.brake, ih.level, ih.joint, ih.gens, ih.lines, ih.ignored, ih.host⟩
  | bc x count k ih =>
    exact ⟨ih.motion, ih.discards, count (k.ranges range) ih, ih.level, ih.joint, ih.gens, ih.lines, ih.ignored, ih.host⟩
  | js x count k ih =>
    exact ⟨ih.motion, ih.discards, ih.brake, ih.level, count (k.ranges range) ih, ih.gens, ih.lines, ih.ignored, ih.host⟩
  | dl x count k ih => exact ⟨ih.motion, ih.discards, ih.brake, ih.level, ih.joint, ih.gens, count ih, ih.ignored, ih.host⟩
  | dt x count k ih => exact ⟨ih.motion, ih.discards, ih.brake, ih.level, ih.joint, ih.gens, ih.lines, count ih, ih.host⟩
  | hl x _ count k ih => exact ⟨ih.motion, ih.discards, ih.brake, ih.level, ih.joint, ih.gens, ih.lines, ih.ignored, count ih⟩
  | time _ _ ih | profiles _ _ _ ih | inhibit _ _ ih | degraded _ _ ih =>
    exact ⟨ih.motion, ih.discards, ih.brake, ih.level, ih.joint, ih.gens, ih.lines, ih.ignored, ih.host⟩

/-- Settles O58: what each move counts or stores stays within its bounds. -/
theorem countLawKept : Obligations.CountLawKept := by
  intro s t range h e
  have law : s.Ranges ∧ s.Counts := ⟨rangeLaw_iff.mp range, countLaw_iff.mp h⟩
  refine countLaw_iff.mpr (step_keeps (P := fun s => s.Ranges ∧ s.Counts) (fun s rest k => ?_) (fun s n k => ?_)
    (fun k moves => ⟨moves.ranges k.1, Moves.counts k.1 k.2 moves⟩) law e).2
  all_goals
    exact ⟨k.1.same rfl rfl rfl rfl, ⟨k.2.motion, k.2.discards, k.2.brake, k.2.level, k.2.joint, k.2.gens, k.2.lines, k.2.ignored, k.2.host⟩⟩

end Sys2Proof.Machine
end

section
/-! PROOFS. The fill arbiter (R109 to R111): whom it gives a grant, and what a handing does to a corner's pair. -/

namespace Sys2Proof.Machine

variable {s t : State} {c d : Corner}

/-! ### A handing, by members (R67, R71 to R74) -/

theorem Pair.make_at (side : Side) (x y : Generator) : (Pair.make side x y).at side = x ∧ (Pair.make side x y).at side.other = y := by
  cases side
  · exact ⟨rfl, rfl⟩
  · exact ⟨rfl, rfl⟩

/-- The member handed a program holds it, put in range. -/
theorem Pair.hand_prog (now : Nat) (side : Side) (p : Program) (pr : Pair) : ((pr.hand now side p).at side).prog = p.inRange := by
  unfold Pair.hand
  split
  · rename_i idle
    rw [(Pair.make_at _ _ _).1, idle]
    rfl
  · rw [(Pair.make_at _ _ _).1]
    exact Generator.begin_prog _ _ _ _

/-- IDLE leaves the partner alone, and any other program makes it IDLE. -/
theorem Pair.hand_other (now : Nat) (side : Side) (p : Program) (pr : Pair) :
    (pr.hand now side p).at side.other = if p.inRange = .idle then pr.at side.other else (pr.at side.other).toIdle now := by
  unfold Pair.hand
  split
  · rename_i idle
    rw [(Pair.make_at _ _ _).2, if_pos idle]
  · rename_i opens
    rw [(Pair.make_at _ _ _).2, if_neg opens]

theorem Program.completes_ne_idle {p : Program} (h : p.completes = true) : p ≠ .idle := by
  rintro rfl
  cases h

/-! ### The grants -/

theorem granted_iff : s.granted c = true ↔ s.lc.grants[0] = some c ∨ s.lc.grants[1] = some c := by
  rw [State.granted, List.any_eq_true]
  constructor
  · rintro ⟨g, member, same⟩
    rw [Vector.mem_toList_iff, Vector.mem_iff_getElem] at member
    obtain ⟨i, small, rfl⟩ := member
    rw [beq_iff_eq] at same
    match i with
    | 0 => exact .inl same
    | 1 => exact .inr same
  · rintro (same | same)
    · exact ⟨_, Vector.mem_toList_iff.mpr (Vector.getElem_mem (by decide : 0 < 2)), by simp [same]⟩
    · exact ⟨_, Vector.mem_toList_iff.mpr (Vector.getElem_mem (by decide : 1 < 2)), by simp [same]⟩

theorem granted_eq_of (grants : t.lc.grants = s.lc.grants) (c : Corner) : t.granted c = s.granted c := by rw [State.granted, State.granted, grants]

/-- A grant is free. -/
def State.GrantFree (s : State) : Prop := s.lc.grants[0] = none ∨ s.lc.grants[1] = none

theorem grantFree_iff : s.lc.grants.toList.any Option.isNone = true ↔ s.GrantFree := by
  rw [List.any_eq_true]
  constructor
  · rintro ⟨g, member, free⟩
    rw [Vector.mem_toList_iff, Vector.mem_iff_getElem] at member
    obtain ⟨i, small, rfl⟩ := member
    rw [Option.isNone_iff_eq_none] at free
    match i with
    | 0 => exact .inl free
    | 1 => exact .inr free
  · rintro (free | free)
    · exact ⟨_, Vector.mem_toList_iff.mpr (Vector.getElem_mem (by decide : 0 < 2)), by simp [free]⟩
    · exact ⟨_, Vector.mem_toList_iff.mpr (Vector.getElem_mem (by decide : 1 < 2)), by simp [free]⟩

theorem takeGrant_get (g : Vector (Option Corner) 2) (c : Corner) :
    (takeGrant g c)[0] = (if g[0] = none then some c else g[0]) ∧ (takeGrant g c)[1] = if g[0] = none then g[1] else some c := by
  unfold takeGrant
  split
  · rename_i free
    rw [Option.isNone_iff_eq_none] at free
    simp [free]
  · rename_i taken
    rw [Option.isNone_iff_eq_none] at taken
    simp [taken]

/-! ### Whom the arbiter looks at (R110) -/

/-- What the arbiter's look over some corners comes to: none of them waits, or the one found waits and is the next among them. -/
def BestOf (corners : Vector CornerRecord 6) (xs : List Corner) : Option (Corner × WaitEntry) → Prop
  | none => ∀ d ∈ xs, corners[d.val].waiting = none
  | some (c, w) => c ∈ xs ∧ corners[c.val].waiting = some w ∧
      ∀ d ∈ xs, ∀ v, corners[d.val].waiting = some v → v.error < w.error ∨ (v.error = w.error ∧ c ≤ d)

/-- One step of the look. -/
def betterOf (corners : Vector CornerRecord 6) (best : Option (Corner × WaitEntry)) (c : Corner) : Option (Corner × WaitEntry) :=
  match corners[c.val].waiting, best with
  | none, b => b
  | some w, none => some (c, w)
  | some w, some (d, v) => if v.error < w.error then some (c, w) else some (d, v)

theorem bestWaiting_eq (corners : Vector CornerRecord 6) : bestWaiting corners = (List.finRange 6).foldl (betterOf corners) none := rfl

theorem BestOf.step {corners : Vector CornerRecord 6} {xs : List Corner} {b : Option (Corner × WaitEntry)} (h : BestOf corners xs b)
    (later : ∀ d ∈ xs, d ≤ c) : BestOf corners (xs ++ [c]) (betterOf corners b c) := by
  cases waits : corners[c.val].waiting with
  | none =>
    have same : betterOf corners b c = b := by
      unfold betterOf
      rw [waits]
    rw [same]
    have idle := waits
    cases b with
    | none =>
      intro d member
      rcases List.mem_append.mp member with before | here
      · exact h d before
      · cases List.mem_singleton.mp here
        exact idle
    | some x =>
      obtain ⟨member, waits, next⟩ := h
      refine ⟨List.mem_append_left _ member, waits, fun d present v hv => ?_⟩
      rcases List.mem_append.mp present with before | here
      · exact next d before v hv
      · cases List.mem_singleton.mp here
        cases idle.symm.trans hv
  | some w =>
  cases b with
  | none =>
    have same : betterOf corners none c = some (c, w) := by
      unfold betterOf
      rw [waits]
    rw [same]
    refine ⟨by simp, waits, fun d present v hv => ?_⟩
    rcases List.mem_append.mp present with before | here
    · cases (h d before).symm.trans hv
    · cases List.mem_singleton.mp here
      cases waits.symm.trans hv
      exact .inr ⟨rfl, le_refl _⟩
  | some x =>
    obtain ⟨k, v⟩ := x
    obtain ⟨member, held, next⟩ := h
    have same : betterOf corners (some (k, v)) c = if v.error < w.error then some (c, w) else some (k, v) := by
      unfold betterOf
      rw [waits]
    rw [same]
    split
    · rename_i larger
      refine ⟨by simp, waits, fun d present u hu => ?_⟩
      rcases List.mem_append.mp present with before | here
      · rcases next d before u hu with less | ⟨same, _⟩
        · exact .inl (less.trans larger)
        · exact .inl (same ▸ larger)
      · cases List.mem_singleton.mp here
        cases waits.symm.trans hu
        exact .inr ⟨rfl, le_refl _⟩
    · rename_i smaller
      refine ⟨List.mem_append_left _ member, held, fun d present u hu => ?_⟩
      rcases List.mem_append.mp present with before | here
      · exact next d before u hu
      · cases List.mem_singleton.mp here
        cases waits.symm.trans hu
        rcases lt_or_eq_of_le (not_lt.mp smaller) with less | same
        · exact .inl less
        · exact .inr ⟨same, later k member⟩

theorem bestOf_foldl {corners : Vector CornerRecord 6} : ∀ (ys xs : List Corner) {b : Option (Corner × WaitEntry)}, BestOf corners xs b →
    (∀ d ∈ xs, ∀ e ∈ ys, d ≤ e) → ys.Pairwise (· ≤ ·) → BestOf corners (xs ++ ys) (ys.foldl (betterOf corners) b)
  | [], xs, _, h, _, _ => by rw [List.append_nil]; exact h
  | y :: ys, xs, b, h, order, sorted => by
    obtain ⟨first, rest⟩ := List.pairwise_cons.mp sorted
    have step := h.step (c := y) fun d hd => order d hd y (List.mem_cons_self ..)
    have := bestOf_foldl ys (xs ++ [y]) step (fun d hd e he => by
      rcases List.mem_append.mp hd with before | here
      · exact order d before e (List.mem_cons_of_mem _ he)
      · cases List.mem_singleton.mp here
        exact first e he) rest
    rwa [List.append_assoc, List.singleton_append] at this

theorem bestWaiting_bestOf (corners : Vector CornerRecord 6) : BestOf corners (List.finRange 6) (bestWaiting corners) := by
  rw [bestWaiting_eq]
  exact bestOf_foldl (List.finRange 6) [] (b := none) (fun _ hd => absurd hd List.not_mem_nil) (fun _ hd => absurd hd List.not_mem_nil) (by decide)

theorem bestWaiting_none (h : bestWaiting s.lc.corners = none) (c : Corner) : (s.corner c).waiting = none := by
  have best := bestWaiting_bestOf s.lc.corners
  rw [h] at best
  exact best c (List.mem_finRange c)

theorem waitError_eq_some {e : Int} : s.waitError c = some e ↔ ∃ w, (s.corner c).waiting = some w ∧ w.error = e := by
  rw [State.waitError, Option.map_eq_some_iff]

theorem waitError_eq_none : s.waitError c = none ↔ (s.corner c).waiting = none := by rw [State.waitError, Option.map_eq_none_iff]

theorem bestWaiting_some {w : WaitEntry} (h : bestWaiting s.lc.corners = some (c, w)) :
    (s.corner c).waiting = some w ∧ IsNext s.waitError c := by
  have best := bestWaiting_bestOf s.lc.corners
  rw [h] at best
  obtain ⟨_, waits, next⟩ := best
  have error : s.waitError c = some w.error := waitError_eq_some.mpr ⟨w, waits, rfl⟩
  refine ⟨waits, by rw [error]; rfl, fun d => ?_⟩
  cases other : (s.corner d).waiting with
  | none => exact .inl (waitError_eq_none.mpr other)
  | some v =>
    have error' : s.waitError d = some v.error := waitError_eq_some.mpr ⟨v, other, rfl⟩
    rw [error, error']
    rcases next d (List.mem_finRange d) v other with less | ⟨same, before⟩
    · exact .inr (.inl less)
    · exact .inr (.inr ⟨congrArg some same, before⟩)

/-- The next corner is one alone. -/
theorem isNext_unique {error : Corner → Option Int} (hc : IsNext error c) (hd : IsNext error d) : c = d := by
  obtain ⟨cs, cn⟩ := hc
  obtain ⟨ds, dn⟩ := hd
  rcases cn d with absent | less | ⟨_, before⟩
  · rw [absent] at ds
    cases ds
  · rcases dn c with absent | less' | ⟨same, _⟩
    · rw [absent] at cs
      cases cs
    · omega
    · rw [same] at less
      omega
  · rcases dn c with absent | less' | ⟨same, after⟩
    · rw [absent] at cs
      cases cs
    · rename_i same
      rw [same] at less'
      omega
    · exact le_antisymm before after

/-! ### A grant given (R110) -/

theorem takeLevel_lc (c : Corner) (side : Side) (p : Program) (s : State) : (takeLevel c side p s).lc = s.lc := by
  unfold takeLevel
  split
  · rfl
  · rfl

theorem takeLevel_level (live : s.inReset .level = false) (c d : Corner) (side : Side) (p : Program) :
    (takeLevel c side p s).valves.level[d.val] = if c = d then (s.valves.level[c.val]).hand s.now side p else s.valves.level[d.val] := by
  unfold takeLevel
  rw [if_neg (by rw [live]; decide)]
  dsimp only
  rw [upd_get]

theorem giveGrant_corner (c d : Corner) (w : WaitEntry) (s : State) :
    (giveGrant c w s).corner d = if c = d then { s.corner c with waiting := none } else s.corner d := by
  unfold State.corner giveGrant
  rw [takeLevel_lc]
  dsimp only [leaveWaiting, changeCorner]
  rw [upd_get]

theorem giveGrant_grants (c : Corner) (w : WaitEntry) (s : State) : (giveGrant c w s).lc.grants = takeGrant s.lc.grants c := by
  unfold giveGrant
  rw [takeLevel_lc]
  rfl

theorem giveGrant_reserve (c : Corner) (w : WaitEntry) (s : State) : (giveGrant c w s).lc.reserve = s.lc.reserve := by
  unfold giveGrant
  rw [takeLevel_lc]
  rfl

theorem giveGrant_level (live : s.inReset .level = false) (c d : Corner) (w : WaitEntry) :
    (giveGrant c w s).valves.level[d.val] = if c = d then (s.valves.level[c.val]).hand s.now .first w.prog else s.valves.level[d.val] :=
  takeLevel_level (s := { leaveWaiting c s with lc := { (leaveWaiting c s).lc with grants := takeGrant (leaveWaiting c s).lc.grants c } }) live c d .first w.prog

theorem giveGrant_granted (free : s.GrantFree) (c d : Corner) (w : WaitEntry) :
    (giveGrant c w s).granted d = true ↔ s.granted d = true ∨ c = d := by
  rw [granted_iff, granted_iff, giveGrant_grants]
  obtain ⟨first, second⟩ := takeGrant_get s.lc.grants c
  rw [first, second]
  rcases free with free | free
  · simp only [free, if_pos, Option.some.injEq, reduceCtorEq, false_or]
    tauto
  · split
    · rename_i none'
      simp only [none', free, Option.some.injEq, reduceCtorEq, or_false, false_or]
    · simp only [free, Option.some.injEq, reduceCtorEq, or_false]

/-- A look of the arbiter, by what it finds. -/
theorem arbitrateOnce_cases (s : State) :
    (arbitrateOnce s = s ∧ (s.lc.reserve = .above → s.GrantFree → ∀ c, (s.corner c).waiting = none)) ∨
    ∃ c w, s.lc.reserve = .above ∧ s.GrantFree ∧ (s.corner c).waiting = some w ∧ IsNext s.waitError c ∧ arbitrateOnce s = giveGrant c w s := by
  unfold arbitrateOnce
  split
  · rename_i can
    rw [Bool.and_eq_true, beq_iff_eq, grantFree_iff] at can
    split
    · rename_i c w best
      obtain ⟨waits, next⟩ := bestWaiting_some best
      exact .inr ⟨c, w, can.1, can.2, waits, next, rfl⟩
    · rename_i best
      exact .inl ⟨rfl, fun _ _ => bestWaiting_none best⟩
  · rename_i cannot
    rw [Bool.and_eq_true, beq_iff_eq, grantFree_iff, not_and] at cannot
    exact .inl ⟨rfl, fun above free => absurd free (cannot above)⟩

end Sys2Proof.Machine
end

section
/-! PROOFS. The fill law (O54): each move keeps it. -/

namespace Sys2Proof.Machine

variable {a s t : State} {c d : Corner}

/-! ### The law's parts -/

/-- R110, less whom a free grant goes to: grants and fills agree, and nothing of it stands in a LEVEL reset. -/
structure FillCore (s : State) : Prop where
  granted   : ∀ c : Corner, s.granted c = true ↔ s.valves.level[c.val].first.prog ≠ .idle
  completes : ∀ c : Corner, s.valves.level[c.val].first.prog ≠ .idle → s.valves.level[c.val].first.prog.completes = true
  distinct  : s.lc.grants[0] = s.lc.grants[1] → s.lc.grants[0] = none
  waiting   : ∀ (c : Corner) (w : WaitEntry), (s.corner c).waiting = some w → s.granted c = false ∧ w.prog.inRange.completes = true
  stands    : s.inReset .level = true → s.lc.haltAt = none ∧
    ∀ c : Corner, (s.corner c).waiting = none ∧ (s.corner c).sourceAt = none ∧ s.granted c = false

/-- R111: no corner holds a grant while RESERVE reads BELOW. -/
def State.FillsCut (s : State) : Prop := s.lc.reserve = .below → ∀ c : Corner, s.granted c = false

/-- R110: no corner waits beside a free grant while RESERVE reads ABOVE. -/
def State.Settled (s : State) : Prop := s.lc.reserve = .above → ∀ c : Corner, (s.corner c).waiting ≠ none → ¬ s.GrantFree

/-- The fill law of a part that is not held in reset. -/
structure FillRules (s : State) : Prop extends FillCore s where
  cut     : s.FillsCut
  settled : s.Settled

theorem fillLaw_iff : s.FillLaw ↔ (s.resetHeld = false → FillRules s) := by
  refine forall_congr' fun _ => ⟨fun ⟨granted, completes, cut, distinct, waiting, stands⟩ => ?_, fun h => ?_⟩
  · refine ⟨⟨granted, completes, distinct, fun c w hw => ⟨(waiting c w hw).1, (waiting c w hw).2.1⟩, stands⟩, cut, fun above c waits free => ?_⟩
    obtain ⟨w, hw⟩ := Option.ne_none_iff_exists'.mp waits
    obtain ⟨_, _, both⟩ := waiting c w hw
    exact free.elim (both above).1 (both above).2
  · refine ⟨h.granted, h.completes, h.cut, h.distinct, fun c w hw => ⟨(h.waiting c w hw).1, (h.waiting c w hw).2, fun above => ?_⟩, h.stands⟩
    have taken := h.settled above c (by rw [hw]; nofun)
    exact ⟨fun free => taken (.inl free), fun free => taken (.inr free)⟩

theorem FillCore.live (h : FillCore s) (waits : (s.corner c).waiting ≠ none) : s.inReset .level = false :=
  Bool.eq_false_iff.mpr fun reset => waits ((h.stands reset).2 c).1

/-! ### A grant given -/

theorem FillCore.giveGrant {w : WaitEntry} (h : FillCore s) (free : s.GrantFree) (waits : (s.corner c).waiting = some w) :
    FillCore (giveGrant c w s) := by
  obtain ⟨ungranted, opens⟩ := h.waiting c w waits
  have live := h.live (by rw [waits]; nofun : (s.corner c).waiting ≠ none)
  have handed (now : Nat) (pr : Pair) : ((pr.hand now .first w.prog).first).prog = w.prog.inRange := Pair.hand_prog now .first w.prog pr
  refine ⟨fun d => ?_, fun d => ?_, fun same => ?_, fun d v hv => ?_, fun reset => ?_⟩
  · rw [giveGrant_granted free, giveGrant_level live]
    split
    · rename_i here
      rw [handed]
      simp [here, Program.completes_ne_idle opens]
    · rename_i other
      simp [other, h.granted d]
  · rw [giveGrant_level live]
    split
    · rw [handed]
      exact fun _ => opens
    · exact h.completes d
  · rw [giveGrant_grants] at same ⊢
    obtain ⟨first, second⟩ := takeGrant_get s.lc.grants c
    rw [first, second] at same
    rw [first]
    have none_here : ¬ (s.lc.grants[0] = some c ∨ s.lc.grants[1] = some c) := by
      rw [← granted_iff, ungranted]
      nofun
    split at same
    · exact absurd (.inr same.symm) none_here
    · exact absurd (.inl same) none_here
  · rw [giveGrant_corner] at hv
    split at hv
    · cases hv
    · rename_i other
      obtain ⟨out, ok⟩ := h.waiting d v hv
      refine ⟨?_, ok⟩
      rw [← Bool.not_eq_true, giveGrant_granted free, out]
      simp [other]
  · rw [(giveGrant_only c w s).inReset .level, live] at reset
    cases reset

theorem FillCore.arbitrateOnce (h : FillCore s) : FillCore (arbitrateOnce s) := by
  rcases arbitrateOnce_cases s with ⟨same, _⟩ | ⟨c, w, _, free, waits, _, given⟩
  · rw [same]
    exact h
  · rw [given]
    exact h.giveGrant free waits

/-- How many grants are free. -/
def State.freeGrants (s : State) : Nat := (if s.lc.grants[0] = none then 1 else 0) + if s.lc.grants[1] = none then 1 else 0

theorem freeGrants_le (s : State) : s.freeGrants ≤ 2 := by
  unfold State.freeGrants
  split <;> split <;> omega

theorem freeGrants_pos (free : s.GrantFree) : 1 ≤ s.freeGrants := by
  unfold State.freeGrants
  rcases free with free | free
  · rw [if_pos free]
    omega
  · rw [if_pos free]
    omega

theorem giveGrant_freeGrants (w : WaitEntry) (free : s.GrantFree) : (giveGrant c w s).freeGrants + 1 = s.freeGrants := by
  obtain ⟨first, second⟩ := takeGrant_get s.lc.grants c
  unfold State.freeGrants
  rw [giveGrant_grants, first, second]
  by_cases zero : s.lc.grants[0] = none
  · simp [zero]
    omega
  · have one : s.lc.grants[1] = none := free.resolve_left zero
    simp [zero, one]

/-- A look that leaves a corner waiting beside a free grant has given one. -/
theorem arbitrateOnce_gives (above : (arbitrateOnce s).lc.reserve = .above) (waits : ((arbitrateOnce s).corner c).waiting ≠ none)
    (free : (arbitrateOnce s).GrantFree) : (arbitrateOnce s).freeGrants + 1 = s.freeGrants := by
  rcases arbitrateOnce_cases s with ⟨same, none'⟩ | ⟨d, w, _, free', _, _, given⟩
  · rw [same] at above waits free
    exact absurd (none' above free c) waits
  · rw [given]
    exact giveGrant_freeGrants w free'

theorem arbitrateOnce_reserve (s : State) : (arbitrateOnce s).lc.reserve = s.lc.reserve := by
  rcases arbitrateOnce_cases s with ⟨same, _⟩ | ⟨d, w, _, _, _, _, given⟩
  · rw [same]
  · rw [given, giveGrant_reserve]

theorem arbitrateOnce_waiting_none (absent : (s.corner c).waiting = none) : ((arbitrateOnce s).corner c).waiting = none := by
  rcases arbitrateOnce_cases s with ⟨same, _⟩ | ⟨d, w, _, _, _, _, given⟩
  · rw [same]
    exact absent
  · rw [given, giveGrant_corner]
    split
    · rfl
    · exact absent

theorem arbitrateOnce_grantFree (free : (arbitrateOnce s).GrantFree) : s.GrantFree := by
  rcases arbitrateOnce_cases s with ⟨same, _⟩ | ⟨d, w, _, free', _, _, _⟩
  · rwa [same] at free
  · exact free'

/-- R110: there are two grants, so after two looks none waits beside a free one. -/
theorem arbitrate_settled (s : State) : (arbitrate s).Settled := by
  intro above c waits free
  unfold arbitrate at above waits free
  have twice := arbitrateOnce_gives above waits free
  have above' : (arbitrateOnce s).lc.reserve = .above := (arbitrateOnce_reserve _).symm.trans above
  have waits' : ((arbitrateOnce s).corner c).waiting ≠ none := fun absent => waits (arbitrateOnce_waiting_none absent)
  have once := arbitrateOnce_gives above' waits' (arbitrateOnce_grantFree free)
  have more := freeGrants_pos free
  have few := freeGrants_le s
  omega

theorem arbitrate_below (below : s.lc.reserve = .below) : arbitrate s = s := by
  have once : arbitrateOnce s = s := by
    unfold arbitrateOnce
    rw [if_neg (by rw [below]; simp)]
  rw [arbitrate, once, once]

theorem FillCore.arbitrated (h : FillCore s) (cut : s.FillsCut) : FillRules (arbitrate s) := by
  refine { toFillCore := h.arbitrateOnce.arbitrateOnce, cut := fun below => ?_, settled := arbitrate_settled s }
  have reserve : (arbitrate s).lc.reserve = s.lc.reserve := (arbitrateOnce_reserve _).trans (arbitrateOnce_reserve _)
  rw [reserve] at below
  rw [arbitrate_below below]
  exact cut below

/-! ### A fill cut, its grant returned -/

/-- The grants with a corner's given back. -/
def State.ungrant (s : State) (c : Corner) : State :=
  { s with lc := { s.lc with grants := mapAll s.lc.grants fun _ g => if g = some c then none else g } }

theorem returnGrant_eq (c : Corner) (s : State) : returnGrant c s = arbitrate (s.ungrant c) := rfl

theorem ungrant_get (s : State) (c : Corner) (i : Fin 2) :
    (s.ungrant c).lc.grants[i.val] = if s.lc.grants[i.val] = some c then none else s.lc.grants[i.val] :=
  mapAll_get s.lc.grants (fun _ g => if g = some c then none else g) i

theorem ungrant_granted (c d : Corner) : (s.ungrant c).granted d = true ↔ s.granted d = true ∧ d ≠ c := by
  rw [granted_iff, granted_iff]
  have zero := ungrant_get s c 0
  have one := ungrant_get s c 1
  simp only [Fin.val_zero, Fin.val_one] at zero one
  rw [zero, one]
  constructor
  · rintro (held | held)
    · split at held
      · cases held
      · rename_i other
        exact ⟨.inl held, fun same => other (same ▸ held)⟩
    · split at held
      · cases held
      · rename_i other
        exact ⟨.inr held, fun same => other (same ▸ held)⟩
  · rintro ⟨held | held, other⟩
    · left
      rw [if_neg (by rw [held]; simpa using other), held]
    · right
      rw [if_neg (by rw [held]; simpa using other), held]

/-- A fill that is IDLE with its grant returned, every other fill at the program it held. -/
theorem FillCore.ungrant {v : Valves} (h : FillCore s) (idle : v.level[c.val].first.prog = .idle)
    (others : ∀ d : Corner, d ≠ c → v.level[d.val].first.prog = s.valves.level[d.val].first.prog) :
    FillCore (({ s with valves := v } : State).ungrant c) := by
  have granted (d : Corner) : (({ s with valves := v } : State).ungrant c).granted d = true ↔ s.granted d = true ∧ d ≠ c := ungrant_granted c d
  have zero := ungrant_get { s with valves := v } c 0
  have one := ungrant_get { s with valves := v } c 1
  simp only [Fin.val_zero, Fin.val_one] at zero one
  refine ⟨fun d => ?_, fun d => ?_, fun same => ?_, fun d w hw => ?_, fun reset => ⟨(h.stands reset).1, fun d => ?_⟩⟩
  · rw [granted]
    show _ ↔ v.level[d.val].first.prog ≠ .idle
    by_cases here : d = c
    · subst here
      simp [idle]
    · rw [others d here, h.granted d]
      simp [here]
  · show v.level[d.val].first.prog ≠ .idle → v.level[d.val].first.prog.completes = true
    by_cases here : d = c
    · subst here
      exact fun opens => absurd idle opens
    · rw [others d here]
      exact h.completes d
  · rw [zero] at same ⊢
    rw [one] at same
    by_cases held : s.lc.grants[0] = some c
    · rw [if_pos held]
    · rw [if_neg held] at same ⊢
      split at same
      · exact same
      · exact h.distinct same
  · obtain ⟨out, ok⟩ := h.waiting d w hw
    refine ⟨?_, ok⟩
    rw [← Bool.not_eq_true, granted, out]
    simp
  · obtain ⟨waits, source, out⟩ := (h.stands reset).2 d
    refine ⟨waits, source, ?_⟩
    rw [← Bool.not_eq_true, granted, out]
    simp

theorem ungrant_fillsCut {v : Valves} (cut : s.FillsCut) : (({ s with valves := v } : State).ungrant c).FillsCut := by
  intro below d
  rw [← Bool.not_eq_true, ungrant_granted]
  have out : ({ s with valves := v } : State).granted d = false := cut below d
  rw [out]
  simp

/-- R71, R110: the fill of a corner ends and its grant is returned. -/
theorem FillRules.returned {v : Valves} (h : FillRules s) (idle : v.level[c.val].first.prog = .idle)
    (others : ∀ d : Corner, d ≠ c → v.level[d.val].first.prog = s.valves.level[d.val].first.prog) :
    FillRules (returnGrant c { s with valves := v }) := by
  rw [returnGrant_eq]
  exact (h.toFillCore.ungrant idle others).arbitrated (ungrant_fillsCut h.cut)

/-! ### The Levelling Controller's commands -/

/-- A change of the controller's records that leaves the grants and RESERVE, and in which no corner joins the waiting set. -/
theorem FillRules.level {x : LevellingController} (h : FillRules s) (grants : x.grants = s.lc.grants) (reserve : x.reserve = s.lc.reserve)
    (waiting : ∀ c : Corner, x.corners[c.val].waiting = s.lc.corners[c.val].waiting ∨ x.corners[c.val].waiting = none)
    (timers : s.inReset .level = true → x.haltAt = none ∧ ∀ c : Corner, x.corners[c.val].sourceAt = none) : FillRules { s with lc := x } := by
  have granted (c : Corner) : ({ s with lc := x } : State).granted c = s.granted c := granted_eq_of grants c
  have waits {c : Corner} {w : WaitEntry} (hw : x.corners[c.val].waiting = some w) : (s.corner c).waiting = some w := by
    rcases waiting c with same | absent
    · exact same.symm.trans hw
    · cases absent.symm.trans hw
  refine ⟨⟨fun c => ?_, h.completes, ?_, fun c w hw => ?_, fun reset => ⟨(timers reset).1, fun c => ⟨?_, (timers reset).2 c, ?_⟩⟩⟩,
    fun below c => ?_, fun above c present free => ?_⟩
  · rw [granted]
    exact h.granted c
  · show x.grants[0] = x.grants[1] → x.grants[0] = none
    rw [grants]
    exact h.distinct
  · rw [granted]
    exact h.waiting c w (waits hw)
  · have idle : (s.corner c).waiting = none := ((h.stands reset).2 c).1
    rcases waiting c with same | absent
    · exact same.trans idle
    · exact absent
  · rw [granted]
    exact ((h.stands reset).2 c).2.2
  · rw [granted]
    exact h.cut (reserve.symm.trans below) c
  · obtain ⟨w, hw⟩ := Option.ne_none_iff_exists'.mp present
    refine h.settled (reserve.symm.trans above) c (by rw [waits hw]; nofun) ?_
    unfold State.GrantFree at free ⊢
    rwa [← grants]

/-- A change of one corner's record, likewise. -/
theorem FillRules.corner {f : CornerRecord → CornerRecord} (h : FillRules s) (c : Corner)
    (waiting : (f (s.corner c)).waiting = (s.corner c).waiting ∨ (f (s.corner c)).waiting = none)
    (source : s.inReset .level = true → (f (s.corner c)).sourceAt = none) : FillRules (changeCorner c f s) := by
  refine h.level rfl rfl (fun d => ?_) fun reset => ⟨(h.stands reset).1, fun d => ?_⟩
  · rw [upd_get]
    split
    · rename_i here
      exact here ▸ waiting
    · exact .inl rfl
  · rw [upd_get]
    split
    · exact source reset
    · exact ((h.stands reset).2 d).2.1

/-- Only valves differ, and of the fills none in its program. -/
theorem FillRules.valves {v : Valves} (h : FillRules s) (same : ∀ c : Corner, v.level[c.val].first.prog = s.valves.level[c.val].first.prog) :
    FillRules { s with valves := v } := by
  refine ⟨⟨fun c => ?_, fun c => ?_, h.distinct, h.waiting, h.stands⟩, h.cut, h.settled⟩
  · show s.granted c = true ↔ v.level[c.val].first.prog ≠ .idle
    rw [same]
    exact h.granted c
  · show v.level[c.val].first.prog ≠ .idle → v.level[c.val].first.prog.completes = true
    rw [same]
    exact h.completes c

/-- The valves with a corner's member handed a program. -/
def State.handed (s : State) (c : Corner) (side : Side) (p : Program) : Valves :=
  { s.valves with level := upd s.valves.level c (Pair.hand s.now side p) }

theorem takeLevel_live (live : s.inReset .level = false) (c : Corner) (side : Side) (p : Program) :
    takeLevel c side p s = { s with valves := s.handed c side p } := by
  unfold takeLevel
  rw [if_neg (by rw [live]; decide)]
  rfl

theorem handed_level (c d : Corner) (side : Side) (p : Program) :
    (s.handed c side p).level[d.val] = if c = d then (s.valves.level[c.val]).hand s.now side p else s.valves.level[d.val] := by
  unfold State.handed
  dsimp only
  rw [upd_get]

theorem takeLevel_reset (reset : s.inReset .level = true) (c : Corner) (side : Side) (p : Program) : takeLevel c side p s = s := if_pos reset

theorem handLevel_reset (reset : s.inReset .level = true) (c : Corner) (side : Side) (p : Program) : handLevel c side p s = s := by
  unfold handLevel
  rw [if_neg (by rw [reset]; simp), takeLevel_reset reset]

/-- R71: a handing that cuts the fill returns its grant. -/
theorem FillRules.handLevel_cuts {side : Side} {p : Program} (h : FillRules s) (live : s.inReset .level = false)
    (cuts : s.valves.level[c.val].cuts side .first p = true) : FillRules (handLevel c side p s) := by
  unfold handLevel
  rw [if_pos (by rw [live, cuts]; rfl), takeLevel_live live]
  refine h.returned ?_ fun d other => ?_
  · rw [handed_level, if_pos rfl]
    cases side with
    | first =>
      have idle : p.inRange = .idle := by
        unfold Pair.cuts at cuts
        split at cuts
        · assumption
        · simp [Side.other] at cuts
      exact (Pair.hand_prog s.now .first p _).trans idle
    | second =>
      have opens : p.inRange ≠ .idle := by
        unfold Pair.cuts at cuts
        split at cuts
        · simp at cuts
        · assumption
      have partner := Pair.hand_other s.now .second p s.valves.level[c.val]
      rw [if_neg opens] at partner
      exact congrArg Generator.prog partner
  · rw [handed_level, if_neg (Ne.symm other)]

theorem FillRules.handLevel_second (h : FillRules s) (c : Corner) (p : Program) : FillRules (handLevel c .second p s) := by
  cases reset : s.inReset .level with
  | true =>
    rw [handLevel_reset reset]
    exact h
  | false =>
    by_cases cuts : s.valves.level[c.val].cuts .second .first p = true
    · exact h.handLevel_cuts reset cuts
    · unfold handLevel
      rw [if_neg (by rw [reset]; simpa using cuts), takeLevel_live reset]
      refine h.valves fun d => ?_
      rw [handed_level]
      split
      · rename_i here
        subst here
        have partner : ((s.valves.level[c.val].hand s.now .second p).first) = _ := Pair.hand_other s.now .second p s.valves.level[c.val]
        rw [partner]
        split
        · rfl
        · rename_i opens
          have idle : s.valves.level[c.val].first.prog = .idle := by
            by_contra holds
            refine cuts ?_
            unfold Pair.cuts
            split
            · rename_i idle
              exact absurd idle opens
            · exact h.completes c holds
          exact idle.symm
      · rfl

theorem FillRules.stopFill (h : FillRules s) (c : Corner) : FillRules (stopLevel c .first s) := by
  unfold stopLevel
  split
  · rename_i holds
    have opens : s.valves.level[c.val].first.prog ≠ .idle := by simpa [Generator.holds, Pair.at] using holds
    have live : s.inReset .level = false := Bool.eq_false_iff.mpr fun reset => by
      have out := ((h.stands reset).2 c).2.2
      rw [← Bool.not_eq_true, h.granted c] at out
      exact out opens
    exact h.handLevel_cuts live (h.completes c opens)
  · exact h

/-- IDLE to the exhaust ends no fill, so the controller's records stand. -/
theorem stopExhaust_lc (c : Corner) (s : State) : (stopLevel c .second s).lc = s.lc := by
  unfold stopLevel
  split
  · unfold handLevel
    split
    · rename_i cuts
      have never : s.valves.level[c.val].cuts .second .first .idle = false := rfl
      rw [never, Bool.and_false] at cuts
      cases cuts
    · exact takeLevel_lc _ _ _ _
  · rfl

theorem FillRules.stopExhaust (h : FillRules s) (c : Corner) : FillRules (stopLevel c .second s) := by
  unfold stopLevel
  split
  · exact h.handLevel_second c .idle
  · exact h

/-- A corner without a grant joins the waiting set, or its entry is refreshed (R109). -/
theorem FillCore.joined {e : Int} {p : Program} (h : FillCore s) (live : s.inReset .level = false) (out : s.granted c = false)
    (opens : p.inRange.completes = true) : FillCore (changeCorner c (fun r => { r with waiting := some ⟨e, p⟩ }) s) := by
  refine ⟨h.granted, h.completes, h.distinct, fun d w hw => ?_, fun reset => ?_⟩
  · by_cases here : c = d
    · subst here
      rw [changeCorner_corner_self] at hw
      cases hw
      exact ⟨out, opens⟩
    · rw [changeCorner_corner_ne _ _ here] at hw
      exact h.waiting d w hw
  · cases live.symm.trans reset

theorem FillRules.fill {afresh : Bool} {e : Int} {p : Program} (h : FillRules s) (live : s.inReset .level = false)
    (opens : p.inRange.completes = true) : FillRules (commandFill afresh c e p s) := by
  unfold commandFill
  split
  · rename_i granted
    split
    · have held : p.inRange ≠ .idle := Program.completes_ne_idle opens
      have uncut : s.valves.level[c.val].cuts .first .first p = false := by
        unfold Pair.cuts
        split
        · rename_i idle
          exact absurd idle held
        · rfl
      unfold handLevel
      rw [if_neg (by rw [uncut]; simp), takeLevel_live live]
      have level (d : Corner) : (s.handed c .first p).level[d.val].first.prog = if c = d then p.inRange else s.valves.level[d.val].first.prog := by
        rw [handed_level]
        split
        · exact Pair.hand_prog s.now .first p _
        · rfl
      refine ⟨⟨fun d => ?_, fun d => ?_, h.distinct, h.waiting, h.stands⟩, h.cut, h.settled⟩
      · show s.granted d = true ↔ _ ≠ _
        rw [level]
        split
        · rename_i here
          exact ⟨fun _ => held, fun _ => here ▸ granted⟩
        · exact h.granted d
      · show (s.handed c .first p).level[d.val].first.prog ≠ .idle → (s.handed c .first p).level[d.val].first.prog.completes = true
        rw [level]
        split
        · exact fun _ => opens
        · exact h.completes d
    · exact h
  · rename_i ungranted
    have stopped := h.stopExhaust c
    have out : (stopLevel c .second s).granted c = false := by
      rw [granted_eq_of (congrArg LevellingController.grants (stopExhaust_lc c s)), Bool.eq_false_iff]
      exact ungranted
    have live' : (stopLevel c .second s).inReset .level = false := ((stopLevel_only c .second s).inReset .level).trans live
    exact (stopped.toFillCore.joined live' out opens).arbitrated stopped.cut

/-- Without a grant no fill runs, nor does anything of the law stand where none waits and no timer runs. -/
theorem fillRules_of_quiet (none' : s.lc.grants = #v[none, none]) (idle : ∀ c : Corner, s.valves.level[c.val].first.prog = .idle)
    (waiting : ∀ c : Corner, (s.corner c).waiting = none)
    (timers : s.inReset .level = true → s.lc.haltAt = none ∧ ∀ c : Corner, (s.corner c).sourceAt = none) : FillRules s := by
  have out (c : Corner) : s.granted c = false := by
    rw [← Bool.not_eq_true, granted_iff, none']
    simp
  refine ⟨⟨fun c => ?_, fun c opens => absurd (idle c) opens, fun _ => by rw [none']; rfl, fun c w hw => ?_, fun reset => ?_⟩, fun _ => out,
    fun _ c waits => absurd (waiting c) waits⟩
  · rw [out, idle]
    simp
  · cases (waiting c).symm.trans hw
  · exact ⟨(timers reset).1, fun c => ⟨waiting c, (timers reset).2 c, out c⟩⟩

theorem FillCore.idle_of_ungranted (h : FillCore s) (out : s.granted c = false) : s.valves.level[c.val].first.prog = .idle := by
  by_contra opens
  rw [(h.granted c).mpr opens] at out
  cases out

/-- R111: with RESERVE at BELOW a fill that is stopped gives its grant back, and none takes it. -/
theorem FillCore.stopBelow (h : FillCore s) (below : s.lc.reserve = .below) (c : Corner) :
    (FillCore (stopLevel c .first s) ∧ (stopLevel c .first s).lc.reserve = .below) ∧
      ∀ d : Corner, (stopLevel c .first s).granted d = true ↔ s.granted d = true ∧ d ≠ c := by
  unfold stopLevel
  split
  · rename_i holds
    have opens : s.valves.level[c.val].first.prog ≠ .idle := by simpa [Generator.holds, Pair.at] using holds
    have live : s.inReset .level = false := Bool.eq_false_iff.mpr fun reset => opens (h.idle_of_ungranted ((h.stands reset).2 c).2.2)
    have cuts : s.valves.level[c.val].cuts .first .first .idle = true := h.completes c opens
    have cut : handLevel c .first .idle s = ({ s with valves := s.handed c .first .idle } : State).ungrant c := by
      unfold handLevel
      rw [if_pos (by rw [live, cuts]; rfl), takeLevel_live live, returnGrant_eq, arbitrate_below]
      exact below
    rw [cut]
    refine ⟨⟨h.ungrant ?_ fun d other => ?_, below⟩, fun d => ungrant_granted c d⟩
    · rw [handed_level, if_pos rfl]
      exact Pair.hand_prog s.now .first .idle _
    · rw [handed_level, if_neg (Ne.symm other)]
  · rename_i holds
    have idle : s.valves.level[c.val].first.prog = .idle := by simpa [Generator.holds, Pair.at] using holds
    refine ⟨⟨h, below⟩, fun d => ⟨fun held => ⟨held, fun here => ?_⟩, And.left⟩⟩
    exact (h.granted d).mp held (here ▸ idle)

/-- What each step establishes for its own index, and the others keep, stands for every index at the end. -/
theorem foldl_each {σ ι : Type} {I : σ → Prop} {Q : ι → σ → Prop} (f : σ → ι → σ) (keeps : ∀ x i, I x → I (f x i))
    (sets : ∀ x i, I x → Q i (f x i)) (stays : ∀ x i j, I x → Q j x → Q j (f x i)) :
    ∀ (xs : List ι) (x : σ), I x → I (xs.foldl f x) ∧ ∀ j, (j ∈ xs ∨ Q j x) → Q j (xs.foldl f x)
  | [], x, h => ⟨h, fun j before => before.resolve_left List.not_mem_nil⟩
  | i :: xs, x, h => by
    obtain ⟨last, all⟩ := foldl_each f keeps sets stays xs (f x i) (keeps x i h)
    refine ⟨last, fun j before => all j ?_⟩
    rcases before with member | before
    · rcases List.mem_cons.mp member with here | later
      · exact .inr (here ▸ sets x i h)
      · exact .inl later
    · exact .inr (stays x i j h before)

theorem forAll_each {σ : Type} {n : Nat} {I : σ → Prop} {Q : Fin n → σ → Prop} {f : Fin n → σ → σ} {x : σ} (keeps : ∀ i x, I x → I (f i x))
    (sets : ∀ i x, I x → Q i (f i x)) (stays : ∀ i j x, I x → Q j x → Q j (f i x)) (h : I x) :
    I (forAll n f x) ∧ ∀ j, Q j (forAll n f x) := by
  obtain ⟨last, all⟩ := foldl_each (fun x i => f i x) (fun x i => keeps i x) (fun x i => sets i x) (fun x i j => stays i j x)
    (List.finRange n) x h
  exact ⟨last, fun j => all j (.inl (List.mem_finRange j))⟩

/-- R111. -/
theorem FillRules.reserveEvent (h : FillRules s) (x : Level) : FillRules (reserveEvent x s) := by
  have core : FillCore { s with lc := { s.lc with reserve := x } } := ⟨h.granted, h.completes, h.distinct, h.waiting, h.stands⟩
  unfold Machine.reserveEvent
  dsimp only
  split
  · rename_i reset
    exact ⟨core, fun _ c => ((h.stands reset).2 c).2.2, fun _ c waits => absurd ((h.stands reset).2 c).1 waits⟩
  · cases x with
    | above => exact core.arbitrated nofun
    | below =>
      obtain ⟨⟨last, below⟩, out⟩ := forAll_each (n := 6) (I := fun s => FillCore s ∧ s.lc.reserve = .below)
        (Q := fun c s => s.granted c = false) (f := fun c s => stopLevel c .first s)
        (fun c x k => (k.1.stopBelow k.2 c).1)
        (fun c x k => by
          rw [← Bool.not_eq_true, (k.1.stopBelow k.2 c).2]
          simp)
        (fun c d x k out => by
          rw [← Bool.not_eq_true, (k.1.stopBelow k.2 c).2, out]
          simp) ⟨core, rfl⟩
      generalize forAll 6 (fun c s => stopLevel c .first s) _ = t at last below out ⊢
      exact ⟨last, fun _ => out, fun above => by cases below.symm.trans above⟩

theorem fill_commandStable : CommandStable fun s => s.inReset .level = false ∧ FillRules s where
  outcome c _ h := ⟨h.1, h.2.corner c (.inl rfl) fun reset => ((h.2.stands reset).2 c).2.1⟩
  leave c h := ⟨h.1, h.2.corner c (.inr rfl) fun reset => ((h.2.stands reset).2 c).2.1⟩
  stopFill c h := ⟨((stopLevel_only c .first _).inReset .level).trans h.1, h.2.stopFill c⟩
  exhaust c p h := ⟨((handLevel_only c .second p _).inReset .level).trans h.1, h.2.handLevel_second c p⟩
  fill afresh c e p opens h := ⟨((commandFill_only afresh c e p _).inReset .level).trans h.1, h.2.fill h.1 opens⟩

theorem FillRules.same (h : FillRules s) (valves : t.valves.level = s.valves.level) (lc : t.lc = s.lc)
    (reset : t.inReset .level = true → s.inReset .level = true) : FillRules t := by
  have granted (c : Corner) : t.granted c = s.granted c := granted_eq_of (congrArg _ lc) c
  have corner (c : Corner) : t.corner c = s.corner c := by rw [State.corner, lc]; rfl
  refine ⟨⟨fun c => ?_, fun c => ?_, ?_, fun c w hw => ?_, fun k => ?_⟩, fun below c => ?_, fun above c waits free => ?_⟩
  · rw [granted, valves]
    exact h.granted c
  · rw [valves]
    exact h.completes c
  · rw [lc]
    exact h.distinct
  · rw [granted]
    exact h.waiting c w (corner c ▸ hw)
  · rw [lc]
    refine ⟨(h.stands (reset k)).1, fun c => ?_⟩
    rw [granted, corner]
    exact (h.stands (reset k)).2 c
  · rw [granted]
    exact h.cut (lc ▸ below) c
  · refine h.settled (lc ▸ above) c (corner c ▸ waits) ?_
    unfold State.GrantFree at free ⊢
    rwa [← lc]

theorem fill_formStable : FormStable FillRules where
  stored h := h.same rfl rfl id
  inhibit _ h := h.same rfl rfl id
  offset c _ h := h.corner c (.inl rfl) fun reset => ((h.stands reset).2 c).2.1
  halt h := h.level rfl rfl (fun _ => .inl rfl) fun reset => ⟨rfl, fun c => ((h.stands reset).2 c).2.1⟩
  command c live h := (fill_commandStable.commandFromLast c ⟨live, h⟩).2

theorem reset_fillRules (lc : ∃ now, t.lc = resetLevelling now) (valves : ∀ c : Corner, t.valves.level[c.val].first.prog = .idle)
    (resets : t.hl.resets = Vector.replicate 5 none) : FillRules t := by
  obtain ⟨now, lc⟩ := lc
  have corner (c : Corner) : t.corner c = resetCorner now := by
    rw [State.corner, lc]
    simp [resetLevelling]
  refine fillRules_of_quiet (by rw [lc]; rfl) valves (fun c => by rw [corner]; rfl) fun reset => ?_
  rw [State.inReset, resets] at reset
  simp at reset

theorem levelReset_fillRules (n : Nat) (s : State) : FillRules (startReset .level (setReset .level (some n) s)) := by
  have level (c : Corner) : (startReset .level (setReset .level (some n) s)).valves.level[c.val] = (s.valves.level[c.val]).quiet s.now :=
    mapAll_get s.valves.level (fun _ p => p.quiet s.now) c
  have corner (c : Corner) : (startReset .level (setReset .level (some n) s)).corner c = (s.corner c).levelReset :=
    mapAll_get s.lc.corners (fun _ r => r.levelReset) c
  refine fillRules_of_quiet rfl (fun c => ?_) (fun c => ?_) fun _ => ⟨rfl, fun c => ?_⟩
  · rw [level]
    rfl
  · rw [corner]
    rfl
  · rw [corner]
    rfl

theorem FillRules.leaveRising (k : Handle) (h : FillRules s) : FillRules (leaveRising k s) :=
  h.level (x := (Machine.leaveRising k s).lc) rfl rfl (fun _ => .inl rfl) fun reset => ⟨(h.stands reset).1, fun c => ((h.stands reset).2 c).2.1⟩

theorem returnActive_fillRules (i : Slot) (h : FillRules s) : FillRules (returnActive i s) :=
  (fill_formStable.form (s := changeRecord i Record.reactivate s) (h.same rfl rfl id)).leaveRising _

theorem FillRules.standRecord (i : Slot) (r : Record) (h : FillRules s) : FillRules (standRecord i r s) := by
  have formed : FillRules (formEnvelope (putRecord i r s)) := fill_formStable.form (h.same rfl rfl id)
  unfold Machine.standRecord
  split
  · unfold adopt
    split
    · split
      · exact returnActive_fillRules _ formed
      · exact formed
    · exact formed
  · exact formed

theorem FillRules.freeSlot (i : Slot) (r : Record) (h : FillRules s) : FillRules (freeSlot i r s) := by
  refine fill_formStable.form ?_
  have left : FillRules (setFlag .record (vacate i (Machine.leaveRising (s.handleAt i) s))) :=
    (h.leaveRising _).same rfl rfl id
  unfold endService
  split
  · exact left.same rfl rfl id
  · exact left

theorem FillRules.travel (inc : Nat) (h : FillRules s) :
    FillRules (if arriving s inc = [] then travelSlots inc s else formEnvelope (travelSlots inc s)) := by
  have travelled : FillRules (travelSlots inc s) := by
    unfold travelSlots
    generalize mapAll s.rt.slots _ = x
    exact h.same rfl rfl id
  split
  · exact travelled
  · exact fill_formStable.form travelled

theorem FillRules.quietGroup {g : Group} (other : g ≠ .level) (h : FillRules s) : FillRules (quietGroup g s) := by
  cases g with
  | level => exact absurd rfl other
  | brake => exact h.same rfl rfl id
  | joint => exact h.same rfl rfl id
  | doors => exact h
  | sense => exact h

/-- A generator's change does not reach the fill of a corner unless it is that fill. -/
theorem changeGen_fill (g : GenId) (f : Generator → Generator) (c : Corner) :
    (changeGen g f s).valves.level[c.val].first = if g = .fill c then f s.valves.level[c.val].first else s.valves.level[c.val].first := by
  cases g with
  | fill d =>
    simp only [changeGen, Valves.setGen, upd_get, GenId.fill.injEq]
    split
    · rename_i here
      rw [here]
    · rfl
  | cornerExhaust d =>
    simp only [changeGen, Valves.setGen, upd_get]
    split
    · rename_i here
      rw [here]
      rfl
    · rfl
  | apply d => rfl
  | brakeExhaust d => rfl
  | kerbward => rfl
  | offward => rfl
  | damping => rfl

theorem FillRules.period {g : GenId} {f : Generator → Generator} (can : PeriodChange g f (s.gen g)) (h : FillRules s) :
    FillRules (changeGen g f s) := by
  refine h.valves (v := (changeGen g f s).valves) fun c => ?_
  rw [changeGen_fill]
  split
  · rename_i here
    subst here
    exact can.prog.resolve_right fun ends => ends.2 c rfl
  · rfl

/-- R68, R69, R110: a fill that runs out returns its grant. -/
theorem FillRules.runOut (c : Corner) (h : FillRules s) : FillRules (returnGrant c (changeGen (.fill c) (Generator.toIdle s.now) s)) := by
  refine h.returned (v := (changeGen (.fill c) (Generator.toIdle s.now) s).valves) ?_ fun d other => ?_
  · rw [changeGen_fill, if_pos rfl]
    rfl
  · rw [changeGen_fill, if_neg fun same => other (GenId.fill.inj same).symm]

theorem Moves.fillRules (h : a.FillLaw) (moves : Moves a t) : t.resetHeld = false → FillRules t := by
  induction moves with
  | start => exact fillLaw_iff.mp h
  | powerOn => exact fun _ => reset_fillRules ⟨_, rfl⟩ (fun c => by simp [State.powered, freshValves, freshGenerator]) rfl
  | allReset => exact fun _ => reset_fillRules ⟨_, rfl⟩ (fun c => by simp [State.allReset, Valves.quiet, mapAll_get, Pair.quiet, Generator.quiet, freshGenerator]) rfl
  | holdReset => exact fun held => by cases held
  | form _ ih => exact fun held => fill_formStable.form (ih ((formEnvelope_table _).resetHeld.symm.trans held))
  | change i f _ _ _ _ ih =>
    exact fun held => fill_formStable.form (s := changeRecord i f _)
      ((ih ((formEnvelope_table (changeRecord i f _)).resetHeld.symm.trans held)).same rfl rfl id)
  | free i r _ _ _ ih => exact fun held => (ih ((freeSlot_table i r _).resetHeld.symm.trans held)).freeSlot i r
  | stand i r can _ ih => exact fun held => (ih ((standRecord_table i r _).resetHeld.symm.trans held)).standRecord i r
  | travel inc _ ih =>
    refine fun held => (ih ?_).travel inc
    split at held
    · exact (travelSlots_table inc _).resetHeld.symm.trans held
    · exact ((travelSlots_table inc _).trans (formEnvelope_table _)).resetHeld.symm.trans held
  | brake c side p _ ih =>
    unfold handBrake
    split
    · exact ih
    · exact fun held => (ih held).same rfl rfl id
  | steer side p _ ih =>
    unfold handSteer
    split
    · exact ih
    · exact fun held => (ih held).same rfl rfl id
  | damping p _ ih =>
    unfold handDamping
    split
    · exact ih
    · exact fun held => (ih held).same rfl rfl id
  | quiet g other _ ih =>
    refine fun held => (ih ?_).quietGroup other
    rwa [quietGroup_valves] at held
  | period g f can _ ih => exact fun held => (ih held).period can
  | @runOut s c _ ih =>
    exact fun held => (ih ((returnGrant_only c (changeGen (.fill c) (Generator.toIdle s.now) s)).resetHeld.symm.trans held)).runOut c
  | levelReset n _ _ => exact fun _ => levelReset_fillRules n _
  | stopFill c _ ih => exact fun held => (ih ((stopLevel_only c .first _).resetHeld.symm.trans held)).stopFill c
  | exhaust c p _ ih => exact fun held => (ih ((handLevel_only c .second p _).resetHeld.symm.trans held)).handLevel_second c p
  | fill afresh c e p opens live _ ih =>
    exact fun held => (ih ((commandFill_only afresh c e p _).resetHeld.symm.trans held)).fill (live h) opens
  | reserve x _ ih => exact fun held => (ih ((reserveEvent_only x _).resetHeld.symm.trans held)).reserveEvent x
  | lc x quiet _ ih =>
    refine fun held => (ih held).level quiet.grants quiet.reserve quiet.waiting fun reset => ?_
    obtain ⟨halt, corners⟩ := (ih held).stands reset
    rcases quiet.timers with live | ⟨sources, halts⟩
    · cases (live h).symm.trans reset
    · refine ⟨halts.elim (·.trans halt) id, fun c => (sources c).elim (·.trans (corners c).2.1) id⟩
  | hl x reset _ _ ih => exact fun held => (ih held).same rfl rfl reset
  | time _ _ ih | mark _ _ _ _ ih | profiles _ _ _ ih | inhibit _ _ ih | sp _ _ _ _ ih | mc _ _ _ _ ih | bc _ _ _ ih | js _ _ _ ih
  | dl _ _ _ ih | dt _ _ _ ih | degraded _ _ ih => exact fun held => (ih held).same rfl rfl id

/-- Settles O54: the arbiter gives every free grant it can, and a fill that ends gives its grant back. -/
theorem fillLawKept : Obligations.FillLawKept := by
  intro s t h e
  refine step_keeps (P := State.FillLaw) (fun s rest k => ?_) (fun s n k => ?_) (fun k moves => fillLaw_iff.mpr (Moves.fillRules k moves)) h e
  · exact fillLaw_iff.mpr fun held => (fillLaw_iff.mp k held).same rfl rfl id
  · exact fillLaw_iff.mpr fun held => (fillLaw_iff.mp k held).same rfl rfl id

end Sys2Proof.Machine
end

section
/-! PROOFS. The machine's resets (O1, O3, O5, O60): the values that POWER_ON and RESET_ALL leave, and the laws they meet. -/

namespace Sys2Proof.Machine

variable {s t : State}

/-- Settles O1: what `step` is defined as. -/
theorem stepTakesTheFront : Obligations.StepTakesTheFront := by
  refine ⟨fun _ _ _ => rfl, fun s empty => ?_⟩
  unfold step
  rw [empty]

/-! ### The blocks after a reset (R181) -/

/-- `t` holds the reset values in every block but the valves, which are quiet, the door lines, released, and the Host Link, whose reset
has the cause given. -/
structure FreshBlocks (s : State) (cause : Cause) (shifted : List Byte) (t : State) : Prop where
  blocks : t = { State.powered s.now s.pending s.mc.joint.phases s.mc.actuator.phases with
                 valves := t.valves, dl := resetLines s.now s.dl.lines, hl := resetLink cause shifted }
  quiet  : ∀ g : GenId, (t.gen g).prog = .idle ∧ (t.gen g).isOpen = false ∧ (t.gen g).waiting = false

theorem startHold_values : startHoldRecord.kind = .startHold ∧ startHoldRecord.owner = .plaus ∧ startHoldRecord.state = .active ∧
    startHoldRecord.mode = .latched ∧ startHoldRecord.scope = allCorners ∧ startHoldRecord.floor = some 300 ∧
    startHoldRecord.ceiling = some 0 ∧ startHoldRecord.steer = some 0 ∧ startHoldRecord.delay = 500 ∧
    startHoldRecord.conds = [.configDone, .allDoorsLocked] ∧ startHoldRecord.parent = none ∧ startHoldRecord.depth = 1 ∧
    startHoldRecord.ownerRelease = false := by decide

theorem resetTable_gen : ∀ i : Slot, resetTable.slots[i.val].gen = 0 := by decide +kernel

theorem resetFlag (fl : Flag) : (0x400#11).getLsbD fl.bit = true ↔ fl = .reset := by
  cases fl
  all_goals decide

theorem resetLine_get (now : Nat) (lines : Vector Line 4) (d : Door) :
    (resetLines now lines).lines[d.val] = resetLine now (lines[d.val].minimumLeft now) :=
  mapAll_get lines (fun _ l => resetLine now (l.minimumLeft now)) d

theorem FreshBlocks.resetValues {cause : Cause} {shifted : List Byte} (h : FreshBlocks s cause shifted t) : t.ResetValues cause := by
  obtain ⟨blocks, quiet⟩ := h
  have table : t.rt = resetTable := congrArg State.rt blocks
  have eu : t.eu = resetEnvelopeUnit := congrArg State.eu blocks
  have sp : t.sp = resetSensePort := congrArg State.sp blocks
  have mc : t.mc = resetMotion s.now s.mc.joint.phases s.mc.actuator.phases := congrArg State.mc blocks
  have bc : t.bc = resetBrake s.now := congrArg State.bc blocks
  have lc : t.lc = resetLevelling s.now := congrArg State.lc blocks
  have js : t.js = resetJoint s.now := congrArg State.js blocks
  have dl : t.dl = resetLines s.now s.dl.lines := congrArg State.dl blocks
  have dt : t.dt = resetTranslator := by
    rw [blocks]
    dsimp only [State.powered]
  have hl : t.hl = resetLink cause shifted := congrArg State.hl blocks
  have now : t.now = s.now := by
    rw [blocks]
    dsimp only [State.powered]
  have corner (c : Corner) : t.corner c = resetCorner s.now := by
    rw [State.corner, lc]
    simp [resetLevelling]
  have granted (c : Corner) : t.granted c = false := by
    rw [← Bool.not_eq_true, granted_iff, lc]
    simp [resetLevelling]
  have angles : (t.angle .joint = resetAngle s.mc.joint.phases) ∧ t.angle .actuator = resetAngle s.mc.actuator.phases := by
    simp [State.angle, mc, resetMotion]
  have line (d : Door) : t.line d = resetLine s.now ((s.line d).minimumLeft s.now) := by
    rw [State.line, dl, resetLine_get]
    rfl
  refine ⟨fun i => ⟨by rw [table, resetTable_gen], fun other => ?_⟩, ⟨startHoldRecord, ?_, startHold_values⟩, by rw [table]; rfl, by rw [table]; rfl,
    by rw [eu]; decide, ⟨fun ch => ?_, by rw [sp]; decide⟩, ?_, quiet, ?_, ⟨fun c => ?_, by rw [lc]; simp [resetLevelling]⟩, ?_,
    ⟨fun d => ?_, by rw [dl]; rfl⟩, by rw [dt]; exact ⟨rfl, rfl, rfl, rfl, rfl⟩, ?_, congrArg State.resetHeld blocks, congrArg State.degraded blocks⟩
  · rw [State.recordAt, table, resetTable_record, if_neg other]
  · rw [State.recordAt, table, resetTable_record, if_pos rfl]
  · rw [State.sample, sp]
    simp [resetSensePort]
  · rw [mc, now]
    refine ⟨rfl, rfl, fun c => ?_, rfl, rfl, rfl, rfl, rfl, rfl, rfl, rfl, fun a => ?_⟩
    · simp only [resetMotion, Vector.getElem_replicate]
      rfl
    cases a
    · rw [angles.1]
      exact ⟨rfl, rfl, rfl, rfl, rfl⟩
    · rw [angles.2]
      exact ⟨rfl, rfl, rfl, rfl, rfl⟩
  · rw [bc, now]
    exact ⟨fun c => by simp [resetBrake, resetChannel], fun a => by simp [resetBrake], rfl, rfl, rfl⟩
  · rw [corner, now]
    simp [resetCorner, granted]
  · rw [js, now]
    exact ⟨rfl, rfl, rfl, rfl, rfl, rfl, rfl, rfl, rfl, rfl⟩
  · rw [line]
    simp [resetLine]
  · refine ⟨by rw [hl]; rfl, by rw [hl]; rfl, fun fl => ?_, by rw [hl]; rfl, by rw [hl]; rfl, by rw [hl]; rfl, by rw [hl]; rfl,
      by rw [hl]; rfl, fun g => ?_, by rw [hl]; rfl, ?_⟩
    · rw [State.flag, hl]
      exact resetFlag fl
    · rw [State.inReset, hl]
      simp [resetLink]
    · rw [hl]
      exact Laws.resetResponse_crc cause

theorem FreshBlocks.clocksReleased {cause : Cause} {shifted : List Byte} (h : FreshBlocks s cause shifted t) : ClocksReleased s t := by
  intro d
  have line : t.line d = resetLine s.now ((s.line d).minimumLeft s.now) := by
    rw [State.line, congrArg State.dl h.blocks, resetLine_get]
    rfl
  rw [line]
  simp only [resetLine, Line.minimumLeft]
  cases low : (s.line d).clockLow with
  | false => simp
  | true =>
    cases timed : (s.line d).minimumAt with
    | none => simp
    | some e =>
      by_cases running : s.now < e
      · simp [running]
      · simp [running]

/-! ### POWER_ON -/

/-- The state POWER_ON leaves. -/
def State.poweredOn (s : State) : State :=
  { State.powered s.now s.pending s.mc.joint.phases s.mc.actuator.phases with dl := resetLines s.now s.dl.lines }

theorem exec_powerOn (s : State) : exec .powerOn s = .next s.poweredOn := rfl

theorem freshValves_gen (g : GenId) : freshValves.gen g = freshGenerator := by
  cases g
  all_goals simp [freshValves, Valves.gen]

theorem poweredOn_fresh (s : State) : FreshBlocks s .powerOn [] s.poweredOn := by
  refine ⟨rfl, fun g => ?_⟩
  have gen : s.poweredOn.gen g = freshGenerator := freshValves_gen g
  rw [gen]
  exact ⟨rfl, rfl, rfl⟩

theorem reset_poweredOn : State.reset.poweredOn = State.reset := by
  have lines : resetLines 0 State.reset.dl.lines = State.reset.dl := by decide
  have same : State.reset.poweredOn = { State.reset with dl := resetLines 0 State.reset.dl.lines } := rfl
  rw [same, lines]

/-- Settles O3: POWER_ON writes every block's reset value. -/
theorem powerOnValues : Obligations.PowerOnValues := by
  refine ⟨fun s => ⟨s.poweredOn, exec_powerOn s, (poweredOn_fresh s).resetValues, rfl, fun g => ?_, (poweredOn_fresh s).clocksReleased, rfl⟩, ?_⟩
  · have gen : s.poweredOn.gen g = freshGenerator := freshValves_gen g
    rw [gen]
    rfl
  · rw [exec_powerOn, reset_poweredOn]

/-! ### The laws at reset -/

theorem reset_inhibitLaw : State.reset.InhibitLaw := powerOn_inhibitLaw (s := State.reset) (congrArg Host.Outcome.next reset_poweredOn)

theorem reset_brakeLaw : State.reset.BrakeLaw := by
  intro c
  have channel : State.reset.bc.channels[c.val] = resetChannel := by simp [State.reset, State.powered, resetBrake]
  rw [channel]
  exact ⟨nofun, fun _ => rfl⟩

/-- Settles O60: each law at the values of POWER_ON. -/
theorem lawsHoldAtReset : Obligations.LawsHoldAtReset := by
  have gens (g : GenId) : State.reset.gen g = freshGenerator := freshValves_gen g
  have fresh : freshGenerator.Sound := ⟨fun _ => ⟨rfl, rfl⟩, nofun⟩
  have idle : freshGenerator.prog = .idle := rfl
  have damping : (State.reset.gen .damping).Sound := by
    rw [gens]
    exact fresh
  have pair (f : GenId) (g : GenId) : (⟨State.reset.gen f, State.reset.gen g⟩ : Pair).Sound := by
    rw [gens, gens]
    exact ⟨fresh, fresh, .inl idle⟩
  refine ⟨reset_inhibitLaw, resetEnvelope_formed, ?_, ?_, reset_recordLaw rfl, reset_parentLaw rfl, rangeLaw_iff.mpr (reset_ranges rfl rfl rfl rfl),
    countLaw_iff.mpr (reset_counts 0 [] .bothLow .bothLow State.reset.dl.lines reset_poweredOn.symm (resetLink_inRange .powerOn []) fun g => ?_),
    reset_brakeLaw⟩
  · exact ⟨fun c => pair (.apply c) (.brakeExhaust c), fun c => pair (.fill c) (.cornerExhaust c), pair .kerbward .offward,
      damping⟩
  · exact fillLaw_iff.mpr fun _ => reset_fillRules ⟨0, rfl⟩ (fun c => congrArg Generator.prog (gens (.fill c))) rfl
  · rw [gens]
    exact ⟨rfl, Nat.zero_le _⟩

end Sys2Proof.Machine
end

section
/-! PROOFS. The release set (R163, R165), the levelling context (R100, R101) and the bucket timer (R52 to R54; O32), with the clock and
the queue (O2). -/

namespace Sys2Proof.Machine

variable {a s t : State}

/-! ### A step for every index that changes the entry of that index -/

theorem foldl_upd_get {α : Type} {n : Nat} (f : Fin n → α → α) (j : Fin n) : ∀ (xs : List (Fin n)) (v : Vector α n), xs.Nodup →
    (xs.foldl (fun v i => upd v i (f i)) v)[j.val] = if j ∈ xs then f j v[j.val] else v[j.val]
  | [], _, _ => by simp
  | x :: xs, v, distinct => by
    obtain ⟨fresh, rest⟩ := List.nodup_cons.mp distinct
    rw [List.foldl_cons, foldl_upd_get f j xs _ rest, upd_get]
    by_cases here : x = j
    · subst here
      simp [fresh]
    · simp [here, Ne.symm here]

/-- Where each step is the change of its own entry of a table, the steps together change every entry. -/
theorem forAll_put {σ α : Type} {n : Nat} (put : Vector α n → σ) (f : Fin n → α → α) {g : Fin n → σ → σ}
    (step : ∀ i v, g i (put v) = put (upd v i (f i))) (v : Vector α n) : forAll n g (put v) = put (mapAll v f) := by
  have fold (xs : List (Fin n)) : ∀ v, xs.foldl (fun s i => g i s) (put v) = put (xs.foldl (fun v i => upd v i (f i)) v) := by
    induction xs with
    | nil => exact fun _ => rfl
    | cons x xs ih =>
      intro v
      rw [List.foldl_cons, List.foldl_cons, step, ih]
  rw [forAll, fold]
  congr 1
  refine Vector.ext fun j small => ?_
  have entry := foldl_upd_get f ⟨j, small⟩ (List.finRange n) v (List.nodup_finRange n)
  rw [if_pos (List.mem_finRange _)] at entry
  exact entry.trans (mapAll_get v f ⟨j, small⟩).symm

theorem upd_congr {α : Type} {n : Nat} {v : Vector α n} {i : Fin n} {f g : α → α} (same : f v[i.val] = g v[i.val]) : upd v i f = upd v i g := by
  unfold upd
  rw [same]

theorem upd_fixed {α : Type} {n : Nat} {v : Vector α n} {i : Fin n} {f : α → α} (same : f v[i.val] = v[i.val]) : upd v i f = v := by
  unfold upd
  rw [same, Vector.set_getElem_self]

theorem mapAll_id {α : Type} {n : Nat} (v : Vector α n) : (mapAll v fun _ x => x) = v := by
  refine Vector.ext fun j small => ?_
  exact mapAll_get v (fun _ x => x) ⟨j, small⟩

/-- The tables agree where their entries do. -/
theorem mapAll_congr {α β : Type} {n : Nat} {v : Vector α n} {f g : Fin n → α → β} (same : ∀ i : Fin n, f i v[i.val] = g i v[i.val]) :
    mapAll v f = mapAll v g := by
  refine Vector.ext fun j small => ?_
  exact (mapAll_get v f ⟨j, small⟩).trans ((same ⟨j, small⟩).trans (mapAll_get v g ⟨j, small⟩).symm)

/-! ### The release set (R163) -/

/-- The permission that a door's line is queued when the set goes from `old` to `new`, if its place in it changes. -/
def Line.permitted (old new : BitVec 4) (d : Door) (l : Line) : Line :=
  if new.getLsbD d.val = old.getLsbD d.val then l else l.queued (if new.getLsbD d.val then .permit else .withhold)

/-- The part with the release set at `x`, and the lines at `lines`. -/
def State.releasing (x : BitVec 4) (lines : Vector Line 4) (s : State) : State :=
  { s with dt := { s.dt with releaseSet := x }, dl := { s.dl with lines := lines } }

theorem setReleaseSet_eq (x : BitVec 4) (s : State) :
    setReleaseSet x s =
      s.releasing x (if s.inReset .doors then s.dl.lines else mapAll s.dl.lines fun d l => l.permitted s.dt.releaseSet x d) := by
  have fold := forAll_put (fun lines => s.releasing x lines)
    (fun d l => if s.inReset .doors then l else l.permitted s.dt.releaseSet x d) (g := fun d s' =>
      if x.getLsbD d.val = s.dt.releaseSet.getLsbD d.val then s' else queueCommand d (if x.getLsbD d.val then .permit else .withhold) s')
    (fun d lines => ?_) s.dl.lines
  · refine fold.trans ?_
    split
    · rw [mapAll_id]
    · rfl
  · have reset : (s.releasing x lines).inReset .doors = s.inReset .doors := rfl
    unfold Line.permitted queueCommand
    rw [reset]
    by_cases kept : x.getLsbD d.val = s.dt.releaseSet.getLsbD d.val
    · simp only [if_pos kept, ite_self]
      rw [upd_fixed rfl]
    · simp only [if_neg kept]
      split
      · rw [upd_fixed rfl]
      · rfl

/-! ### The levelling context (R100, R101) -/

theorem contextNow_eq (s : State) : contextNow s = s.formedContext := by
  unfold contextNow State.formedContext
  cases s.mc.stationary with
  | true => simp
  | false =>
    cases s.mc.moving with
    | true => simp
    | false => simp

theorem takeSource_eq (c : Corner) (x : Source) (s : State) : takeSource c x s = changeCorner c (CornerRecord.taking s.now x) s := by
  unfold takeSource
  congr 1
  funext r
  unfold CornerRecord.taking
  cases x
  all_goals rfl

/-- A corner's record when its entry of the source table is compared with its source in use (R100). -/
def CornerRecord.refreshed (now : Nat) (x : Source) (r : CornerRecord) : CornerRecord := if x = r.source then r else r.taking now x

/-- The part with the context `x`, whose sources the corners have taken up where theirs differ. -/
def State.inContext (x : LevelContext) (s : State) : State :=
  { s with lc := { s.lc with context := x, corners := mapAll s.lc.corners fun c r => r.refreshed s.now (sourceFor s c x) } }

/-- Every corner looks at its entry of the source table. -/
theorem refreshSources_eq (s : State) : forAll 6 refreshSource s = s.inContext s.lc.context := by
  refine forAll_put (fun corners => ({ s with lc := { s.lc with corners := corners } } : State))
    (fun c r => r.refreshed s.now (sourceFor s c s.lc.context)) (g := refreshSource) (fun c corners => ?_) s.lc.corners
  have entry : sourceFor { s with lc := { s.lc with corners := corners } } c s.lc.context = sourceFor s c s.lc.context := rfl
  have here : ({ s with lc := { s.lc with corners := corners } } : State).corner c = corners[c.val] := rfl
  unfold refreshSource
  dsimp only
  rw [entry, here, takeSource_eq]
  split
  · rename_i same
    have fixed : corners[c.val].refreshed s.now (sourceFor s c s.lc.context) = corners[c.val] := if_pos same
    rw [upd_fixed fixed]
  · rename_i other
    have taken : corners[c.val].refreshed s.now (sourceFor s c s.lc.context) = corners[c.val].taking s.now (sourceFor s c s.lc.context) :=
      if_neg other
    rw [upd_congr taken]
    rfl

theorem formContext_eq (s : State) :
    formContext s = if s.inReset .level = true ∨ s.formedContext = s.lc.context then s else s.inContext s.formedContext := by
  unfold formContext
  simp only [contextNow_eq, Bool.or_eq_true, beq_iff_eq]
  split
  · rfl
  · exact refreshSources_eq { s with lc := { s.lc with context := s.formedContext } }

theorem formContext_lc (s : State) : formContext s = { s with lc := (formContext s).lc } := by
  rw [formContext_eq]
  split
  · rfl
  · rfl

/-! ### The speed and its flags (R53, R54) -/

theorem emptyReleaseSet_doors (s : State) : emptyReleaseSet s = { s with dt := { s.dt with releaseSet := 0 }, dl := (emptyReleaseSet s).dl } := by
  have eq := setReleaseSet_eq 0 s
  unfold emptyReleaseSet
  rw [eq]
  rfl

/-- The part with the two flags of the Motion Counters at what is given. -/
def State.flagged (moving stationary : Bool) (s : State) : State := { s with mc := { s.mc with moving := moving, stationary := stationary } }

theorem formContext_lc_congr (mc : t.mc = s.mc) (hl : t.hl = s.hl) (now : t.now = s.now) (lc : t.lc = s.lc) :
    (formContext t).lc = (formContext s).lc := by
  have formed : t.formedContext = s.formedContext := by
    unfold State.formedContext
    rw [mc]
  have reset : t.inReset .level = s.inReset .level := by rw [State.inReset, State.inReset, hl]
  have source (c : Corner) (x : LevelContext) : sourceFor t c x = sourceFor s c x := by
    unfold sourceFor
    rw [hl]
  simp only [formContext_eq, reset, formed, lc]
  split
  · exact lc
  · simp only [State.inContext, lc, now, source]

/-- What a forming of the context that is taken leaves of the controller (R100, R101). -/
theorem formContext_live (live : s.inReset .level = false) :
    (formContext s).lc = { s.lc with context := s.formedContext, corners := (formContext s).lc.corners } ∧
      ∀ c : Corner, (formContext s).corner c =
        if s.formedContext = s.lc.context ∨ sourceFor s c s.formedContext = (s.corner c).source then s.corner c
        else (s.corner c).taking s.now (sourceFor s c s.formedContext) := by
  rw [formContext_eq]
  by_cases same : s.formedContext = s.lc.context
  · rw [if_pos (.inr same)]
    refine ⟨?_, fun c => (if_pos (.inl same)).symm⟩
    rw [same]
  · rw [if_neg (by rw [live]; simpa using same)]
    refine ⟨rfl, fun c => ?_⟩
    have entry : (s.inContext s.formedContext).corner c = (s.corner c).refreshed s.now (sourceFor s c s.formedContext) :=
      mapAll_get s.lc.corners (fun c r => r.refreshed s.now (sourceFor s c s.formedContext)) c
    rw [entry]
    unfold CornerRecord.refreshed
    by_cases kept : sourceFor s c s.formedContext = (s.corner c).source
    · rw [if_pos kept, if_pos (.inr kept)]
    · rw [if_neg kept, if_neg (by simp [same, kept])]

theorem formContext_reset (reset : s.inReset .level = true) : formContext s = s := by rw [formContext_eq, if_pos (.inl reset)]

theorem setMoving_frame (b : Bool) (s : State) :
    setMoving b s = { s with mc := { s.mc with moving := b }, lc := (setMoving b s).lc, dl := (setMoving b s).dl, dt := (setMoving b s).dt } := by
  unfold setMoving
  split
  · rename_i same
    subst same
    rfl
  · unfold movingChanged
    dsimp only
    rw [formContext_lc]
    split
    · rw [emptyReleaseSet_doors]
    · rfl

theorem emptyReleaseSet_context (s : State) : (formContext (emptyReleaseSet s)).lc = (formContext s).lc := by
  refine formContext_lc_congr ?_ ?_ ?_ ?_
  all_goals rw [emptyReleaseSet_doors]

theorem setMoving_lc (b : Bool) (s : State) :
    (setMoving b s).lc = if b = s.mc.moving then s.lc else (formContext (s.flagged b s.mc.stationary)).lc := by
  unfold setMoving
  split
  · rfl
  · unfold movingChanged
    dsimp only
    split
    · exact emptyReleaseSet_context _
    · rfl

/-- R165: a moving flag that becomes set empties the release set. -/
theorem setMoving_empties (clear : s.mc.moving = false) : (setMoving true s).dt.releaseSet = 0 := by
  unfold setMoving
  rw [if_neg (by rw [clear]; decide)]
  unfold movingChanged
  dsimp only
  rw [if_pos rfl, formContext_lc, emptyReleaseSet_doors]

/-- A speed never sets the stationary flag (R54). -/
theorem stationaryAt_clears {v : Nat} {was : Bool} (changed : stationaryAt v was ≠ was) : stationaryAt v was = false ∧ was = true := by
  unfold stationaryAt at changed ⊢
  split at changed
  · rename_i fast
    rw [if_pos fast]
    exact ⟨rfl, (Bool.eq_true_of_not_eq_false (Ne.symm changed))⟩
  · exact absurd rfl changed

/-- So that it arms no record. -/
theorem setStationary_eq (v : Nat) (s : State) :
    setStationary (stationaryAt v s.mc.stationary) s = { s with
      mc := { s.mc with stationary := stationaryAt v s.mc.stationary }
      lc := if stationaryAt v s.mc.stationary = s.mc.stationary then s.lc
            else (formContext (s.flagged s.mc.moving (stationaryAt v s.mc.stationary))).lc } := by
  unfold setStationary
  split
  · rename_i same
    rw [same]
  · rename_i other
    rw [(stationaryAt_clears other).1]
    exact formContext_lc _

/-- Only the context and the corners differ. -/
def LevellingController.Recontexted (x y : LevellingController) : Prop := y = { x with context := y.context, corners := y.corners }

theorem formContext_recontexted (s : State) : s.lc.Recontexted (formContext s).lc := by
  rw [formContext_eq]
  split
  · rfl
  · rfl

theorem setMoving_recontexted (b : Bool) (s : State) : s.lc.Recontexted (setMoving b s).lc := by
  rw [setMoving_lc]
  split
  · rfl
  · exact formContext_recontexted (s.flagged b s.mc.stationary)

/-- Both flags follow the speed (R54), and each that changes has the context formed (R100). -/
theorem setFlags_lc (v : Nat) {b : Bool} (live : s.inReset .level = false)
    (changed : b ≠ s.mc.moving ∨ stationaryAt v s.mc.stationary ≠ s.mc.stationary) {x : LevelContext}
    (formed : x = (s.flagged b (stationaryAt v s.mc.stationary)).formedContext) (t : State)
    (taken : t.lc = (setStationary (stationaryAt v s.mc.stationary) (setMoving b s)).lc) :
    t.lc = { s.lc with context := x, corners := t.lc.corners } ∧
      ((s.mc.stationary = true → s.lc.context = .stationary) → ∀ c : Corner,
        t.corner c = if x = s.lc.context ∨ sourceFor s c x = (s.corner c).source then s.corner c else (s.corner c).taking s.now (sourceFor s c x)) := by
  subst formed
  have frame := setMoving_frame b s
  have moved := setMoving_recontexted b s
  have lc := setMoving_lc b s
  generalize setMoving b s = u at frame moved lc taken
  have stationary : u.mc.stationary = s.mc.stationary := by rw [frame]
  have hl : u.hl = s.hl := by rw [frame]
  have now : u.now = s.now := by rw [frame]
  have second := setStationary_eq v u
  rw [stationary] at second
  rw [second] at taken
  dsimp only at taken
  by_cases stands : stationaryAt v s.mc.stationary = s.mc.stationary
  · rw [if_pos stands, lc, if_neg (changed.resolve_right (not_not_intro stands))] at taken
    have shape := formContext_live (s := s.flagged b s.mc.stationary) live
    have corner (c : Corner) : t.corner c = (formContext (s.flagged b s.mc.stationary)).corner c := by
      unfold State.corner
      rw [taken]
    rw [stands, taken]
    exact ⟨shape.1, fun _ c => (corner c).trans (shape.2 c)⟩
  · rw [if_neg stands] at taken
    have live' : (u.flagged u.mc.moving (stationaryAt v s.mc.stationary)).inReset .level = false := by
      show u.inReset .level = false
      rw [State.inReset, hl]
      exact live
    have shape := formContext_live live'
    have formed : (u.flagged u.mc.moving (stationaryAt v s.mc.stationary)).formedContext =
        (s.flagged b (stationaryAt v s.mc.stationary)).formedContext := by
      rw [frame]
      rfl
    rw [← taken, formed] at shape
    obtain ⟨whole, corners⟩ := shape
    refine ⟨whole.trans ?_, fun was c => ?_⟩
    · have inner : (u.flagged u.mc.moving (stationaryAt v s.mc.stationary)).lc = u.lc := rfl
      unfold LevellingController.Recontexted at moved
      rw [inner, moved]
    · have kept : u.lc = s.lc := by
        rw [lc]
        split
        · rfl
        · have stood := (stationaryAt_clears stands).2
          have formed : (s.flagged b s.mc.stationary).formedContext = s.lc.context := by
            rw [was stood, stood]
            rfl
          rw [formContext_eq, if_pos (.inr formed)]
          rfl
      have corner : t.corner c = (formContext (u.flagged u.mc.moving (stationaryAt v s.mc.stationary))).corner c := by
        unfold State.corner
        rw [taken]
      have source (x : LevelContext) : sourceFor (u.flagged u.mc.moving (stationaryAt v s.mc.stationary)) c x = sourceFor s c x := by
        unfold sourceFor
        show u.hl.params.sources[_] = _
        simp only [hl]
      have there : (u.flagged u.mc.moving (stationaryAt v s.mc.stationary)).corner c = s.corner c := by
        show u.lc.corners[c.val] = _
        rw [kept]
        rfl
      have context : (u.flagged u.mc.moving (stationaryAt v s.mc.stationary)).lc.context = s.lc.context := congrArg LevellingController.context kept
      have moment : (u.flagged u.mc.moving (stationaryAt v s.mc.stationary)).now = s.now := now
      rw [corner, corners c, source, there, context, moment]

/-- The part at a new speed, with the drive-inhibit line evaluated (R41, R53). -/
def State.atSpeed (v : Nat) (s : State) : State := evalInhibit { s with mc := { s.mc with speed := v } }

/-- The part at a new speed, with the flags at what it calls for (R54). -/
def State.flaggedAt (v : Nat) (s : State) : State :=
  setStationary (stationaryAt v s.mc.stationary) (setMoving (movingAt v s.mc.moving) (s.atSpeed v))

theorem flaggedAt_frame (v : Nat) (s : State) : s.flaggedAt v = { s with
    mc := { s.mc with speed := v, moving := movingAt v s.mc.moving, stationary := stationaryAt v s.mc.stationary }
    eu := { s.eu with inhibit := inhibitCalled s.dl.lines s.eu.env.ceiling v }
    lc := (s.flaggedAt v).lc, dl := (s.flaggedAt v).dl, dt := (s.flaggedAt v).dt } := by
  have moved := setMoving_frame (movingAt v s.mc.moving) (s.atSpeed v)
  have stood := setStationary_eq v (setMoving (movingAt v s.mc.moving) (s.atSpeed v))
  have stationary : (setMoving (movingAt v s.mc.moving) (s.atSpeed v)).mc.stationary = s.mc.stationary := by
    rw [moved]
    rfl
  rw [stationary] at stood
  unfold State.flaggedAt
  rw [stood]
  generalize setMoving (movingAt v s.mc.moving) (s.atSpeed v) = u at moved
  rw [moved]
  rfl

/-- The part with its stationary timer started or stopped at a speed (R54). -/
def State.timed (v : Nat) (s : State) : State :=
  { s with mc := { s.mc with stationaryAt := stationaryTimer s.now v s.mc.stationary s.mc.stationaryAt } }

theorem setSpeed_eq (v : Nat) (s : State) : setSpeed v s = State.timed v (if v = s.mc.speed then s else s.flaggedAt v) := by
  have whole : setSpeed v s = State.timed v (if v = s.mc.speed then { s with mc := { s.mc with speed := v } } else s.flaggedAt v) := rfl
  rw [whole]
  split
  · rename_i same
    subst same
    rfl
  · rfl

/-- The part with its buckets closed at an expiry of the bucket timer (R52). -/
def State.closed (s : State) : State :=
  { s with
    now := max s.now s.mc.bucketAt
    mc := { s.mc with circ := s.hl.params.circ, teeth := s.hl.params.teeth, bucketAt := max s.now s.mc.bucketAt + 10 * ms
                      wheels := mapAll s.mc.wheels fun _ w => w.close s.hl.params.circ s.hl.params.teeth } }

/-- The largest wheel speed (R53). -/
def State.largestSpeed (s : State) : Nat := largest (s.mc.wheels.toList.map (·.speed))

theorem bucketExpiry_eq (s : State) : bucketExpiry s = setSpeed s.closed.largestSpeed s.closed := rfl

theorem setSpeed_now (v : Nat) (s : State) : (setSpeed v s).now = s.now := by
  have now : (s.flaggedAt v).now = s.now := by rw [flaggedAt_frame]
  rw [setSpeed_eq]
  split
  · rfl
  · exact now

/-- The flags at a speed, the rest of the Motion Counters as it was (R54). -/
theorem setSpeed_frame (v : Nat) (s : State) : setSpeed v s = { s with
    mc := { s.mc with
      speed := v
      moving := if v = s.mc.speed then s.mc.moving else movingAt v s.mc.moving
      stationary := if v = s.mc.speed then s.mc.stationary else stationaryAt v s.mc.stationary
      stationaryAt := stationaryTimer s.now v (if v = s.mc.speed then s.mc.stationary else stationaryAt v s.mc.stationary) s.mc.stationaryAt }
    eu := { s.eu with inhibit := if v = s.mc.speed then s.eu.inhibit else inhibitCalled s.dl.lines s.eu.env.ceiling v }
    lc := (setSpeed v s).lc, dl := (setSpeed v s).dl, dt := (setSpeed v s).dt } := by
  rw [setSpeed_eq]
  split
  · rename_i same
    subst same
    rfl
  · have frame := flaggedAt_frame v s
    generalize s.flaggedAt v = u at frame
    rw [frame]
    rfl

theorem setSpeed_same (s : State) : setSpeed s.mc.speed s = s.timed s.mc.speed := by rw [setSpeed_eq, if_pos rfl]

/-- R165: a moving flag that becomes set empties the release set. -/
theorem setSpeed_empties {v : Nat} (clear : s.mc.moving = false) (moves : (setSpeed v s).mc.moving = true) :
    (setSpeed v s).dt.releaseSet = 0 := by
  rw [setSpeed_frame] at moves
  dsimp only at moves
  have other : v ≠ s.mc.speed := by
    intro same
    rw [if_pos same, clear] at moves
    cases moves
  rw [if_neg other] at moves
  have emptied : (setMoving true (s.atSpeed v)).dt.releaseSet = 0 := setMoving_empties clear
  rw [setSpeed_eq, if_neg other]
  show (s.flaggedAt v).dt.releaseSet = 0
  have stands : (s.flaggedAt v).dt = (setMoving (movingAt v s.mc.moving) (s.atSpeed v)).dt := by
    have stood := setStationary_eq v (setMoving (movingAt v s.mc.moving) (s.atSpeed v))
    have stationary : (setMoving (movingAt v s.mc.moving) (s.atSpeed v)).mc.stationary = s.mc.stationary := by
      rw [setMoving_frame]
      rfl
    rw [stationary] at stood
    unfold State.flaggedAt
    rw [stood]
  rw [stands, moves]
  exact emptied

theorem flaggedAt_reset (v : Nat) (reset : s.inReset .level = true) : (s.flaggedAt v).lc = s.lc := by
  have moved : (setMoving (movingAt v s.mc.moving) (s.atSpeed v)).lc = s.lc := by
    rw [setMoving_lc]
    split
    · rfl
    · have reset' : ((s.atSpeed v).flagged (movingAt v s.mc.moving) (s.atSpeed v).mc.stationary).inReset .level = true := reset
      rw [formContext_reset reset']
      rfl
  have frame := setMoving_frame (movingAt v s.mc.moving) (s.atSpeed v)
  unfold State.flaggedAt
  generalize setMoving (movingAt v s.mc.moving) (s.atSpeed v) = u at moved frame
  have stationary : u.mc.stationary = s.mc.stationary := by rw [frame]; rfl
  have reset' (b : Bool) : (u.flagged u.mc.moving b).inReset .level = true := by
    show u.inReset .level = true
    rw [State.inReset, frame]
    exact reset
  have stood := setStationary_eq v u
  rw [stationary] at stood
  rw [stood]
  dsimp only
  rw [formContext_reset (reset' _)]
  split
  · exact moved
  · exact moved

theorem setSpeed_lc (v : Nat) (s : State) : (setSpeed v s).lc = if v = s.mc.speed then s.lc else (s.flaggedAt v).lc := by
  rw [setSpeed_eq]
  split
  · rfl
  · rfl

/-- The controller is told of no flag that did not change (R100). -/
theorem flaggedAt_still {v : Nat} (moving : movingAt v s.mc.moving = s.mc.moving)
    (stationary : stationaryAt v s.mc.stationary = s.mc.stationary) : (s.flaggedAt v).lc = s.lc := by
  unfold State.flaggedAt
  rw [moving, stationary]
  have first : setMoving s.mc.moving (s.atSpeed v) = s.atSpeed v := if_pos rfl
  have second : setStationary s.mc.stationary (s.atSpeed v) = s.atSpeed v := if_pos rfl
  rw [first, second]
  rfl

/-! ### The bucket timer -/

theorem closed_wheel (s : State) (w : Corner) :
    s.closed.mc.wheels[w.val] = (s.mc.wheels[w.val]).close s.hl.params.circ s.hl.params.teeth :=
  mapAll_get s.mc.wheels (fun _ w => w.close s.hl.params.circ s.hl.params.teeth) w

theorem speed_le_largestSpeed (s : State) (w : Corner) : s.mc.wheels[w.val].speed ≤ s.largestSpeed :=
  le_largest (List.mem_map_of_mem (Vector.mem_toList_iff.mpr (Vector.getElem_mem w.isLt)))

theorem largestSpeed_attained (s : State) : ∃ w : Corner, s.largestSpeed = s.mc.wheels[w.val].speed := by
  rcases largest_attained (s.mc.wheels.toList.map (·.speed)) with none' | member
  · have low := speed_le_largestSpeed s 0
    unfold State.largestSpeed at low ⊢
    rw [none'] at low ⊢
    exact ⟨0, by omega⟩
  · obtain ⟨x, present, same⟩ := List.mem_map.mp member
    rw [Vector.mem_toList_iff, Vector.mem_iff_getElem] at present
    obtain ⟨i, small, rfl⟩ := present
    exact ⟨⟨i, small⟩, same.symm⟩

theorem running_next {f : State → State} (live : s.resetHeld = false) : running f s = .next (f s) :=
  congrArg Host.Outcome.next (if_neg (by rw [live]; decide))

/-- Settles O32: the buckets are closed, and the flags follow the largest speed. -/
theorem bucketTimerExpires : Obligations.BucketTimerExpires := by
  intro s live
  have taken : exec .bucketTimerExpiry s = .next (bucketExpiry s) := running_next live
  refine ⟨_, taken, ?_⟩
  rw [bucketExpiry_eq]
  have frame := setSpeed_frame s.closed.largestSpeed s.closed
  have lc := setSpeed_lc s.closed.largestSpeed s.closed
  have empties := setSpeed_empties (s := s.closed) (v := s.closed.largestSpeed)
  have same : s.closed.largestSpeed = s.mc.speed → setSpeed s.closed.largestSpeed s.closed = s.closed.timed s.mc.speed := by
    intro same
    rw [same]
    exact setSpeed_same s.closed
  have closed := closed_wheel s
  have top := speed_le_largestSpeed s.closed
  have attained := largestSpeed_attained s.closed
  generalize s.closed.largestSpeed = v at *
  generalize setSpeed v s.closed = t at *
  have wheels (w : Corner) : t.mc.wheels[w.val] = s.closed.mc.wheels[w.val] := by rw [frame]
  have speed : t.mc.speed = v := by rw [frame]
  have moving : t.mc.moving = if v = s.mc.speed then s.mc.moving else movingAt v s.mc.moving := by rw [frame]; rfl
  have stationary : t.mc.stationary = if v = s.mc.speed then s.mc.stationary else stationaryAt v s.mc.stationary := by rw [frame]; rfl
  have inhibit : t.eu.inhibit = if v = s.mc.speed then s.eu.inhibit else inhibitCalled s.dl.lines s.eu.env.ceiling v := by rw [frame]; rfl
  have now : t.now = s.closed.now := by rw [frame]
  refine ⟨by rw [frame]; rfl, by rw [frame]; rfl, by rw [frame]; rfl, fun w => ⟨_, _, rfl, rfl, ?_⟩, fun w => ?_, ?_, fun other => ?_, fun still => ?_,
    ?_, fun clear set => empties clear set, fun quiet => ?_, fun live changed => ?_, ?_⟩
  · rw [wheels, closed]
    unfold Wheel.close wheelSpeed
    simp [Nat.add_assoc]
  · rw [wheels, speed]
    exact top w
  · obtain ⟨w, most⟩ := attained
    exact ⟨w, by rw [speed, wheels]; exact most⟩
  · rw [speed] at other
    rw [moving, stationary, inhibit, if_neg other, if_neg other, if_neg other, inhibitCalled_eq_true_iff, speed]
    exact ⟨rfl, rfl, Iff.rfl⟩
  · rw [speed] at still
    rw [moving, stationary, inhibit, if_pos still, if_pos still, if_pos still, same still]
    exact ⟨rfl, rfl, rfl, rfl, rfl, rfl⟩
  · have timer : t.mc.stationaryAt = stationaryTimer t.now t.mc.speed t.mc.stationary s.mc.stationaryAt := by
      rw [now, speed, stationary, frame]
      rfl
    rw [timer]
    unfold stationaryTimer
    by_cases flag : t.mc.stationary = true
    · simp [flag]
    · by_cases slow : t.mc.speed < 5
      · rw [if_neg flag, if_pos slow, if_neg (not_or.mpr ⟨flag, Nat.not_le.mpr slow⟩)]
        rfl
      · rw [if_neg flag, if_neg slow, if_pos (.inr (Nat.not_lt.mp slow))]
  · rw [lc]
    split
    · rfl
    · rename_i other
      have other : ¬v = s.mc.speed := other
      rcases quiet with reset | ⟨kept, stood⟩
      · exact flaggedAt_reset v (s := s.closed) reset
      · rw [moving, if_neg other] at kept
        rw [stationary, if_neg other] at stood
        exact flaggedAt_still (s := s.closed) kept stood
  · have other : v ≠ s.mc.speed := by
      intro same
      rw [moving, stationary, if_pos same, if_pos same] at changed
      exact changed.elim (absurd rfl) (absurd rfl)
    have other' : v ≠ s.closed.mc.speed := other
    rw [if_neg other'] at lc
    rw [moving, stationary, if_neg other, if_neg other] at changed
    have formed : t.formedContext = ((s.closed.atSpeed v).flagged (movingAt v s.mc.moving) (stationaryAt v s.mc.stationary)).formedContext := by
      unfold State.formedContext
      rw [moving, stationary, speed, if_neg other, if_neg other]
      rfl
    have shape := setFlags_lc (s := s.closed.atSpeed v) v (b := movingAt v s.mc.moving) live changed formed t lc
    refine ⟨shape.1, fun was c y source => ?_⟩
    have corner := shape.2 was c
    rw [source, now]
    exact corner
  · rw [frame]
    exact ⟨rfl, rfl, rfl, rfl, rfl, rfl, rfl, rfl, rfl, rfl, rfl⟩


/-! ### The queue and the clock (O2) -/

/-- The queue stands, and the clock is no earlier. -/
structure Later (s t : State) : Prop where
  pending : t.pending = s.pending
  now     : s.now ≤ t.now

theorem Later.table (h : Later a s) (only : TableOnly s t) : Later a t := ⟨only.pending.trans h.pending, only.now.symm ▸ h.now⟩

theorem Later.same (h : Later a s) (pending : t.pending = s.pending) (now : t.now = s.now) : Later a t :=
  ⟨pending.trans h.pending, now.symm ▸ h.now⟩

theorem Moves.later (moves : Moves a t) : Later a t := by
  induction moves with
  | start => exact ⟨rfl, Nat.le_refl _⟩
  | time n _ ih => exact ⟨ih.pending, Nat.le_trans ih.now (Nat.le_max_left _ _)⟩
  | form _ ih => exact ih.table (formEnvelope_table _)
  | change i f _ _ _ _ ih => exact ih.table ((changeRecord_table i f _).trans (formEnvelope_table _))
  | free i r _ _ _ ih => exact ih.table (freeSlot_table i r _)
  | stand i r _ _ ih => exact ih.table (standRecord_table i r _)
  | travel inc _ ih =>
    have travelled := travelSlots_table inc
    split
    · exact ih.table (travelled _)
    · exact ih.table ((travelled _).trans (formEnvelope_table _))
  | brake c side p _ ih =>
    rw [handBrake_valves]
    exact ih.same rfl rfl
  | steer side p _ ih =>
    rw [handSteer_valves]
    exact ih.same rfl rfl
  | damping p _ ih =>
    rw [handDamping_valves]
    exact ih.same rfl rfl
  | quiet g _ _ ih =>
    rw [quietGroup_valves]
    exact ih.same rfl rfl
  | @runOut s c _ ih =>
    have only := returnGrant_only c (changeGen (.fill c) (Generator.toIdle s.now) s)
    exact ih.same only.pending only.now
  | stopFill c _ ih => exact ih.table (stopLevel_only c _ _).table
  | exhaust c p _ ih => exact ih.table (handLevel_only c _ p _).table
  | fill afresh c e p _ _ _ ih => exact ih.table (commandFill_only afresh c e p _).table
  | reserve x _ ih => exact ih.table (reserveEvent_only x _).table
  | powerOn _ ih | allReset _ ih | holdReset _ ih | mark _ _ _ _ ih | profiles _ _ _ ih | inhibit _ _ ih | sp _ _ _ _ ih | mc _ _ _ _ ih
  | bc _ _ _ ih | js _ _ _ ih | dl _ _ _ ih | dt _ _ _ ih | hl _ _ _ _ ih | degraded _ _ ih | lc _ _ _ ih | period _ _ _ _ ih
  | levelReset _ _ ih => exact ih.same rfl rfl

/-- Every command completes. -/
theorem exec_completes (c : Instr) (s : State) : ∃ t, exec c s = .next t := by
  cases c
  all_goals exact ⟨_, rfl⟩

theorem brakeExpiry_now (s : State) : (brakeExpiry s).now = max s.now s.bc.cycleAt := by
  unfold brakeExpiry
  dsimp only
  split
  · rfl
  · rename_i live
    rw [brakeWork_eq (eq_false_of_ne_true live)]
    rfl

theorem jointExpiry_now (s : State) : (jointExpiry s).now = max s.now s.js.cycleAt := by
  unfold jointExpiry
  dsimp only
  split
  · rfl
  · rename_i live
    rw [jointWork_eq (eq_false_of_ne_true live)]
    exact (jointRecorded_table _).now

/-- Settles O2: no move turns the clock back, and a cycle's work does not move it. -/
theorem commandsKeepTheQueue : Obligations.CommandsKeepTheQueue := by
  refine ⟨fun c s => ?_, fun s t live => ⟨fun e => ?_, fun e => ?_, fun e => ?_, fun x e rest illegal e => ?_⟩⟩
  · obtain ⟨t, e⟩ := exec_completes c s
    exact ⟨t, e, (exec_moves c e).later.pending, (exec_moves c e).later.now⟩
  · cases Host.Outcome.next.inj ((running_next (f := brakeExpiry) live).symm.trans e)
    exact brakeExpiry_now s
  · cases Host.Outcome.next.inj ((running_next (f := jointExpiry) live).symm.trans e)
    exact jointExpiry_now s
  · cases Host.Outcome.next.inj ((running_next (f := bucketExpiry) live).symm.trans e)
    exact setSpeed_now _ s.closed
  · cases Host.Outcome.next.inj ((running_next (f := dropIllegal x) live).symm.trans e)
    unfold dropIllegal
    rw [illegal]
    cases x
    all_goals rfl

end Sys2Proof.Machine
end

section
/-! PROOFS. The Host Link (O5 to O8): a request is served by its body, every body answers, and the checks of R171 and R172. -/

namespace Sys2Proof.Machine

variable {s t : State} {f : HostFrame} {o : HostOwner}

/-! ### A request served (R170 to R173) -/

/-- The part with the request of a frame taken: what it shifts out, and the last status (R170, R173). -/
def State.taking (f : HostFrame) (s : State) : State := takeRequest (f.payload.length + 4 + f.extra) s

theorem serve_taken {code : Byte} {acc : Accepts} {body : HostOwner → List Byte → State → State} (fits : f.payload.length ≤ 26)
    (owner : FrameOwner f o) (takes : acc.takes o = true) : serve code acc body f s = body o f.payload (s.taking f) := by
  unfold serve maxPayload
  dsimp only
  rw [if_neg (by omega), owner]
  dsimp only
  rw [if_pos takes]
  rfl

theorem serve_badOwner {code : Byte} {acc : Accepts} {body : HostOwner → List Byte → State → State} (fits : f.payload.length ≤ 26)
    (owner : readHostOwner f.owner = none) : serve code acc body f s = answered f code .badField [] s := by
  unfold serve maxPayload
  dsimp only
  rw [if_neg (by omega), owner]
  rfl

theorem serve_notTaken {code : Byte} {acc : Accepts} {body : HostOwner → List Byte → State → State} (fits : f.payload.length ≤ 26)
    (owner : FrameOwner f o) (refused : acc.takes o = false) : serve code acc body f s = answered f code .notOwner [] s := by
  unfold serve maxPayload
  dsimp only
  rw [if_neg (by omega), owner]
  dsimp only
  rw [if_neg (by rw [refused]; decide)]
  rfl

/-- The body of a command that is a request, with what `serve` is given. -/
def requestBody : Instr → Option (HostOwner → List Byte → State → State)
  | .place _ => some bodyPlace
  | .query _ => some bodyQuery
  | .find _ => some bodyFind
  | .list _ => some bodyList
  | .amend _ => some bodyAmend
  | .retire _ => some bodyRetire
  | .retireForce _ => some bodyRetireForce
  | .readEnvelope _ => some fun _ => readWhole 0x10 envelopeImage
  | .readBrake _ => some fun _ => readIndexed 0x11 readCorner brakeImage
  | .readCorner _ => some fun _ => readIndexed 0x12 readCorner cornerImage
  | .readJoint _ => some fun _ => readWhole 0x13 jointImage
  | .readDoor _ => some fun _ => readIndexed 0x14 readDoor doorImage
  | .readSample _ => some fun _ => readIndexed 0x15 readChannel sampleImage
  | .setDoorRelease _ => some bodySetDoorRelease
  | .doorCommand _ => some bodyDoorCommand
  | .setMode _ => some bodySetMode
  | .heartbeat _ => some bodyHeartbeat
  | .ackAttention _ => some bodyAckAttention
  | .setAttentionMask _ => some bodySetAttentionMask
  | .lastStatus _ => some bodyLastStatus
  | .writeParam _ => some bodyWriteParam
  | .writeProfile _ => some bodyWriteProfile
  | .writeXlate _ => some bodyWriteXlate
  | .configDone _ => some bodyConfigDone
  | .resetGroup _ => some bodyResetGroup
  | .resetAll _ => some bodyResetAll
  | _ => none

/-- A command that is a request is its body, served. -/
theorem exec_request {c : Instr} {code : Byte} {acc : Accepts} (request : requestOfCommand c = some (code, acc, f)) (live : s.resetHeld = false) :
    ∃ body, requestBody c = some body ∧ exec c s = .next (serve code acc body f s) := by
  cases c
  all_goals cases request
  all_goals exact ⟨_, rfl, running_next live⟩

/-- A request whose owner and length pass is what its body makes of the part with the request taken. -/
theorem exec_taken {c : Instr} {code : Byte} {acc : Accepts} {body : HostOwner → List Byte → State → State}
    (request : requestOfCommand c = some (code, acc, f)) (named : requestBody c = some body) (live : s.resetHeld = false)
    (fits : f.payload.length ≤ 26) (owner : FrameOwner f o) (takes : acc.takes o = true) : exec c s = .next (body o f.payload (s.taking f)) := by
  obtain ⟨body', same, run⟩ := exec_request request live
  cases named.symm.trans same
  rw [run, serve_taken fits owner takes]

/-! ### What sampling reaches -/

/-- Only the records, the envelope, the Levelling Controller with the corners' valves, the samples, the set PLAUS acts on, the flags and
the device mode differ. -/
structure SenseOnly (s t : State) : Prop where
  pending   : t.pending = s.pending
  now       : t.now = s.now
  resetHeld : t.resetHeld = s.resetHeld
  profiles  : t.rt.profiles = s.rt.profiles
  mc        : t.mc = s.mc
  bc        : t.bc = s.bc
  js        : t.js = s.js
  dl        : t.dl = s.dl
  dt        : t.dt = s.dt
  brake     : t.valves.brake = s.valves.brake
  steer     : t.valves.steer = s.valves.steer
  damping   : t.valves.damping = s.valves.damping
  hl        : t.hl = { s.hl with flags := t.hl.flags, service := t.hl.service }

theorem SenseOnly.refl (s : State) : SenseOnly s s := by constructor <;> rfl

theorem SenseOnly.trans {u : State} (h : SenseOnly s t) (k : SenseOnly t u) : SenseOnly s u where
  pending := k.pending.trans h.pending
  now := k.now.trans h.now
  resetHeld := k.resetHeld.trans h.resetHeld
  profiles := k.profiles.trans h.profiles
  mc := k.mc.trans h.mc
  bc := k.bc.trans h.bc
  js := k.js.trans h.js
  dl := k.dl.trans h.dl
  dt := k.dt.trans h.dt
  brake := k.brake.trans h.brake
  steer := k.steer.trans h.steer
  damping := k.damping.trans h.damping
  hl := by rw [k.hl, h.hl]

theorem TableOnly.sense (h : TableOnly s t) : SenseOnly s t :=
  ⟨h.pending, h.now, h.resetHeld, h.profiles, h.mc, h.bc, h.js, h.dl, h.dt, h.brake, h.steer, h.damping, h.hl⟩

theorem senseOnly_samples (s : State) (x : SensePort) : SenseOnly s { s with sp := x } := by constructor <;> rfl

theorem watchDegraded_sense (s : State) : SenseOnly s (watchDegraded s) := by
  obtain ⟨x, table⟩ := watchDegraded_table s
  have set : SenseOnly s { s with degraded := x } := by constructor <;> rfl
  exact set.trans table.sense

theorem setComparators_sense (r l c : Level) (s : State) : SenseOnly s (setComparators r l c s) := by
  have read := senseOnly_samples s { s.sp with reserve := r, low := l, critical := c }
  have flagged := (setFlagIf_table (r != s.sp.reserve || l != s.sp.low || c != s.sp.critical) .air
    { s with sp := { s.sp with reserve := r, low := l, critical := c } }).sense
  have told (y : State) : SenseOnly y (if r = s.sp.reserve then y else reserveEvent r y) := by
    split
    · exact .refl y
    · exact (reserveEvent_only r y).table.sense
  have watched (y : State) : SenseOnly y (if c = s.sp.critical then y else watchCritical y) := by
    split
    · exact .refl y
    · exact (watchCritical_table y).sense
  exact ((read.trans flagged).trans (told _)).trans (watched _)

theorem recoverCorner_table (c : Corner) (s : State) : TableOnly s (recoverCorner c s) :=
  (changeCorner_only c _ s).table.trans (setFlag_table .sensor _)

theorem meetHeight_table (c : Corner) (x : SampleState) (s : State) : TableOnly s (meetHeight c x s) := by
  unfold meetHeight
  split
  · split
    · exact (declareDegraded_only c s).table
    · exact (beginStrobe_only c s).table
  · exact (declareDegraded_only c s).table
  · exact recoverCorner_table c s
  · exact .refl s


theorem heightState_sense (c : Corner) (x : SampleState) (s : State) : SenseOnly s (heightState c x s) := by
  unfold heightState
  split
  · exact .refl s
  · exact (meetHeight_table c x s).sense

theorem sampleStateChanged_sense (ch : Channel) (x : SampleState) (s : State) : SenseOnly s (sampleStateChanged ch x s) := by
  have heights (t : State) : SenseOnly t (if h : 12 ≤ ch.val ∧ ch.val < 18 then heightState ⟨ch.val - 12, by omega⟩ x t else t) := by
    split
    · exact heightState_sense _ _ _
    · exact .refl t
  have reservoir (t : State) : SenseOnly t (if ch.val = 20 && x != .valid then setComparators .below t.sp.low t.sp.critical t else t) := by
    split
    · exact setComparators_sense _ _ _ _
    · exact .refl t
  unfold sampleStateChanged
  exact (((setFlag_table .sensor s).sense.trans (heights _)).trans (reservoir _)).trans (watchDegraded_sense _)

theorem setSampleState_sense (ch : Channel) (x : SampleState) (s : State) : SenseOnly s (setSampleState ch x s) := by
  unfold setSampleState
  split
  · exact .refl s
  · exact (senseOnly_samples s _).trans (sampleStateChanged_sense ch x _)

theorem resetSample_sense (ch : Channel) (s : State) : SenseOnly s (resetSample ch s) :=
  (senseOnly_samples s _).trans (setSampleState_sense ch .stale _)

theorem senseOnly_forAll {n : Nat} (f : Fin n → State → State) (h : ∀ i x, SenseOnly x (f i x)) (s : State) : SenseOnly s (forAll n f s) :=
  forAll_rel SenseOnly SenseOnly.refl SenseOnly.trans f h s

/-! ### Every body answers (R170, R173) -/

/-- The last status and the bytes shifted out stand. -/
structure LinkKept (s t : State) : Prop where
  last    : t.hl.last = s.hl.last
  shifted : t.hl.shifted = s.hl.shifted

theorem LinkKept.refl (s : State) : LinkKept s s := ⟨rfl, rfl⟩

theorem LinkKept.trans {u : State} (h : LinkKept s t) (k : LinkKept t u) : LinkKept s u :=
  ⟨k.last.trans h.last, k.shifted.trans h.shifted⟩

theorem SenseOnly.link (h : SenseOnly s t) : LinkKept s t := by
  constructor
  all_goals rw [h.hl]

theorem TableOnly.link (h : TableOnly s t) : LinkKept s t := h.sense.link

/-- An answer to the request of a code, with the last status and the bytes shifted out kept. -/
def Answers (code : Byte) (s t : State) : Prop := ∃ st payload x, t = answer code st payload x ∧ LinkKept s x

theorem answers_of {code : Byte} (st : Status) (payload : List Byte) {x : State} (kept : LinkKept s x) : Answers code s (answer code st payload x) :=
  ⟨st, payload, x, rfl, kept⟩

theorem answers_refuse (code : Byte) (st : Status) (s : State) : Answers code s (refuse code st s) := answers_of st [] (.refl s)

theorem placeChecked_table (w : Owner) (k v : Byte) (x : Supplied) (parent : Option (Option Handle)) (s : State) :
    TableOnly s (placeChecked w k v x parent s).state := by
  unfold placeChecked
  split
  · exact .refl s
  · split
    · exact .refl s
    · split
      · exact .refl s
      · exact placeRecord_table _ s

theorem applyBatch_table (o : Owner) : ∀ (es : List AmendEntry) (n : Nat) (clamped : Bool) (s : State),
    TableOnly s (applyBatch o es n clamped s).state
  | [], _, _, s => .refl s
  | e :: es, n, clamped, s => by
    have amended := amendOne_table o e.handle e.change s
    unfold applyBatch
    split
    · rename_i eq
      rw [eq] at amended
      exact amended.trans (applyBatch_table o es _ _ _)
    · rename_i eq
      rw [eq] at amended
      exact amended.trans (applyBatch_table o es _ _ _)
    · exact .refl s

theorem bodyPlace_answers (o : HostOwner) (payload : List Byte) (s : State) : Answers 0x01 s (bodyPlace o payload s) := by
  unfold bodyPlace
  split
  · split
    · exact answers_of _ _ (placeChecked_table ..).link
    · exact answers_refuse ..
  · exact answers_refuse ..

theorem answerPage_answers (code : Byte) (image : List Byte) (page : Byte) (s : State) : Answers code s (answerPage code image page s) := by
  unfold answerPage
  split
  · exact answers_of _ _ (.refl s)
  · exact answers_refuse ..

theorem bodyQuery_answers (o : HostOwner) (payload : List Byte) (s : State) : Answers 0x02 s (bodyQuery o payload s) := by
  unfold bodyQuery
  split
  · split
    · exact answerPage_answers ..
    · exact answers_refuse ..
  · exact answers_refuse ..

theorem bodyFind_answers (o : HostOwner) (payload : List Byte) (s : State) : Answers 0x03 s (bodyFind o payload s) := by
  unfold bodyFind
  split
  · exact answers_of _ _ (.refl s)
  · exact answers_refuse ..

theorem bodyList_answers (o : HostOwner) (payload : List Byte) (s : State) : Answers 0x04 s (bodyList o payload s) := by
  unfold bodyList
  split
  · exact answers_of _ _ (.refl s)
  · exact answers_refuse ..

theorem bodyAmend_answers (o : HostOwner) (payload : List Byte) (s : State) : Answers 0x05 s (bodyAmend o payload s) := by
  unfold bodyAmend
  split
  · split
    · exact answers_refuse ..
    · split
      · exact answers_of _ _ (.refl s)
      · exact answers_of _ _ (applyBatch_table ..).link
  · exact answers_refuse ..

theorem bodyRetire_answers (o : HostOwner) (payload : List Byte) (s : State) : Answers 0x06 s (bodyRetire o payload s) := by
  unfold bodyRetire
  split
  · split
    · exact answers_refuse ..
    · split
      · exact answers_refuse ..
      · exact answers_of _ _ (ownerRetire_table ..).link
  · exact answers_refuse ..

theorem bodyRetireForce_answers (o : HostOwner) (payload : List Byte) (s : State) : Answers 0x07 s (bodyRetireForce o payload s) := by
  unfold bodyRetireForce
  split
  · split
    · exact answers_refuse ..
    · split
      · exact answers_refuse ..
      · split
        · exact answers_refuse ..
        · split
          · exact answers_refuse ..
          · exact answers_refuse ..
          · exact answers_of _ _ (forceRetire_table ..).link
          · exact answers_of _ _ (forceRetire_table ..).link
          · exact answers_of _ _ (forceRetire_table ..).link
  · exact answers_refuse ..

theorem readWhole_answers (code : Byte) (image : State → List Byte) (payload : List Byte) (s : State) :
    Answers code s (readWhole code image payload s) := by
  unfold readWhole
  split
  · exact answerPage_answers ..
  · exact answers_refuse ..

theorem readIndexed_answers {α : Type} (code : Byte) (index : Byte → Option α) (image : State → α → List Byte) (payload : List Byte) (s : State) :
    Answers code s (readIndexed code index image payload s) := by
  unfold readIndexed
  split
  · split
    · exact answerPage_answers ..
    · exact answers_refuse ..
  · exact answers_refuse ..

theorem setReleaseSet_link (x : BitVec 4) (s : State) : LinkKept s (setReleaseSet x s) := by
  rw [setReleaseSet_eq]
  exact ⟨rfl, rfl⟩

theorem queueCommand_link (d : Door) (c : Command) (s : State) : LinkKept s (queueCommand d c s) := by
  unfold queueCommand
  split
  · exact .refl s
  · exact ⟨rfl, rfl⟩

theorem bodySetDoorRelease_answers (o : HostOwner) (payload : List Byte) (s : State) : Answers 0x20 s (bodySetDoorRelease o payload s) := by
  unfold bodySetDoorRelease
  split
  · split
    · exact answers_refuse ..
    · split
      · exact answers_refuse ..
      · split
        · exact answers_refuse ..
        · exact answers_of _ _ (setReleaseSet_link ..)
  · exact answers_refuse ..

theorem bodyDoorCommand_answers (o : HostOwner) (payload : List Byte) (s : State) : Answers 0x21 s (bodyDoorCommand o payload s) := by
  unfold bodyDoorCommand
  split
  · split
    · exact answers_refuse ..
    · split
      · split
        · exact answers_refuse ..
        · exact answers_of _ _ (queueCommand_link ..)
      · exact answers_refuse ..
  · exact answers_refuse ..

theorem bodySetMode_answers (o : HostOwner) (payload : List Byte) (s : State) : Answers 0x22 s (bodySetMode o payload s) := by
  unfold bodySetMode
  split
  · split
    · exact answers_refuse ..
    · split
      · exact answers_of _ _ (.refl s)
      · split
        · exact answers_of _ _ ⟨rfl, rfl⟩
        · split
          · exact answers_of _ _ ⟨rfl, rfl⟩
          · exact answers_refuse ..
  · exact answers_refuse ..

theorem regainSupervision_link (s : State) : LinkKept s (regainSupervision s) := by
  have withdrawn := (withdraw_table .supervisionLost .plaus { s with hl := { s.hl with supervised := true, runCount := 0 } }).link
  exact ⟨withdrawn.last, withdrawn.shifted⟩

theorem beat_link (s : State) : LinkKept s (beat s) := by
  have timed (y : State) : LinkKept y { y with hl := { y.hl with heartAt := some (y.now + heartPeriod) } } := ⟨rfl, rfl⟩
  unfold beat
  refine LinkKept.trans ?_ (timed _)
  split
  · exact .refl s
  · split
    · split
      · exact regainSupervision_link s
      · exact ⟨rfl, rfl⟩
    · exact ⟨rfl, rfl⟩

theorem bodyHeartbeat_answers (o : HostOwner) (payload : List Byte) (s : State) : Answers 0x23 s (bodyHeartbeat o payload s) := by
  unfold bodyHeartbeat
  split
  · refine answers_of _ _ ?_
    split
    · exact beat_link s
    · exact .refl s
  · exact answers_refuse ..

theorem bodyAckAttention_answers (o : HostOwner) (payload : List Byte) (s : State) : Answers 0x24 s (bodyAckAttention o payload s) := by
  unfold bodyAckAttention
  split
  · exact answers_of _ _ ⟨rfl, rfl⟩
  · exact answers_refuse ..

theorem bodySetAttentionMask_answers (o : HostOwner) (payload : List Byte) (s : State) : Answers 0x25 s (bodySetAttentionMask o payload s) := by
  unfold bodySetAttentionMask
  split
  · exact answers_of _ _ ⟨rfl, rfl⟩
  · exact answers_refuse ..

theorem bodyLastStatus_answers (o : HostOwner) (payload : List Byte) (s : State) : Answers 0x26 s (bodyLastStatus o payload s) := by
  unfold bodyLastStatus
  split
  · exact answers_of _ _ (.refl s)
  · exact answers_refuse ..

theorem refreshSources_link (s : State) : LinkKept s (forAll 6 refreshSource s) := by
  rw [refreshSources_eq]
  exact ⟨rfl, rfl⟩

theorem paramWritten_link (n : Nat) (old : Params) (s : State) : LinkKept s (paramWritten n old s) := by
  unfold paramWritten
  split
  · exact ⟨rfl, rfl⟩
  · exact ⟨rfl, rfl⟩
  · unfold thresholdsRewritten
    dsimp only
    split
    · exact .refl s
    · split
      · exact (setComparators_sense _ _ _ s).link
      · exact .refl s
  · unfold sourceRewritten
    split
    · exact .refl s
    · exact refreshSources_link s
  · exact .refl s

theorem bodyWriteParam_answers (o : HostOwner) (payload : List Byte) (s : State) : Answers 0x30 s (bodyWriteParam o payload s) := by
  unfold bodyWriteParam
  split
  · split
    · exact answers_refuse ..
    · split
      · exact answers_refuse ..
      · rename_i w _
        have written (n : Nat) := paramWritten_link n s.hl.params { s with hl := { s.hl with params := w.params } }
        exact answers_of _ _ ⟨(written _).last, (written _).shifted⟩
  · exact answers_refuse ..

theorem writeProfile_link (k x : Byte) (v : Supplied) (s : State) : LinkKept s (writeProfile k x v s).2 := by
  unfold writeProfile
  split
  · exact .refl s
  · dsimp only
    split
    · exact .refl s
    · split
      · exact .refl s
      · exact ⟨rfl, rfl⟩

theorem bodyWriteProfile_answers (o : HostOwner) (payload : List Byte) (s : State) : Answers 0x31 s (bodyWriteProfile o payload s) := by
  unfold bodyWriteProfile
  split
  · split
    · exact answers_refuse ..
    · split
      · exact answers_refuse ..
      · exact answers_of _ _ (writeProfile_link ..)
  · exact answers_refuse ..

theorem bodyWriteXlate_answers (o : HostOwner) (payload : List Byte) (s : State) : Answers 0x32 s (bodyWriteXlate o payload s) := by
  unfold bodyWriteXlate
  split
  · split
    · exact answers_refuse ..
    · split
      · exact answers_refuse ..
      · split
        · split
          · exact answers_refuse ..
          · exact answers_of _ _ ⟨rfl, rfl⟩
        · exact answers_refuse ..
  · exact answers_refuse ..

theorem startWatching_sense (s : State) : SenseOnly s (startWatching s) := by
  unfold startWatching
  dsimp only
  split
  · exact (watchDegraded_sense s).trans (watchCritical_table _).sense
  · exact watchDegraded_sense s

theorem configure_link (s : State) : LinkKept s (configure s) := by
  have listed := (evalListing_table (· == .configDone) { s with hl := { s.hl with configured := true } }).link
  have timed (y : State) : LinkKept y { y with hl := { y.hl with supervised := true, runCount := 0, heartAt := some (y.now + heartPeriod) } } :=
    ⟨rfl, rfl⟩
  have begun : LinkKept s (evalListing (· == .configDone) { s with hl := { s.hl with configured := true } }) := ⟨listed.last, listed.shifted⟩
  exact (begun.trans (startWatching_sense _).link).trans (timed _)

theorem bodyConfigDone_answers (o : HostOwner) (payload : List Byte) (s : State) : Answers 0x33 s (bodyConfigDone o payload s) := by
  unfold bodyConfigDone
  split
  · split
    · exact answers_of _ _ (.refl s)
    · exact answers_of _ _ (configure_link s)
  · exact answers_refuse ..

theorem doorEvent_table (d : Door) (s : State) : TableOnly s (doorEvent d s) :=
  ((setFlag_table .door s).trans (evalListing_table _ _)).trans (evalInhibit_table _)

theorem rampEvent_table (s : State) : TableOnly s (rampEvent s) := (setFlag_table .door s).trans (evalListing_table _ _)

theorem sendUnknown_table (old : DoorLines) (s : State) : TableOnly s (sendUnknown old s) := by
  have doors : TableOnly s (forAll 4 (fun d s => if old.lines[d.val].door = .unknown then s else doorEvent d s) s) :=
    tableOnly_forAll _ (fun d x => by
      split
      · exact .refl x
      · exact doorEvent_table d x) s
  unfold sendUnknown
  dsimp only
  split
  · exact doors
  · exact doors.trans (rampEvent_table _)

theorem startSenseReset_link (s : State) : LinkKept s (startSenseReset s) := by
  have samples := (senseOnly_forAll resetSample resetSample_sense s).link
  have compared (y : State) := (setComparators_sense .below .below .below y).link
  have stepped (a : Angle) (y : State) : LinkKept y (stepAngle a AngleCounter.cleared y) := by
    have changed : LinkKept y (changeAngle a AngleCounter.cleared y) := by
      cases a
      · exact ⟨rfl, rfl⟩
      · exact ⟨rfl, rfl⟩
    unfold stepAngle
    dsimp only
    split
    · exact changed
    · exact changed.trans ((setFlag_table .sensor _).link.trans (watchDegraded_sense _).link)
  have cleared (y : State) : LinkKept y { y with sp := { y.sp with discards := 0 } } := ⟨rfl, rfl⟩
  unfold startSenseReset
  generalize forAll 21 resetSample s = u at samples ⊢
  exact (((samples.trans (cleared u)).trans (compared _)).trans (stepped _ _)).trans (stepped _ _)

theorem startReset_link (g : Group) (s : State) : LinkKept s (startReset g s) := by
  cases g with
  | brake => exact ⟨rfl, rfl⟩
  | level => exact ⟨rfl, rfl⟩
  | joint => exact ⟨rfl, rfl⟩
  | doors =>
    have kept (dl : DoorLines) (dt : Translator) : LinkKept s (sendUnknown s.dl { s with dl := dl, dt := dt }) := by
      have sent := (sendUnknown_table s.dl { s with dl := dl, dt := dt }).link
      exact ⟨sent.last, sent.shifted⟩
    unfold startReset startDoorsReset quietGroup
    exact kept _ _
  | sense => exact startSenseReset_link s

theorem resetGroup_link (g : Group) (time : Nat) (s : State) : LinkKept s (resetGroup g time s) := by
  unfold resetGroup
  dsimp only
  split
  · exact ⟨rfl, rfl⟩
  · have started := startReset_link g (setReset g (some (s.now + time * ms)) s)
    exact ⟨started.last, started.shifted⟩

theorem bodyResetGroup_answers (o : HostOwner) (payload : List Byte) (s : State) : Answers 0x40 s (bodyResetGroup o payload s) := by
  unfold bodyResetGroup
  split
  · split
    · exact answers_refuse ..
    · split
      · exact answers_refuse ..
      · split
        · exact answers_refuse ..
        · exact answers_of _ _ (resetGroup_link ..)
  · exact answers_refuse ..

theorem bodyResetAll_answers (o : HostOwner) (payload : List Byte) (s : State) (fast : 10 ≤ s.mc.speed) :
    Answers 0x41 s (bodyResetAll o payload s) := by
  unfold bodyResetAll
  split
  · rw [if_pos fast]
    exact answers_refuse ..
  · exact answers_refuse ..

/-- Every request answers, but RESET_ALL where it is taken (R173, R181). -/
theorem body_answers {c : Instr} {code : Byte} {acc : Accepts} {body : HostOwner → List Byte → State → State}
    (request : requestOfCommand c = some (code, acc, f)) (named : requestBody c = some body) (slow : code = 0x41 → 10 ≤ s.mc.speed)
    (o : HostOwner) (payload : List Byte) : Answers code s (body o payload s) := by
  cases c
  all_goals cases request
  all_goals cases named
  exacts [bodyPlace_answers .., bodyQuery_answers .., bodyFind_answers .., bodyList_answers .., bodyAmend_answers .., bodyRetire_answers ..,
    bodyRetireForce_answers .., readWhole_answers .., readIndexed_answers .., readIndexed_answers .., readWhole_answers ..,
    readIndexed_answers .., readIndexed_answers .., bodySetDoorRelease_answers .., bodyDoorCommand_answers .., bodySetMode_answers ..,
    bodyHeartbeat_answers .., bodyAckAttention_answers .., bodySetAttentionMask_answers .., bodyLastStatus_answers ..,
    bodyWriteParam_answers .., bodyWriteProfile_answers .., bodyWriteXlate_answers .., bodyConfigDone_answers ..,
    bodyResetGroup_answers .., bodyResetAll_answers o payload s (slow rfl)]

theorem crcByte_self (x : Byte) : crcByte x x = 0 := by
  unfold crcByte
  rw [BitVec.xor_self]
  decide

/-- The CRC over a frame with its CRC comes to 0 (section 10.8). -/
theorem crc8_frameOf (code : Byte) (st : Status) (payload : List Byte) : crc8 (frameOf code st payload) = 0 := by
  unfold frameOf
  dsimp only
  unfold crc8
  rw [List.foldl_append, List.foldl_cons, List.foldl_nil]
  exact crcByte_self _

/-- Settles O6: each body answers with a frame of its code, and so do the checks before it. -/
theorem everyRequestIsAnswered : Obligations.EveryRequestIsAnswered := by
  intro c code acc f s request live fits slow
  have short : f.payload.length ≤ 26 := of_decide_eq_true fits
  have answers : ∃ t, exec c s = .next t ∧ Answers code (s.taking f) t := by
    obtain ⟨body, named, run⟩ := exec_request request live
    rw [run]
    refine ⟨_, rfl, ?_⟩
    cases owner : readHostOwner f.owner with
    | none =>
      rw [serve_badOwner short owner]
      exact answers_refuse ..
    | some o =>
      cases takes : acc.takes o with
      | false =>
        rw [serve_notTaken short owner takes]
        exact answers_refuse ..
      | true =>
        rw [serve_taken short owner takes]
        exact body_answers (s := s.taking f) request named slow o f.payload
  obtain ⟨t, run, st, payload, x, rfl, kept⟩ := answers
  exact ⟨_, payload, run, kept.last, rfl, kept.shifted, rfl, frameOf_length .., crc8_frameOf ..⟩

/-! ### The payload's length (check 4 of R172) -/

/-- Reading `xs` has taken its first `k` bytes and left `ys`. -/
structure Takes (k : Nat) (xs ys : List Byte) : Prop where
  length : xs.length = k + ys.length
  rest   : ys = xs.drop k

theorem Takes.trans {j k : Nat} {xs ys zs : List Byte} (h : Takes j xs ys) (l : Takes k ys zs) : Takes (j + k) xs zs :=
  ⟨by rw [h.length, l.length, Nat.add_assoc], by rw [l.rest, h.rest, List.drop_drop]⟩

theorem optByte_takes {p : Bool} {xs ys : List Byte} {v : Option Byte} (h : optByte p xs = some (v, ys)) : Takes p.toNat xs ys := by
  unfold optByte at h
  split at h
  · rename_i given
    subst given
    split at h
    · cases h
      exact ⟨by simp [Nat.add_comm], rfl⟩
    · cases h
  · rename_i absent
    cases h
    rw [eq_false_of_ne_true absent]
    exact ⟨by simp, rfl⟩

theorem optPair_takes {p : Bool} {xs ys : List Byte} {v : Option (Byte × Byte)} (h : optPair p xs = some (v, ys)) :
    Takes (2 * p.toNat) xs ys := by
  unfold optPair at h
  split at h
  · rename_i given
    subst given
    split at h
    · cases h
      exact ⟨by simp +arith, rfl⟩
    · cases h
  · rename_i absent
    cases h
    rw [eq_false_of_ne_true absent]
    exact ⟨by simp, rfl⟩

theorem optList_takes {p : Bool} {xs ys : List Byte} {v : Option (List Byte)} (h : optList p xs = some (v, ys)) :
    Takes (listLength p 0 xs) xs ys := by
  unfold optList at h
  split at h
  · rename_i given
    subst given
    split at h
    · rename_i n rest
      split at h
      · rename_i enough
        cases h
        refine ⟨?_, ?_⟩
        · simp [listLength]
          omega
        · simp [listLength, Nat.add_comm 1]
      · cases h
    · cases h
  · rename_i absent
    cases h
    rw [eq_false_of_ne_true absent]
    exact ⟨by simp [listLength], rfl⟩

theorem readValues_takes {m : Nat} {xs ys : List Byte} {v : Supplied} (h : readValues m xs = some (v, ys)) : Takes (valuesLength m) xs ys := by
  unfold readValues at h
  simp only [Option.bind_eq_some_iff, Option.map_eq_some_iff, Prod.exists] at h
  obtain ⟨_, _, floor, _, _, ceiling, _, _, steer, _, _, offset, _, _, delay, _, _, swing, _, _, arm, same⟩ := h
  obtain ⟨_, rfl⟩ := Prod.mk.inj same
  exact (((((optPair_takes floor).trans (optPair_takes ceiling)).trans (optByte_takes steer)).trans (optByte_takes offset)).trans
    (optPair_takes delay)).trans (optPair_takes swing) |>.trans (optPair_takes arm)

/-- A list field is as long where it stands as its count byte says. -/
theorem listLength_drop (given : Bool) (n : Nat) (xs : List Byte) : listLength given 0 (xs.drop n) = listLength given n xs := by
  unfold listLength
  rw [List.getD_eq_getElem?_getD, List.getD_eq_getElem?_getD, List.getElem?_drop, Nat.add_zero]

theorem readPlaceFields_fits {k x a b : Byte} {rest : List Byte} {v : Supplied × Option (Option Handle)}
    (h : readPlaceFields (readU16 a b) rest = some v) : PayloadFits 0x01 (k :: x :: a :: b :: rest) := by
  unfold readPlaceFields at h
  simp only [Option.bind_eq_some_iff, Prod.exists] at h
  obtain ⟨_, _, values, _, _, scope, _, _, conds, _, _, parent, whole⟩ := h
  split at whole
  · rename_i ends
    rw [Bool.and_eq_true, List.isEmpty_iff, decide_eq_true_eq] at ends
    obtain ⟨rfl, small⟩ := ends
    have first := (readValues_takes values).trans (optByte_takes scope)
    have list := optList_takes conds
    have last := optPair_takes parent
    rw [first.rest, listLength_drop] at list
    refine ⟨k, x, a, b, rest, _, _, rfl, rfl, small, rfl, ?_⟩
    have taken := first.length
    rw [first.rest, list.length, last.length] at taken
    simpa [Nat.add_assoc, maskBit] using taken
  · cases whole

theorem readProfileFields_fits {k x a b : Byte} {rest : List Byte} {v : Supplied}
    (h : readProfileFields (readU16 a b) rest = some v) : PayloadFits 0x31 (k :: x :: a :: b :: rest) := by
  unfold readProfileFields at h
  simp only [Option.bind_eq_some_iff, Prod.exists] at h
  obtain ⟨_, _, values, _, _, conds, _, _, scope, whole⟩ := h
  split at whole
  · rename_i ends
    rw [Bool.and_eq_true, List.isEmpty_iff, decide_eq_true_eq] at ends
    obtain ⟨rfl, small⟩ := ends
    have first := readValues_takes values
    have list := optList_takes conds
    have last := optByte_takes scope
    rw [first.rest, listLength_drop] at list
    refine ⟨k, x, a, b, rest, _, _, rfl, rfl, small, rfl, ?_⟩
    have taken := first.length
    rw [first.rest, list.length, last.length] at taken
    simpa [Nat.add_assoc, maskBit] using taken
  · cases whole

/-- What the change of an AMEND entry takes of the bytes behind it. -/
theorem readChange_takes {code : Nat} {xs ys : List Byte} {c : Change} (h : readChange code xs = some (c, ys)) :
    8 < code ∨ (c ≠ .unknown ∧ Takes (if code ∈ [0, 1, 4, 5] then 2 else 1) xs ys) := by
  unfold readChange at h
  split at h
  case h_10 =>
    split at h
    · exact .inl (by assumption)
    · cases h
  all_goals
    cases h
    exact .inr ⟨nofun, by simp +arith, rfl⟩

theorem readEntries_fit : ∀ {n : Nat} {xs : List Byte} {es : List AmendEntry}, readEntries n xs = some es → EntriesFit n xs
  | 0, xs, es, h => by
    unfold readEntries at h
    split at h
    · rename_i empty
      exact List.isEmpty_iff.mp empty
    · cases h
  | n + 1, xs, es, h => by
    unfold readEntries at h
    split at h
    · rename_i a b c rest
      split at h
      · rename_i ys change
        have unread := (readChange_takes change).resolve_right fun named => named.1 rfl
        exact ⟨a, b, c, [], rest, rfl, .inl unread⟩
      · rename_i ys _ change
        obtain ⟨_, more, _⟩ := Option.map_eq_some_iff.mp h
        rcases readChange_takes change with unread | ⟨_, taken⟩
        · exact ⟨a, b, c, [], rest, rfl, .inl unread⟩
        · refine ⟨a, b, c, rest.take (if c.toNat ∈ [0, 1, 4, 5] then 2 else 1), ys, ?_, .inr ⟨?_, readEntries_fit more⟩⟩
          · rw [taken.rest, List.take_append_drop]
          · rw [List.length_take, taken.length]
            exact Nat.min_eq_left (Nat.le_add_right _ _)
      · cases h
    · cases h

/-- A body of a fixed length refuses any other. -/
theorem bodyPlace_unfit {payload : List Byte} (unfit : ¬ PayloadFits 0x01 payload) : bodyPlace o payload s = refuse 0x01 .badField s := by
  unfold bodyPlace
  split
  · split
    · rename_i fields
      exact absurd (readPlaceFields_fits fields) unfit
    · rfl
  · rfl

theorem bodyAmend_unfit {payload : List Byte} (unfit : ¬ PayloadFits 0x05 payload) : bodyAmend o payload s = refuse 0x05 .badField s := by
  unfold bodyAmend
  split
  · split
    · rfl
    · rename_i entries
      exact absurd ⟨_, _, rfl, readEntries_fit entries⟩ unfit
  · rfl

theorem bodyWriteProfile_unfit {payload : List Byte} (unfit : ¬ PayloadFits 0x31 payload) :
    bodyWriteProfile o payload s = refuse 0x31 .badField s := by
  unfold bodyWriteProfile
  split
  · split
    · rfl
    · rename_i fields
      exact absurd (readProfileFields_fits fields) unfit
  · rfl

theorem bodyWriteXlate_unfit {payload : List Byte} (unfit : ¬ PayloadFits 0x32 payload) : bodyWriteXlate o payload s = refuse 0x32 .badField s := by
  unfold bodyWriteXlate
  split
  · rename_i row x n rest
    exact if_pos fun fits => unfit ⟨row, x, n, rest, rfl, fits⟩
  · rfl

/-- A body refuses a payload that does not fit the fields of its request (R172, check 4). -/
theorem body_unfit {c : Instr} {code : Byte} {acc : Accepts} {body : HostOwner → List Byte → State → State}
    (request : requestOfCommand c = some (code, acc, f)) (named : requestBody c = some body) {payload : List Byte}
    (unfit : ¬ PayloadFits code payload) : body o payload s = refuse code .badField s := by
  cases c
  all_goals cases request
  all_goals cases named
  case place => exact bodyPlace_unfit unfit
  case amend => exact bodyAmend_unfit unfit
  case writeProfile => exact bodyWriteProfile_unfit unfit
  case writeXlate => exact bodyWriteXlate_unfit unfit
  all_goals
    change payload.length ≠ _ at unfit
    dsimp only [bodyQuery, bodyFind, bodyList, bodyRetire, bodyRetireForce, readWhole, readIndexed, bodySetDoorRelease, bodyDoorCommand,
      bodySetMode, bodyHeartbeat, bodyAckAttention, bodySetAttentionMask, bodyLastStatus, bodyWriteParam, bodyConfigDone, bodyResetGroup,
      bodyResetAll]
    split
    · exact absurd rfl unfit
    · rfl

/-! ### A transaction given by its bytes (R171, R172) -/

theorem readFrame_none {code : Byte} {tail bytes : List Byte} (head : bytes = code :: tail)
    (fails : bytes.length < 3 ∨ ∃ o n rest, bytes = code :: o :: n :: rest ∧
      (26 < n.toNat ∨ rest.length < n.toNat + 1 ∨ rest[n.toNat]? ≠ some (crc8 (bytes.take (n.toNat + 3))))) : readFrame bytes = none := by
  unfold readFrame
  split
  · rename_i c o n rest
    rcases fails with short | ⟨o', n', rest', same, wrong⟩
    · simp only [List.length_cons] at short
      omega
    · cases same
      rcases wrong with long | short | crc
      · rw [if_pos (by simp [maxPayload, long])]
      · rw [if_pos (by simp [short])]
      · split
        · rfl
        · rfl
  · rfl

theorem readFrame_sound {code o n : Byte} {rest : List Byte} (small : n.toNat ≤ 26)
    (crc : rest[n.toNat]? = some (crc8 ((code :: o :: n :: rest).take (n.toNat + 3)))) :
    readFrame (code :: o :: n :: rest) = some ⟨o, rest.take n.toNat, rest.length - n.toNat - 1⟩ := by
  have long := (List.getElem?_eq_some_iff.mp crc).1
  unfold readFrame
  dsimp only
  rw [if_neg (by rw [Bool.or_eq_true, decide_eq_true_eq, decide_eq_true_eq, maxPayload]; omega), if_pos crc]

theorem requestOf_unknown {n : Nat} (unknown : knownCodes.contains n = false) : requestOf n = none := by
  unfold requestOf
  split
  case h_27 => rfl
  all_goals cases unknown

/-- Settles O7: the checks stand before each body's own, and each body refuses a payload that its reader cannot read. -/
theorem frameAndOwnerChecks : Obligations.FrameAndOwnerChecks := by
  refine ⟨fun c code acc f s request live fits => ?_, fun bytes code tail s live head => ⟨fun fails => ?_, fun o n rest whole small crc unknown => ?_⟩⟩
  · have short : f.payload.length ≤ 26 := of_decide_eq_true fits
    obtain ⟨body, named, run⟩ := exec_request request live
    rw [run]
    refine ⟨fun big => ?_, fun o owner refused => ?_, fun o owner takes unfit => ?_⟩
    · have none' : readHostOwner f.owner = none := by
        unfold readHostOwner
        split
        case h_4 => rfl
        all_goals omega
      rw [serve_badOwner short none']
    · rw [serve_notTaken short owner refused]
    · rw [serve_taken short owner takes, body_unfit request named unfit]
      rfl
  · have taken : exec (.frameCheckFail bytes) s = .next (takeBytes bytes s) := running_next live
    have failed : takeBytes bytes s = failCheck code (takeRequest bytes.length s) := by
      unfold takeBytes
      rw [head]
      dsimp only
      rw [readFrame_none rfl (head ▸ fails)]
    rw [taken, failed]
    refine ⟨_, rfl, rfl, fun fl => ?_⟩
    exact setFlag_flag _ _ _
  · have taken : exec (.frameCheckFail bytes) s = .next (takeBytes bytes s) := running_next live
    have refused : takeBytes bytes s = refuse code .unknown (takeRequest bytes.length s) := by
      subst whole
      unfold takeBytes
      dsimp only
      rw [readFrame_sound small crc]
      dsimp only
      rw [requestOf_unknown unknown]
    rw [taken, refused]
    rfl

end Sys2Proof.Machine
end

section
/-! PROOFS. The reset input, RESET_ALL and the Host Link's own requests (O4, O5, O8). -/

namespace Sys2Proof.Machine

variable {s t : State} {f : HostFrame} {o : HostOwner}

/-! ### Valves quieted (R76) -/

theorem quiet_gen (now : Nat) (v : Valves) (g : GenId) : (v.quiet now).gen g = (v.gen g).quiet now := by
  cases g
  all_goals simp [Valves.quiet, Valves.gen, Pair.quiet]

/-! ### The reset input (R42, R76, R134, R153, R174) -/

theorem exec_held {c : Instr} (held : s.resetHeld = true) (powerOn : c ≠ .powerOn) (input : c ≠ .resetInput)
    (pins : ∀ a p, c ≠ .phaseTransition a p) : exec c s = .next s := by
  cases c
  case powerOn => exact absurd rfl powerOn
  case resetInput => exact absurd rfl input
  case phaseTransition a p => exact absurd rfl (pins a p)
  all_goals exact congrArg Host.Outcome.next (if_pos held)

theorem changeAngle_angle (a b : Angle) (g : AngleCounter → AngleCounter) (s : State) :
    (changeAngle a g s).angle b = if b = a then g (s.angle a) else s.angle b := by
  cases a <;> cases b <;> rfl

theorem changeAngle_mc (a : Angle) (g : AngleCounter → AngleCounter) (s : State) : changeAngle a g s =
    { s with mc := { s.mc with joint := (changeAngle a g s).mc.joint, actuator := (changeAngle a g s).mc.actuator } } := by
  cases a
  · rfl
  · rfl

/-- A line whose clock the reset input has taken low (R142, R153). -/
theorem heldInReset_eq (now : Nat) (l : Line) : l.heldInReset now = { l with
    clockLow := true
    dataLow := false
    minimumAt := if l.clockLow then l.minimumAt else some (now + 100)
    loss := if l.clockLow then l.loss else l.loss.pause now } := by
  unfold Line.heldInReset Line.takeLow
  cases low : l.clockLow with
  | true =>
    cases l
    cases low
    rfl
  | false => rfl

/-- Settles O4: while the input is held every command but three is disregarded, and the input writes the outputs alone. -/
theorem resetInputHolds : Obligations.ResetInputHolds := by
  refine ⟨fun c s held powerOn input pins => exec_held held powerOn input pins, fun a p s held => ?_, fun s => ?_⟩
  · have moved : exec (.phaseTransition a p) s = .next (changeAngle a (fun x => { x with phases := p }) s) :=
      congrArg Host.Outcome.next (if_pos (by rw [held]; rfl))
    refine ⟨_, moved, changeAngle_mc a _ s, ?_, fun b other => ?_⟩
    · rw [changeAngle_angle, if_pos rfl]
    · rw [changeAngle_angle, if_neg other]
  · refine ⟨holdReset s, rfl, rfl, fun g => ?_, fun d => ?_, rfl⟩
    · have gen : (holdReset s).gen g = (s.gen g).quiet s.now := quiet_gen s.now s.valves g
      rw [gen]
      rfl
    · have line : (holdReset s).line d = (s.line d).heldInReset s.now := mapAll_get s.dl.lines (fun _ l => l.heldInReset s.now) d
      rw [line, heldInReset_eq]

/-! ### RESET_ALL (R173, R181) -/

theorem allReset_fresh (s : State) : FreshBlocks s .resetAll s.hl.shifted s.allReset := by
  refine ⟨rfl, fun g => ?_⟩
  have gen : s.allReset.gen g = (s.gen g).quiet s.now := quiet_gen s.now s.valves g
  rw [gen]
  exact ⟨rfl, rfl, rfl⟩

/-- Settles O5: RESET_ALL writes every block's reset value, and refuses at speed. -/
theorem resetAllTaken : Obligations.ResetAllTaken := by
  intro s f o live owner host empty
  have short : f.payload.length ≤ 26 := by
    rw [empty]
    decide
  have takes : Accepts.hosts.takes o = true := by simpa [Accepts.takes] using host
  have run := exec_taken (c := .resetAll f) rfl rfl live short owner takes
  rw [run, empty]
  unfold bodyResetAll
  dsimp only
  refine ⟨fun slow => ?_, fun fast => ?_⟩
  · have slow' : ¬ 10 ≤ (s.taking f).mc.speed := Nat.not_le.mpr slow
    rw [if_neg slow']
    have fresh := allReset_fresh (s.taking f)
    refine ⟨_, rfl, fresh.resetValues, rfl, rfl, rfl, fresh.clocksReleased, fun g => ?_⟩
    have gen : (s.taking f).allReset.gen g = (s.gen g).quiet s.now := quiet_gen s.now s.valves g
    rw [gen]
    rfl
  · have fast' : 10 ≤ (s.taking f).mc.speed := fast
    rw [if_pos fast']
    rfl

/-! ### Attention, last status and device mode (R173 to R175, R178) -/

theorem readFlags_flagBytes (x : BitVec 11) : ∃ a b, flagBytes x = [a, b] ∧ readFlags a b = x := by
  refine ⟨_, _, rfl, ?_⟩
  have small := x.isLt
  refine BitVec.eq_of_toNat_eq ?_
  simp only [readFlags, readU16, b1, BitVec.toNat_ofNat]
  omega

theorem anyActive_iff (s : State) (k : Kind) : s.anyActive k = true ↔ ∃ i r, s.recordAt i = some r ∧ r.kind = k ∧ r.state = .active := by
  rw [State.anyActive, List.any_eq_true]
  constructor
  · rintro ⟨r, member, holds⟩
    obtain ⟨i, stands⟩ := mem_liveRecords_iff.mp member
    rw [Bool.and_eq_true, beq_iff_eq, beq_iff_eq] at holds
    exact ⟨i, r, stands, holds⟩
  · rintro ⟨i, r, stands, kind, active⟩
    exact ⟨r, mem_liveRecords_iff.mpr ⟨i, stands⟩, by rw [kind, active]; simp⟩

theorem exists_flag (i : Nat) (small : i < 11) : ∃ fl : Flag, fl.bit = i := by
  have all : ∀ i : Fin 11, ∃ fl ∈ [Flag.record, .recordTimeout, .door, .slip, .joint, .sensor, .air, .pedal, .kneel, .link, .reset], fl.bit = i.val := by
    decide
  obtain ⟨fl, _, same⟩ := all ⟨i, small⟩
  exact ⟨fl, same⟩

/-- R174. -/
theorem attentionActive_iff (s : State) : s.attentionActive = true ↔
    s.resetHeld = false ∧ ∃ fl : Flag, s.hl.flags.getLsbD fl.bit = true ∧ s.hl.mask.getLsbD fl.bit = true := by
  rw [State.attentionActive, Bool.and_eq_true, Bool.not_eq_true', bne_iff_ne]
  refine and_congr_right fun _ => ⟨fun some' => ?_, fun ⟨fl, set, enabled⟩ none' => ?_⟩
  · by_contra none'
    push Not at none'
    refine some' (BitVec.eq_of_getLsbD_eq fun i small => ?_)
    obtain ⟨fl, rfl⟩ := exists_flag i small
    rw [BitVec.getLsbD_and]
    cases set : s.hl.flags.getLsbD fl.bit with
    | false => simp
    | true => simpa using none' fl set
  · have bit := congrArg (BitVec.getLsbD · fl.bit) none'
    simp [set, enabled] at bit

/-- Settles O8. -/
theorem linkStateRequests : Obligations.LinkStateRequests := by
  refine ⟨fun s f o live owner => ⟨fun x payload => ?_, fun empty => ?_⟩, fun s f live owner => ?_, attentionActive_iff⟩
  · obtain ⟨a, b, bytes, read⟩ := readFlags_flagBytes x
    have short : f.payload.length ≤ 26 := by
      rw [payload, bytes]
      exact Nat.le_of_ble_eq_true rfl
    have ack := exec_taken (c := .ackAttention f) rfl rfl live short owner rfl
    have set := exec_taken (c := .setAttentionMask f) rfl rfl live short owner rfl
    rw [ack, set, payload, bytes, ← read]
    refine ⟨rfl, ?_⟩
    have same : flagBytes (readFlags a b) = [a, b] := by rw [read, bytes]
    have body : bodySetAttentionMask o [a, b] (s.taking f) = answer 0x25 .ok (flagBytes (readFlags a b))
      { s.taking f with hl := { (s.taking f).hl with mask := readFlags a b } } := rfl
    rw [body, same]
    rfl
  · have short : f.payload.length ≤ 26 := by
      rw [empty]
      decide
    have run := exec_taken (c := .lastStatus f) rfl rfl live short owner rfl
    rw [run, empty]
    rfl
  · have run := fun short => exec_taken (c := .setMode f) rfl rfl live short owner rfl
    have one (payload : f.payload = [1]) : exec (.setMode f) s = .next (bodySetMode .depot [1] (s.taking f)) := by
      rw [run (by rw [payload]; decide), payload]
    have zero (payload : f.payload = [0]) : exec (.setMode f) s = .next (bodySetMode .depot [0] (s.taking f)) := by
      rw [run (by rw [payload]; decide), payload]
    have service : (s.taking f).hl.service = s.hl.service := rfl
    have may : ((s.taking f).anyActive .serviceLock && (s.taking f).mc.stationary) = (s.anyActive .serviceLock && s.mc.stationary) := rfl
    refine ⟨fun payload run lock still => ?_, fun payload run barred => ?_, fun payload running => ?_, fun payload => ?_⟩
    · have may' : (s.anyActive .serviceLock && s.mc.stationary) = true := by
        rw [(anyActive_iff s .serviceLock).mpr lock, still]
        rfl
      rw [one payload]
      simp only [bodySetMode, service, run, may, may']
      rfl
    · have barred' : (s.anyActive .serviceLock && s.mc.stationary) = false := by
        rcases barred with moves | none'
        · rw [moves, Bool.and_false]
        · have lock : s.anyActive .serviceLock = false := by
            rw [← Bool.not_eq_true, anyActive_iff]
            exact fun ⟨i, r, stands, kind, active⟩ => none' i r stands kind active
          rw [lock, Bool.false_and]
      rw [one payload]
      simp only [bodySetMode, service, run, may, barred']
      rfl
    · rw [zero payload]
      simp only [bodySetMode, service, running]
      rfl
    · cases mode : s.hl.service with
      | true =>
        rw [mode] at payload
        rw [one payload]
        simp only [bodySetMode, service, mode]
        rfl
      | false =>
        rw [mode] at payload
        rw [zero payload]
        simp only [bodySetMode, service, mode]
        rfl

end Sys2Proof.Machine
end

section
/-! PROOFS. Reading, profile and cell writes, and the quiet group resets (O12, O13, O26). -/

namespace Sys2Proof.Machine

variable {s t : State} {f : HostFrame} {o : HostOwner}

/-! ### READ requests (R182) -/

theorem answerPage_eq (code : Byte) (image : List Byte) (page : Byte) (s : State) :
    answerPage code image page s =
      if page.toNat ≤ 3 ∧ 26 * page.toNat < image.length then answer code .ok ((image.drop (26 * page.toNat)).take 26) s
      else refuse code .badField s := by
  unfold answerPage pageOf
  split
  · rename_i there
    split at there
    · cases there
      rw [if_pos (by assumption)]
    · cases there
  · rename_i absent
    split at absent
    · cases absent
    · rw [if_neg (by assumption)]

/-- A request answered from an image is a reading of its pages. -/
theorem readsPages_of {c : Instr} {code page : Byte} {image : List Byte}
    (run : exec c s = .next (answerPage code image page (s.taking f))) : ReadsPages c code f s page.toNat image := by
  rw [answerPage_eq] at run
  constructor
  · intro few inside
    rw [run, if_pos ⟨few, inside⟩]
    rfl
  · intro beyond
    rw [run, if_neg (by omega)]
    rfl

/-- A request that names a page alone. -/
theorem reads_whole {c : Instr} {code page : Byte} {image : State → List Byte}
    (run : f.payload.length ≤ 26 → exec c s = .next (readWhole code image f.payload (s.taking f))) (payload : f.payload = [page])
    {bytes : List Byte} (same : image (s.taking f) = bytes) :
    ReadsPages c code f s page.toNat bytes := by
  subst same
  refine readsPages_of ?_
  rw [run (by rw [payload]; exact Nat.le_of_ble_eq_true rfl), payload]
  rfl

/-- A request that names an index and a page. -/
theorem reads_indexed {α : Type} {c : Instr} {code n page : Byte} {index : Byte → Option α} {image : State → α → List Byte} {x : α}
    (run : f.payload.length ≤ 26 → exec c s = .next (readIndexed code index image f.payload (s.taking f))) (payload : f.payload = [n, page])
    (named : index n = some x) {bytes : List Byte} (same : image (s.taking f) x = bytes) : ReadsPages c code f s page.toNat bytes := by
  subst same
  refine readsPages_of ?_
  rw [run (by rw [payload]; exact Nat.le_of_ble_eq_true rfl), payload]
  unfold readIndexed
  dsimp only
  rw [named]

theorem reads_none {α : Type} {c : Instr} {code n page : Byte} {index : Byte → Option α} {image : State → α → List Byte}
    (run : f.payload.length ≤ 26 → exec c s = .next (readIndexed code index image f.payload (s.taking f))) (payload : f.payload = [n, page])
    (named : index n = none) : exec c s = .next (answered f code .badField [] s) := by
  rw [run (by rw [payload]; exact Nat.le_of_ble_eq_true rfl), payload]
  unfold readIndexed
  dsimp only
  rw [named]
  rfl

theorem readCorner_b1 (c : Corner) : readCorner (b1 c.val) = some c := by
  revert c
  decide

theorem readChannel_b1 (ch : Channel) : readChannel (b1 ch.val) = some ch := by
  revert ch
  decide

theorem readDoor_b1 (d : Door) : readDoor (b1 (d.val + 1)) = some d := by
  revert d
  decide

theorem readCorner_none {n : Byte} (big : 6 ≤ n.toNat) : readCorner n = none := dif_neg (Nat.not_lt.mpr big)

theorem readChannel_none {n : Byte} (big : 21 ≤ n.toNat) : readChannel n = none := dif_neg (Nat.not_lt.mpr big)

theorem readDoor_none {n : Byte} (outside : n = 0 ∨ 5 ≤ n.toNat) : readDoor n = none := by
  refine dif_neg fun inside => ?_
  rcases outside with rfl | big
  · exact absurd inside.1 (by decide)
  · omega

/-- A floor is given as two bytes, and so is a value of no sign. -/
theorem s16_natCast (n : Nat) : s16 (n : Int) = u16 n := by
  unfold s16 u16 b1
  rw [BitVec.ofInt_natCast]
  refine congrArg₂ List.cons (BitVec.eq_of_toNat_eq ?_) (congrArg₂ List.cons (BitVec.eq_of_toNat_eq ?_) rfl)
  · simp only [BitVec.toNat_ofNat]
    omega
  · simp only [BitVec.toNat_ofNat]
    omega

theorem floors_bytes (v : Vector Nat 3) :
    ((v.toList.map fun (a : Nat) => (a : Int)).flatMap fun f => s16 f) = u16 v[0] ++ u16 v[1] ++ u16 v[2] := by
  have three : v.toList = [v[0], v[1], v[2]] := by
    obtain ⟨⟨xs⟩, size⟩ := v
    match xs, size with
    | [a, b, c], _ => rfl
  rw [three]
  simp [s16_natCast]

/-- What the one page of READ_ENVELOPE holds (R43). -/
theorem envelopeImage_eq (s : State) : envelopeImage s =
    u16 s.eu.env.floors[0] ++ u16 s.eu.env.floors[1] ++ u16 s.eu.env.floors[2] ++ u16 s.eu.env.ceiling
      ++ [b1 s.eu.env.steer] ++ s.eu.env.offsets.toList.map (BitVec.ofInt 8) ++ [b1 s.eu.env.damping]
      ++ [if s.eu.env.kneel then 0 else 1] ++ u16 s.eu.seq.toNat ++ [if s.eu.inhibit then 1 else 0] := by
  have floors : ((do let a ← s.eu.env.floors.toList; pure (a : Int)) : List Int) = s.eu.env.floors.toList.map fun (a : Nat) => (a : Int) := by
    show (s.eu.env.floors.toList.flatMap fun (a : Nat) => [(a : Int)]) = _
    exact (List.map_eq_flatMap ..).symm
  have offsets : s.eu.env.offsets.toList.flatMap s8 = s.eu.env.offsets.toList.map (BitVec.ofInt 8) := (List.map_eq_flatMap ..).symm
  have kneel : u8 (presenceCode s.eu.env.kneel) = [if s.eu.env.kneel then 0 else 1] := by cases s.eu.env.kneel <;> rfl
  have inhibit : yes s.eu.inhibit = [if s.eu.inhibit then 1 else 0] := by cases s.eu.inhibit <;> rfl
  unfold envelopeImage
  dsimp only
  rw [floors, floors_bytes, s16_natCast, offsets, kneel, inhibit]
  rfl

/-- Settles O26. -/
theorem readRequests : Obligations.ReadRequests := by
  intro s f o page live owner
  refine ⟨fun payload => ⟨?_, ?_⟩, fun n payload => ⟨fun c index => ⟨?_, ?_⟩, fun big => ⟨?_, ?_⟩, fun d index => ?_, fun outside => ?_,
    fun ch index => ?_, fun big => ?_⟩⟩
  · exact reads_whole (fun short => exec_taken (c := .readEnvelope f) rfl rfl live short owner rfl) payload (envelopeImage_eq s)
  · exact reads_whole (fun short => exec_taken (c := .readJoint f) rfl rfl live short owner rfl) payload rfl
  · exact reads_indexed (fun short => exec_taken (c := .readBrake f) rfl rfl live short owner rfl) payload (index ▸ readCorner_b1 c) rfl
  · exact reads_indexed (fun short => exec_taken (c := .readCorner f) rfl rfl live short owner rfl) payload (index ▸ readCorner_b1 c) rfl
  · exact reads_none (fun short => exec_taken (c := .readBrake f) rfl rfl live short owner rfl) payload (readCorner_none big)
  · exact reads_none (fun short => exec_taken (c := .readCorner f) rfl rfl live short owner rfl) payload (readCorner_none big)
  · exact reads_indexed (fun short => exec_taken (c := .readDoor f) rfl rfl live short owner rfl) payload (index ▸ readDoor_b1 d) rfl
  · exact reads_none (fun short => exec_taken (c := .readDoor f) rfl rfl live short owner rfl) payload (readDoor_none outside)
  · exact reads_indexed (fun short => exec_taken (c := .readSample f) rfl rfl live short owner rfl) payload (index ▸ readChannel_b1 ch) rfl
  · exact reads_none (fun short => exec_taken (c := .readSample f) rfl rfl live short owner rfl) payload (readChannel_none big)

/-! ### WRITE_PROFILE (R4, R177) -/

theorem configurable_eq (s : State) : s.configurable = (!s.hl.configured || s.hl.service) := rfl

theorem bodyWriteProfile_eq {kb xb a b : Byte} {rest : List Byte} {v : Supplied} (fields : readProfileFields (readU16 a b) rest = some v) :
    bodyWriteProfile o (kb :: xb :: a :: b :: rest) s =
      if !s.configurable then refuse 0x31 .badState s
      else answer 0x31 (writeProfile kb xb v s).1 [] (writeProfile kb xb v s).2 := by
  unfold bodyWriteProfile
  dsimp only
  rw [fields]

theorem writeProfile_refused {kb xb : Byte} {k : Kind} {v : Supplied} (kind : readKind kb = some k)
    (wrong : k = .startHold ∨ (k = .kneel ∧ readVariant xb = none) ∨ suppliedOk (s.profile k) v = false) :
    writeProfile kb xb v s = (.badField, s) := by
  unfold writeProfile
  rw [kind]
  dsimp only
  split
  · rfl
  · rename_i right
    have lacks : suppliedOk (s.profile k) v = false := by
      rcases wrong with start | variant | lacks
      · exact absurd (.inl start) right
      · exact absurd (.inr variant) right
      · exact lacks
    rw [if_pos (by rw [lacks]; rfl)]

theorem writeProfile_taken {kb xb : Byte} {k : Kind} {v : Supplied} (kind : readKind kb = some k) (start : k ≠ .startHold)
    (variant : k = .kneel → readVariant xb ≠ none) (has : suppliedOk (s.profile k) v = true) :
    writeProfile kb xb v s =
      (if anyClamped v then .clamped else .ok, setProfile k ((s.profile k).written k ((readVariant xb).getD none) v) s) := by
  unfold writeProfile
  rw [kind]
  dsimp only
  rw [if_neg (not_or.mpr ⟨start, fun ⟨kneel, none'⟩ => variant kneel none'⟩), if_neg (by rw [has]; decide)]

theorem readVariant_side (xb : Byte) : (readVariant xb).getD none = some .side ↔ readVariant xb = some (some .side) := by
  cases readVariant xb with
  | none => simp
  | some y => simp

/-- The values that a write gives a row (R4). -/
theorem Profile.written_values (row : Profile) (k : Kind) (x : Option Variant) (v : Supplied) (side : Bool)
    (named : side = decide (k = .kneel ∧ x = some .side)) :
    (row.written k x v).floor = (match v.floor with | some n => some (clamp n 0 800).toNat | none => row.floor) ∧
    (row.written k x v).ceiling = (match v.ceiling with | some n => some (clamp n 0 800).toNat | none => row.ceiling) ∧
    (row.written k x v).steer = (match v.steer with | some n => some (clamp n 0 140).toNat | none => row.steer) ∧
    (row.written k x v).offset = (match v.offset with | some n => some (clamp n (-90) 0) | none => row.offset) ∧
    (row.written k x v).delay = (match v.delay with | some n => (clamp n 0 5000).toNat | none => row.delay) ∧
    (row.written k x v).swing = (match v.swing with | some n => some (clamp n 0 300).toNat | none => row.swing) ∧
    (row.written k x v).armTimeout = (match v.armTimeout with | some n => (clamp n 0 60000).toNat | none => row.armTimeout) ∧
    (row.written k x v).conds = (match v.conds with
      | some cs => ((mergeConds cs).getD []).map ProfileCond.fixed
      | none => row.conds) ∧
    (row.written k x v).damping = row.damping ∧
    (row.written k x v).scope = (if side then row.scope else v.scope.getD row.scope) ∧
    (row.written k x v).scopeSide = (if side then v.scope.getD row.scopeSide else row.scopeSide) := by
  have same : (decide (k = .kneel) && x == some .side) = side := by
    rw [named, Bool.eq_iff_iff]
    simp
  unfold Profile.written
  dsimp only
  rw [same]
  refine ⟨?_, ?_, ?_, ?_, ?_, ?_, ?_, ?_, rfl, rfl, rfl⟩
  · cases v.floor <;> rfl
  · cases v.ceiling <;> rfl
  · cases v.steer <;> rfl
  · cases v.offset <;> rfl
  · cases v.delay <;> rfl
  · cases v.swing <;> rfl
  · cases v.armTimeout <;> rfl
  · cases v.conds <;> rfl

/-! ### WRITE_XLATE (R168, R177) -/

theorem bodyWriteXlate_barred {row x n : Byte} {rest : List Byte} (whole : rest.length = 3 * n.toNat) (barred : s.configurable = false) :
    bodyWriteXlate o (row :: x :: n :: rest) s = refuse 0x32 .badState s := by
  unfold bodyWriteXlate
  dsimp only
  rw [if_neg (not_not_intro whole), if_pos (by rw [barred]; rfl)]

theorem bodyWriteXlate_refused {row x n : Byte} {rest : List Byte} (whole : rest.length = 3 * n.toNat) (ready : s.configurable = true)
    (wrong : row = 127 ∨ readContext x = none ∨ 2 < n.toNat ∨ readActions rest = none) :
    bodyWriteXlate o (row :: x :: n :: rest) s = refuse 0x32 .badField s := by
  unfold bodyWriteXlate
  dsimp only
  rw [if_neg (not_not_intro whole), if_neg (by rw [ready]; decide)]
  split
  · rename_i context actions
    rcases wrong with barred | beyond | many | unread
    · exact if_pos (.inl barred)
    · cases beyond.symm.trans context
    · exact if_pos (.inr many)
    · cases unread.symm.trans actions
  · rfl

theorem bodyWriteXlate_taken {row x n : Byte} {rest : List Byte} {y : Context} {actions : List Action} (whole : rest.length = 3 * n.toNat)
    (ready : s.configurable = true) (named : row ≠ 127) (context : readContext x = some y) (few : n.toNat ≤ 2)
    (read : readActions rest = some actions) :
    bodyWriteXlate o (row :: x :: n :: rest) s = answer 0x32 .ok [] (setCell row.toFin y actions s) := by
  unfold bodyWriteXlate
  dsimp only
  rw [if_neg (not_not_intro whole), if_neg (by rw [ready]; decide), context, read]
  exact if_neg (not_or.mpr ⟨named, Nat.not_lt.mpr few⟩)

theorem readContext_b1 (y : Context) : readContext (b1 y.index.val) = some y := by
  cases y
  all_goals decide

theorem readContext_none {x : Byte} (big : 4 ≤ x.toNat) : readContext x = none := List.getElem?_eq_none big

/-- A cell's place names its row and its context. -/
theorem cellPlace_inj {r r' : Fin 256} {y z : Context} (same : r.val * 4 + y.index.val = r'.val * 4 + z.index.val) : r = r' ∧ y = z := by
  have index (same : y.index.val = z.index.val) : y = z :=
    Option.some.inj ((readContext_b1 y).symm.trans ((congrArg (fun n => readContext (b1 n)) same).trans (readContext_b1 z)))
  have hy := y.index.isLt
  have hz := z.index.isLt
  exact ⟨Fin.ext (by omega), index (by omega)⟩

theorem cellAt_setCell (row : Fin 256) (y : Context) (actions : List Action) (r : Fin 256) (z : Context) (s : State) :
    cellAt (setCell row y actions s) r z = if r = row ∧ z = y then actions else cellAt s r z := by
  have hr := r.isLt
  have hz := z.index.isLt
  have hrow := row.isLt
  have hy := y.index.isLt
  have get := upd_get s.dt.cells ⟨row.val * 4 + y.index.val, by omega⟩ ⟨r.val * 4 + z.index.val, by omega⟩ (fun _ => actions)
  refine get.trans ?_
  by_cases here : r = row ∧ z = y
  · obtain ⟨rfl, rfl⟩ := here
    rw [if_pos rfl, if_pos ⟨rfl, rfl⟩]
  · rw [if_neg here, if_neg fun same => here ?_]
    · rfl
    · obtain ⟨rows, contexts⟩ := cellPlace_inj (Fin.mk.inj same)
      exact ⟨rows.symm, contexts.symm⟩

/-- Settles O12. -/
theorem profileAndCellWrites : Obligations.ProfileAndCellWrites := by
  intro s f o ready live owner fits ready_eq
  have short : f.payload.length ≤ 26 := of_decide_eq_true fits
  have may : (s.taking f).configurable = ready := ready_eq.symm
  refine ⟨fun kb xb a b rest payload => ?_, fun row x n rest payload => ?_⟩
  · have run := exec_taken (c := .writeProfile f) rfl rfl live short owner rfl
    rw [payload] at run
    refine ⟨fun unread => ?_, fun v fields => ?_⟩
    · rw [run]
      unfold bodyWriteProfile
      dsimp only
      rw [unread]
      rfl
    · rw [bodyWriteProfile_eq fields, may] at run
      have profile (k : Kind) : (s.taking f).profile k = s.profile k := rfl
      refine ⟨fun not' => ?_, fun is kind => ?_, fun k is kind => ⟨fun wrong => ?_, fun start variant has => ?_⟩⟩
      · rw [run, not']
        rfl
      · rw [run, is]
        unfold writeProfile
        rw [kind]
        rfl
      · rw [run, is, writeProfile_refused kind (profile k ▸ wrong)]
        rfl
      · rw [is, writeProfile_taken kind start variant (by rw [profile]; exact has), profile] at run
        have side := Profile.written_values (s.profile k) k ((readVariant xb).getD none) v _ rfl
        refine ⟨_, _, run, ?_, side⟩
        exact decide_eq_decide.mpr (and_congr_right fun _ => readVariant_side xb)
  · have run := exec_taken (c := .writeXlate f) rfl rfl live short owner rfl
    rw [payload] at run
    refine ⟨fun other => ?_, fun whole => ?_⟩
    · rw [run]
      exact congrArg Host.Outcome.next (if_pos other)
    · refine ⟨fun not' => ?_, fun is wrong => ?_, fun y actions is named context few read => ?_⟩
      · rw [run, bodyWriteXlate_barred whole (may.trans not')]
        rfl
      · have wrong' : row = 127 ∨ readContext x = none ∨ 2 < n.toNat ∨ readActions rest = none :=
          wrong.imp_right (Or.imp_left readContext_none)
        rw [run, bodyWriteXlate_refused whole (may.trans is) wrong']
        rfl
      · rw [bodyWriteXlate_taken whole (may.trans is) named (context ▸ readContext_b1 y) few read] at run
        refine ⟨setCell row.toFin y actions s, run, rfl, ?_, fun r z other => ?_⟩
        · rw [cellAt_setCell, if_pos ⟨rfl, rfl⟩]
        · rw [cellAt_setCell, if_neg (fun same => other.elim (absurd same.1) (absurd same.2))]

end Sys2Proof.Machine
end

section
/-! PROOFS. The starts of the group resets (O13, O14). -/

namespace Sys2Proof.Machine

variable {s t : State} {f : HostFrame} {o : HostOwner} {time : Nat}

/-! ### The request RESET_GROUP (R180) -/

/-- RESET_GROUP as a payload of section 10.8 carries it. -/
theorem exec_resetGroup {g : Group} {n : Byte} (live : s.resetHeld = false) (owner : FrameOwner f o) (host : o ≠ .none) (low : 1 ≤ time)
    (high : time ≤ 255) (payload : f.payload = [n, 0, b1 time]) (named : readGroup n = some g) :
    exec (.resetGroup f) s = .next (if g = .brake ∧ 10 ≤ s.mc.speed then answered f 0x40 .badState [] s
      else answer 0x40 .ok [] (resetGroup g time (s.taking f))) := by
  have fits : f.payload.length ≤ 26 := by rw [payload]; exact Nat.le_of_ble_eq_true rfl
  have takes : Accepts.hosts.takes o = true := bne_iff_ne.mpr host
  have count : readU16 0 (b1 time) = time := by
    simp [readU16, b1, BitVec.toNat_ofNat]
    omega
  have inRange : ¬ (time = 0 ∨ 255 < time) := by omega
  rw [exec_taken (c := .resetGroup f) rfl rfl live fits owner takes, payload]
  unfold bodyResetGroup
  dsimp only
  rw [named, count]
  dsimp only
  rw [if_neg inRange]
  rfl

theorem readGroup_index (g : Group) : readGroup (b1 (Group.index g).val) = some g := by cases g <;> rfl

theorem resetGroup_running {g : Group} (running : s.inReset g = true) :
    resetGroup g time s = setReset g (some (s.now + time * ms)) s := if_pos running

theorem resetGroup_starts {g : Group} (still : s.inReset g = false) :
    resetGroup g time s = startReset g (setReset g (some (s.now + time * ms)) s) := if_neg (by rw [still]; exact Bool.false_ne_true)

theorem setReset_inReset (g : Group) (n : Nat) (s : State) : (setReset g (some n) s).inReset g = true := by
  simp [State.inReset, setReset]

theorem startReset_brake (s : State) : startReset .brake s = { s with
    valves := { s.valves with brake := mapAll s.valves.brake fun _ p => p.quiet s.now }
    bc := { s.bc with
      disagreement := false
      axles := mapAll s.bc.axles fun _ x => { x with lastFree := none, latch := none }
      channels := mapAll s.bc.channels fun _ x => x.hold } } := rfl

theorem startReset_joint (s : State) : startReset .joint s = { s with
    valves := { s.valves with steer := s.valves.steer.quiet s.now, damping := s.valves.damping.quiet s.now }
    js := { s.js with target := 0, command := 0, locked := true, engaged := true, previous := none } } := rfl

/-- Settles O13. -/
theorem resetGroupStarts : Obligations.ResetGroupStarts := by
  intro s f o time live owner host low high
  refine ⟨fun payload slow still => ?_, fun payload fast => ?_, fun payload still => ?_, fun g payload running brake => ?_⟩
  · have run := exec_resetGroup (g := .brake) live owner host low high payload rfl
    rw [if_neg fun h => Nat.not_le.mpr slow h.2, resetGroup_starts (s := s.taking f) still, startReset_brake] at run
    dsimp only [answer, setReset, State.taking, takeRequest, transact] at run
    refine ⟨_, run, rfl, rfl, fun c => ?_, fun a => ?_, rfl, rfl, rfl, rfl, rfl, rfl, rfl, rfl, rfl, rfl, rfl, rfl, rfl, rfl⟩
    · simp [BrakeChannel.hold, State.gen, Valves.gen, Pair.quiet, Generator.quiet, freshGenerator]
    · simp
  · have run := exec_resetGroup (g := .brake) live owner host low high payload rfl
    rwa [if_pos ⟨rfl, fast⟩] at run
  · have run := exec_resetGroup (g := .joint) live owner host low high payload rfl
    rw [if_neg (fun h => nomatch h.1), resetGroup_starts (s := s.taking f) still, startReset_joint] at run
    dsimp only [answer, setReset, State.taking, takeRequest, transact] at run
    exact ⟨_, run, rfl, rfl, rfl, rfl, rfl, rfl, rfl, rfl, rfl, rfl, rfl, rfl, rfl, rfl, rfl, rfl, rfl, rfl, rfl, rfl, rfl, rfl, rfl⟩
  · have run := exec_resetGroup live owner host low high payload (readGroup_index g)
    rw [if_neg fun h => Nat.not_le.mpr (brake h.1) h.2, resetGroup_running (s := s.taking f) running] at run
    exact run

/-! ### Flags and records across a start -/

/-- A flag that is set stays set (R174). -/
theorem setFlag_stays {fl g : Flag} (set : s.flag fl = true) : (setFlag g s).flag fl = true := by
  rw [setFlag_flag, set, Bool.or_true]

theorem formEnvelope_hl (s : State) : (formEnvelope s).hl = s.hl := by
  unfold formEnvelope
  dsimp only
  refine (sendOffsets_only _ _ _).hl.trans ?_
  split <;> rfl

theorem noticeRising_hl (i : Slot) (r : Record) (s : State) : (noticeRising i r s).hl = s.hl := by
  unfold noticeRising enterRising
  dsimp only
  repeat' split
  all_goals rfl

theorem evaluate_flag {fl : Flag} (forced : List Slot) (n : Nat) (i : Slot) (set : s.flag fl = true) : (evaluate forced n i s).flag fl = true :=
  evaluate_invariant (P := fun x => x.flag fl = true)
    (fun i r x hx => (congrArg (fun hl : HostLink => hl.flags.getLsbD fl.bit) ((noticeRising_hl i r _).trans (formEnvelope_hl _))).trans hx)
    (fun i r x hx => by
      have ended (y : State) (hy : y.flag fl = true) : (endService r.kind y).flag fl = true := by
        unfold endService
        split
        · exact hy
        · exact hy
      exact (congrArg (fun hl : HostLink => hl.flags.getLsbD fl.bit) (formEnvelope_hl _)).trans (ended _ (setFlag_stays (g := .record) hx)))
    (fun i x hx => (congrArg (fun hl : HostLink => hl.flags.getLsbD fl.bit) (formEnvelope_hl (changeRecord i Record.reactivate x))).trans hx)
    forced n i s set

theorem evalListing_flag {fl : Flag} (p : Cond → Bool) (set : s.flag fl = true) : (evalListing p s).flag fl = true :=
  foldl_rel (fun x y : State => x.flag fl = true → y.flag fl = true) (fun _ => id) (fun h k => k ∘ h) _
    (fun _ i hx => evaluate_flag [] evalDepth i hx) (listing s p) s set

theorem doorEvent_flag {fl : Flag} (d : Door) (set : s.flag fl = true) : (doorEvent d s).flag fl = true :=
  evalListing_flag (fun c => c == .doorLocked d || c == .allDoorsLocked) (setFlag_stays (g := .door) set)

theorem doorEvent_sets (d : Door) (s : State) : (doorEvent d s).flag .door = true :=
  evalListing_flag (s := setFlag .door s) (fun c => c == .doorLocked d || c == .allDoorsLocked) (by rw [setFlag_flag]; rfl)

theorem rampEvent_flag {fl : Flag} (set : s.flag fl = true) : (rampEvent s).flag fl = true := evalListing_flag _ (setFlag_stays (g := .door) set)

/-- Where a door's state has changed, the start of the reset sets DOOR. -/
theorem sendUnknown_sets {old : DoorLines} {d : Door} (known : old.lines[d.val].door ≠ .unknown) (s : State) :
    (sendUnknown old s).flag .door = true := by
  have sent : (forAll 4 (sendDoorUnknown old) s).flag .door = true :=
    foldl_establishes (I := fun _ => True) (P := fun x : State => x.flag .door = true) (fun _ _ _ => trivial)
      (fun x e hx => by
        unfold sendDoorUnknown
        split
        · exact hx
        · exact doorEvent_flag e hx)
      (fun x _ => by
        rw [sendDoorUnknown, if_neg known]
        exact doorEvent_sets d x) _ s trivial (List.mem_finRange d)
  rw [sendUnknown_eq]
  split
  · exact sent
  · exact rampEvent_flag sent

theorem sendUnknown_inhibits {old : DoorLines} {d : Door} (known : old.lines[d.val].door ≠ .unknown) (live : s.resetHeld = false)
    (unknown : (s.line d).door = .unknown) : (sendUnknown old s).eu.inhibit = true := by
  have current := (sendUnknown_inhibitCurrent (s := s) old live fun all => absurd (all d) known).2
  rw [current, (sendUnknown_table old s).dl]
  exact inhibitCalled_of_not_locked d (fun locked => by rw [State.line] at unknown; rw [unknown] at locked; cases locked) _ _

/-! ### Sampling while PLAUS does not watch (R62) -/

/-- The records and the envelope stand, and so does the configuration state. -/
structure RecordsKept (s t : State) : Prop where
  rt         : t.rt = s.rt
  eu         : t.eu = s.eu
  configured : t.hl.configured = s.hl.configured

theorem RecordsKept.refl (s : State) : RecordsKept s s := ⟨rfl, rfl, rfl⟩

theorem RecordsKept.trans {u : State} (h : RecordsKept s t) (k : RecordsKept t u) : RecordsKept s u :=
  ⟨k.rt.trans h.rt, k.eu.trans h.eu, k.configured.trans h.configured⟩

theorem LevelOnly.recordsKept (h : LevelOnly s t) : RecordsKept s t := ⟨h.rt, h.eu, congrArg _ h.hl⟩

theorem watchDegraded_off (off : s.hl.configured = false) : watchDegraded s = s := if_pos (by rw [off]; rfl)

theorem watchCritical_off (off : s.hl.configured = false) : watchCritical s = s := if_pos (by rw [off]; rfl)

theorem setFlagIf_recordsKept (b : Bool) (fl : Flag) (s : State) : RecordsKept s (setFlagIf b fl s) := by
  unfold setFlagIf
  split
  · exact ⟨rfl, rfl, rfl⟩
  · exact .refl s

theorem setComparators_recordsKept (r l c : Level) (off : s.hl.configured = false) : RecordsKept s (setComparators r l c s) := by
  have read : RecordsKept s { s with sp := { s.sp with reserve := r, low := l, critical := c } } := ⟨rfl, rfl, rfl⟩
  have told (y : State) : RecordsKept y (if r = s.sp.reserve then y else reserveEvent r y) := by
    split
    · exact .refl y
    · exact (reserveEvent_only r y).recordsKept
  have kept := (read.trans (setFlagIf_recordsKept (r != s.sp.reserve || l != s.sp.low || c != s.sp.critical) .air _)).trans (told _)
  unfold setComparators
  dsimp only
  split
  · exact kept
  · rw [watchCritical_off (kept.configured.trans off)]
    exact kept

theorem meetHeight_recordsKept (c : Corner) (x : SampleState) (s : State) : RecordsKept s (meetHeight c x s) := by
  unfold meetHeight
  split
  · split
    · exact (declareDegraded_only c s).recordsKept
    · exact (beginStrobe_only c s).recordsKept
  · exact (declareDegraded_only c s).recordsKept
  · exact ⟨rfl, rfl, rfl⟩
  · exact .refl s

theorem heightState_recordsKept (c : Corner) (x : SampleState) (s : State) : RecordsKept s (heightState c x s) := by
  unfold heightState
  split
  · exact .refl s
  · exact meetHeight_recordsKept c x s

theorem setSampleState_recordsKept (ch : Channel) (x : SampleState) (off : s.hl.configured = false) :
    RecordsKept s (setSampleState ch x s) := by
  have heights (y : State) : RecordsKept y (if h : 12 ≤ ch.val ∧ ch.val < 18 then heightState ⟨ch.val - 12, by omega⟩ x y else y) := by
    split
    · exact heightState_recordsKept ..
    · exact .refl y
  have reservoir (y : State) (hy : y.hl.configured = false) :
      RecordsKept y (if ch.val = 20 && x != .valid then setComparators .below y.sp.low y.sp.critical y else y) := by
    split
    · exact setComparators_recordsKept _ _ _ hy
    · exact .refl y
  have flagged : RecordsKept s (setFlag .sensor (changeSample ch (fun r => { r with state := x }) s)) := ⟨rfl, rfl, rfl⟩
  have told := flagged.trans (heights _)
  have kept := told.trans (reservoir _ (told.configured.trans off))
  unfold setSampleState sampleStateChanged
  split
  · exact .refl s
  · dsimp only
    rw [watchDegraded_off (kept.configured.trans off)]
    exact kept

theorem stepAngle_recordsKept (a : Angle) (g : AngleCounter → AngleCounter) (off : s.hl.configured = false) :
    RecordsKept s (stepAngle a g s) := by
  have changed : RecordsKept s (changeAngle a g s) := by cases a <;> exact ⟨rfl, rfl, rfl⟩
  unfold stepAngle
  dsimp only
  split
  · exact changed
  · rw [watchDegraded_off (s := setFlag .sensor (changeAngle a g s)) (changed.configured.trans off)]
    exact changed.trans ⟨rfl, rfl, rfl⟩

/-! ### What sampling does to the Sense Port -/

theorem setComparators_sp (r l c : Level) (s : State) : (setComparators r l c s).sp = { s.sp with reserve := r, low := l, critical := c } := by
  have told (y : State) : (if r = s.sp.reserve then y else reserveEvent r y).sp = y.sp := by
    split
    · rfl
    · exact (reserveEvent_only r y).sp
  have watched (y : State) : (if c = s.sp.critical then y else watchCritical y).sp = y.sp := by
    split
    · rfl
    · exact (watchCritical_table y).sp
  exact (watched _).trans ((told _).trans (setFlagIf_table _ _ _).sp)

theorem watchDegraded_sp (s : State) : (watchDegraded s).sp = s.sp := by
  obtain ⟨x, table⟩ := watchDegraded_table s
  exact table.sp

theorem watchDegraded_mc (s : State) : (watchDegraded s).mc = s.mc := (watchDegraded_sense s).mc

theorem heightState_sp (c : Corner) (x : SampleState) (s : State) : (heightState c x s).sp = s.sp := by
  unfold heightState
  split
  · rfl
  · exact (meetHeight_table c x s).sp

/-- A change of a sample record's state reaches the comparators at most, and no record. -/
theorem sampleStateChanged_sp (ch : Channel) (x : SampleState) (s : State) :
    (sampleStateChanged ch x s).sp = { s.sp with reserve := if ch.val = 20 && x != .valid then .below else s.sp.reserve } := by
  have heights (y : State) : (if h : 12 ≤ ch.val ∧ ch.val < 18 then heightState ⟨ch.val - 12, by omega⟩ x y else y).sp = y.sp := by
    split
    · exact heightState_sp ..
    · rfl
  have reservoir (y : State) (hy : y.sp = s.sp) : (if ch.val = 20 && x != .valid then setComparators .below y.sp.low y.sp.critical y else y).sp =
      { s.sp with reserve := if ch.val = 20 && x != .valid then .below else s.sp.reserve } := by
    split
    · rw [setComparators_sp, hy]
    · exact hy
  exact (watchDegraded_sp _).trans (reservoir _ (heights (setFlag .sensor s)))

theorem setSampleState_samples (ch : Channel) (x : SampleState) (s : State) :
    (setSampleState ch x s).sp.samples = upd s.sp.samples ch fun r => { r with state := x } := by
  unfold setSampleState
  split
  · rename_i same
    exact (upd_fixed (by rw [← same]; rfl)).symm
  · rw [sampleStateChanged_sp]
    rfl

theorem resetSample_sample (ch y : Channel) (s : State) : (resetSample ch s).sample y = if ch = y then ⟨0, .stale, none⟩ else s.sample y := by
  unfold State.sample resetSample
  rw [setSampleState_samples, upd_get]
  split
  · rw [changeSample, upd_get_self]
  · rename_i other
    exact upd_get_ne _ _ other

theorem stepAngle_sp (a : Angle) (g : AngleCounter → AngleCounter) (s : State) : (stepAngle a g s).sp = s.sp := by
  have changed : (changeAngle a g s).sp = s.sp := by rw [changeAngle_mc]
  unfold stepAngle
  dsimp only
  split
  · exact changed
  · exact (watchDegraded_sp _).trans changed

theorem stepAngle_mc (a : Angle) (g : AngleCounter → AngleCounter) (s : State) : (stepAngle a g s).mc = (changeAngle a g s).mc := by
  unfold stepAngle
  dsimp only
  split
  · rfl
  · exact watchDegraded_mc _

theorem stepAngle_sense (a : Angle) (g : AngleCounter → AngleCounter) (s : State) :
    SenseOnly { s with mc := (changeAngle a g s).mc } (stepAngle a g s) := by
  unfold stepAngle
  dsimp only
  rw [changeAngle_mc]
  split
  · exact .refl _
  · exact (setFlag_table .sensor _).sense.trans (watchDegraded_sense _)

theorem SenseOnly.replace_mc (h : SenseOnly s t) (x : MotionCounters) : SenseOnly { s with mc := x } { t with mc := x } :=
  ⟨h.pending, h.now, h.resetHeld, h.profiles, rfl, h.bc, h.js, h.dl, h.dt, h.brake, h.steer, h.damping, h.hl⟩

/-! ### The start of a SENSE reset (R65) -/

theorem startSenseReset_frame (s : State) : SenseOnly
    { s with mc := { s.mc with joint := s.mc.joint.cleared, actuator := s.mc.actuator.cleared } } (startSenseReset s) := by
  have samples := senseOnly_forAll resetSample resetSample_sense s
  unfold startSenseReset
  dsimp only
  generalize forAll 21 resetSample s = u at samples ⊢
  have cleared := senseOnly_samples u { u.sp with discards := 0 }
  have compared := (samples.trans cleared).trans (setComparators_sense .below .below .below { u with sp := { u.sp with discards := 0 } })
  generalize setComparators .below .below .below { u with sp := { u.sp with discards := 0 } } = w at compared ⊢
  have joint := (compared.replace_mc _).trans (stepAngle_sense .joint AngleCounter.cleared w)
  have last := (joint.replace_mc _).trans (stepAngle_sense .actuator AngleCounter.cleared _)
  dsimp only [changeAngle] at last
  rw [stepAngle_mc] at last
  dsimp only [changeAngle] at last
  rw [compared.mc] at last
  exact last

theorem startSenseReset_recordsKept (off : s.hl.configured = false) : RecordsKept s (startSenseReset s) := by
  have samples : RecordsKept s (forAll 21 resetSample s) :=
    (forAll_each (I := fun x => RecordsKept s x) (Q := fun _ _ => True)
      (fun ch x hx => by
        have cleared : RecordsKept s (changeSample ch (fun r => { r with value := 0, ageAt := none }) x) := hx.trans ⟨rfl, rfl, rfl⟩
        exact cleared.trans (setSampleState_recordsKept ch .stale (cleared.configured.trans off)))
      (fun _ _ _ => trivial) (fun _ _ _ _ _ => trivial) (.refl s)).1
  unfold startSenseReset
  dsimp only
  generalize forAll 21 resetSample s = u at samples ⊢
  have cleared : RecordsKept s { u with sp := { u.sp with discards := 0 } } := samples.trans ⟨rfl, rfl, rfl⟩
  have compared := cleared.trans (setComparators_recordsKept .below .below .below (cleared.configured.trans off))
  generalize setComparators .below .below .below { u with sp := { u.sp with discards := 0 } } = w at compared ⊢
  have joint := compared.trans (stepAngle_recordsKept .joint AngleCounter.cleared (compared.configured.trans off))
  exact joint.trans (stepAngle_recordsKept .actuator AngleCounter.cleared (joint.configured.trans off))

theorem startSenseReset_sp (s : State) : (startSenseReset s).sp =
    { (forAll 21 resetSample s).sp with discards := 0, reserve := .below, low := .below, critical := .below } := by
  unfold startSenseReset
  dsimp only
  generalize forAll 21 resetSample s = u
  rw [stepAngle_sp, stepAngle_sp, setComparators_sp]

theorem forAll_resetSample (s : State) (ch : Channel) : (forAll 21 resetSample s).sample ch = ⟨0, .stale, none⟩ :=
  (forAll_each (I := fun _ : State => True) (Q := fun ch x => x.sample ch = ⟨0, .stale, none⟩) (fun _ _ _ => trivial)
    (fun ch x _ => by rw [resetSample_sample, if_pos rfl])
    (fun ch y x _ hy => by
      rw [resetSample_sample]
      split
      · rfl
      · exact hy) (x := s) trivial).2 ch

/-! ### The starts of a LEVEL and a DOORS reset (R122, R154) -/

theorem startReset_level (s : State) : startReset .level s = { s with
    valves := { s.valves with level := mapAll s.valves.level fun _ p => p.quiet s.now }
    lc := { s.lc with
      corners := mapAll s.lc.corners fun _ r => r.levelReset
      grants := #v[none, none]
      haltAt := none
      resumePending := false } } := rfl

theorem Line.doorsReset_eq (now : Nat) (l : Line) : l.doorsReset now = { l with
    activity := .listening
    holding := none
    prefixPending := false
    queue := []
    attempts := 0
    sendWait := false
    errors := 0
    door := .unknown
    dataLow := false
    send := none
    clockLow := true
    minimumAt := (l.doorsReset now).minimumAt
    loss := (l.doorsReset now).loss } := by
  unfold Line.doorsReset Line.takeLow
  dsimp only
  split
  · rename_i low
    rw [low]
  · rfl

/-- The blocks that the start of a DOORS reset leaves, and the doors' own state. -/
theorem startReset_doors (s : State) : TableOnly
    { s with dl := ⟨mapAll s.dl.lines fun _ l => l.doorsReset s.now, .unknown⟩, dt := { s.dt with prefixAt := Vector.replicate 4 none } }
    (startReset .doors s) := sendUnknown_table ..

theorem startDoorsReset_sends (live : s.resetHeld = false) (known : ∃ d : Door, (s.line d).door ≠ .unknown) :
    (startReset .doors s).eu.inhibit = true ∧ (startReset .doors s).flag .door = true := by
  obtain ⟨d, known⟩ := known
  refine ⟨sendUnknown_inhibits known live ?_, sendUnknown_sets known _⟩
  exact (congrArg Line.door (mapAll_get s.dl.lines (fun _ l => l.doorsReset s.now) d)).trans (Line.doorsReset_door ..)

theorem startReset_sense (s : State) : startReset .sense s = startSenseReset s := rfl

theorem levelReset_check (r : CornerRecord) : r.levelReset.check = if r.check = .degraded then .degraded else .normal := by
  unfold CornerRecord.levelReset
  cases r.check <;> rfl

/-- Settles O14. -/
theorem doorsLevelSenseResetsStart : Obligations.DoorsLevelSenseResetsStart := by
  intro s f o time live owner host low high
  refine ⟨fun payload still => ?_, fun payload still => ?_, fun payload still off => ?_⟩
  · have run := exec_resetGroup (g := .doors) live owner host low high payload rfl
    rw [if_neg (fun h => nomatch h.1), resetGroup_starts (s := s.taking f) still] at run
    have only := startReset_doors (setReset .doors (some ((s.taking f).now + time * ms)) (s.taking f))
    have sends (known : ∃ d : Door, (s.line d).door ≠ .unknown) :=
      startDoorsReset_sends (s := setReset .doors (some ((s.taking f).now + time * ms)) (s.taking f)) live known
    generalize startReset .doors (setReset .doors (some ((s.taking f).now + time * ms)) (s.taking f)) = u at run only sends
    have counting : u.inReset .doors = true := by
      rw [State.inReset, only.hl]
      exact setReset_inReset ..
    refine ⟨_, run, rfl, counting, fun d => ?_, congrArg DoorLines.ramp only.dl, (congrArg Translator.releaseSet only.dt :),
      (congrArg Translator.ignored only.dt :), (congrArg Translator.cells only.dt :), sends, only.sp, only.mc, only.bc, only.js⟩
    have line : (answer 0x40 .ok [] u).line d = (s.line d).doorsReset s.now :=
      (congrArg (fun x : DoorLines => x.lines[d.val]) only.dl).trans (mapAll_get s.dl.lines (fun _ l => l.doorsReset s.now) d)
    have pre : (answer 0x40 .ok [] u).dt.prefixAt[d.val] = none := by
      have := congrArg (fun x : Translator => x.prefixAt[d.val]) only.dt
      exact this.trans (Vector.getElem_replicate ..)
    rw [line, Line.doorsReset_eq]
    exact ⟨rfl, rfl, rfl, rfl, rfl, rfl, rfl, rfl, rfl, rfl, rfl, rfl, pre⟩
  · have run := exec_resetGroup (g := .level) live owner host low high payload rfl
    rw [if_neg (fun h => nomatch h.1), resetGroup_starts (s := s.taking f) still, startReset_level] at run
    dsimp only [answer, setReset, State.taking, takeRequest, transact] at run
    refine ⟨_, run, rfl, setReset_inReset .level _ s, fun c => ?_, rfl, rfl, rfl, rfl, rfl, rfl, rfl, rfl, rfl, rfl, rfl, rfl, rfl, rfl⟩
    simp only [State.granted, State.corner, State.gen, Valves.gen, mapAll_get, levelReset_check, Pair.quiet, Generator.quiet]
    exact ⟨rfl, rfl, rfl, rfl, rfl, rfl, rfl, rfl, rfl, rfl, rfl, rfl, rfl, rfl, rfl⟩
  · have run := exec_resetGroup (g := .sense) live owner host low high payload rfl
    rw [if_neg (fun h => nomatch h.1), resetGroup_starts (s := s.taking f) still, startReset_sense] at run
    have frame := startSenseReset_frame (setReset .sense (some ((s.taking f).now + time * ms)) (s.taking f))
    have kept := startSenseReset_recordsKept (s := setReset .sense (some ((s.taking f).now + time * ms)) (s.taking f)) off
    have port := startSenseReset_sp (setReset .sense (some ((s.taking f).now + time * ms)) (s.taking f))
    have samples := forAll_resetSample (setReset .sense (some ((s.taking f).now + time * ms)) (s.taking f))
    generalize forAll 21 resetSample (setReset .sense (some ((s.taking f).now + time * ms)) (s.taking f)) = v at port samples
    generalize startSenseReset (setReset .sense (some ((s.taking f).now + time * ms)) (s.taking f)) = u at run frame kept port
    have counting : u.inReset .sense = true := by
      rw [State.inReset, frame.hl]
      exact setReset_inReset ..
    refine ⟨_, run, rfl, counting, fun ch => ?_, congrArg SensePort.discards port, congrArg SensePort.reserve port,
      congrArg SensePort.low port, congrArg SensePort.critical port, fun a => ?_, ?_, kept.rt, kept.eu, frame.bc, frame.js, frame.dl, frame.dt⟩
    · exact (congrArg (fun x : SensePort => x.samples[ch.val]) port).trans (samples ch)
    · have angle : (answer 0x40 .ok [] u).angle a = (s.angle a).cleared := by
        cases a
        · exact congrArg MotionCounters.joint frame.mc
        · exact congrArg MotionCounters.actuator frame.mc
      rw [angle]
      exact ⟨rfl, rfl, rfl, rfl, rfl⟩
    · have motion : (answer 0x40 .ok [] u).mc = _ := frame.mc
      rw [motion]
      exact ⟨rfl, rfl, rfl, rfl, rfl⟩

end Sys2Proof.Machine
end

section
/-! PROOFS. The images that the READs return (O27) and the reads of the restraint table (O18). -/

namespace Sys2Proof.Machine

variable {s t : State} {f : HostFrame} {o : HostOwner}

/-! ### Fields of an image -/

theorem yes_eq (b : Bool) : yes b = [if b then 1 else 0] := by cases b <;> rfl

theorem byte_of_bool (b : Bool) : b1 (if b then 0 else 1) = if b then 0 else 1 := by cases b <;> rfl

theorem cons_bytes {a b : Byte} {xs ys : List Byte} (head : a = b) (tail : xs = ys) : a :: xs = b :: ys := by rw [head, tail]

theorem append_bytes {xs ys us vs : List Byte} (head : xs = ys) (tail : us = vs) : xs ++ us = ys ++ vs := by rw [head, tail]

/-- A generator's report (R77). -/
theorem isReport_reportBytes (now : Nat) (g : Generator) : IsReport now g (reportBytes now g) := by
  refine ⟨g.leftNow now, fun runs => ?_, ?_⟩
  · rw [Generator.leftNow, runs]
    cases g.endAt <;> rfl
  · rw [reportBytes, yes_eq, u8, byte_of_bool]
    cases g.prog <;> rfl

/-- The waiting set is sent entry by entry in corner order. -/
theorem waitingBytes_eq (s : State) (entry : Corner → List Byte)
    (entries : ∀ d, entry d = ((s.corner d).waiting.map fun w => b1 d.val :: s16 w.error).getD []) :
    waitingBytes s = b1 ((List.finRange 6).filter fun d : Corner => (s.corner d).waiting.isSome).length ::
      (entry 0 ++ entry 1 ++ entry 2 ++ entry 3 ++ entry 4 ++ entry 5) := by
  have count (xs : List Corner) : (xs.filterMap fun d => (s.corner d).waiting.map fun w => (d, w.error)).length =
      (xs.filter fun d => (s.corner d).waiting.isSome).length := by
    induction xs with
    | nil => rfl
    | cons x xs ih =>
      rw [List.filterMap_cons, List.filter_cons]
      cases (s.corner x).waiting with
      | none => exact ih
      | some w => exact congrArg (· + 1) ih
  have sent (xs : List Corner) : ((xs.filterMap fun d => (s.corner d).waiting.map fun w => (d, w.error)).flatMap fun e => u8 e.1.val ++ s16 e.2) =
      xs.flatMap entry := by
    induction xs with
    | nil => rfl
    | cons x xs ih =>
      rw [List.filterMap_cons, List.flatMap_cons, entries x]
      cases (s.corner x).waiting with
      | none => exact ih
      | some w => exact congrArg (b1 x.val :: s16 w.error ++ ·) ih
  have six : (List.finRange 6).flatMap entry = entry 0 ++ entry 1 ++ entry 2 ++ entry 3 ++ entry 4 ++ entry 5 := by
    show entry 0 ++ (entry 1 ++ (entry 2 ++ (entry 3 ++ (entry 4 ++ (entry 5 ++ []))))) = _
    simp only [List.append_assoc, List.append_nil]
  show u8 ((List.finRange 6).filterMap fun (c : Corner) => (s.corner c).waiting.map fun w => (c, w.error)).length ++ _ = _
  rw [count, sent, six]
  rfl

theorem u16_mod (n : Nat) : u16 (n % 65536) = u16 n := by
  refine cons_bytes (BitVec.eq_of_toNat_eq ?_) (cons_bytes (BitVec.eq_of_toNat_eq ?_) rfl)
  all_goals
    simp only [b1, BitVec.toNat_ofNat]
    omega

theorem valid_byte (a : AngleCounter) : yes (!a.valid) = [if a.valid then 0 else 1] := by cases a.valid <;> rfl

theorem commands_bytes (xs : List Command) (byte : Command → Byte) (same : ∀ x, b1 x.code = byte x) :
    (xs.map fun c => b1 c.code) = xs.map byte := List.map_congr_left fun x _ => same x

theorem targetOf_eq_for (s : State) (c : Corner) (r : CornerRecord) (record : r = s.corner c) : targetOf s c = s.targetFor c r.phase := by
  rw [record, targetOf, State.targetFor]
  cases (s.corner c).phase <;> rfl

theorem grants_bytes (grants : Vector (Option Corner) 2) (held : Option Corner → Byte)
    (holds : ∀ g, held g = (g.map fun d => b1 d.val).getD 0xFF) :
    (grants.toList.flatMap fun g => u8Opt (g.map (·.val))) = [held grants[0], held grants[1]] := by
  have two : grants.toList = [grants[0], grants[1]] := by
    obtain ⟨⟨xs⟩, size⟩ := grants
    match xs, size with
    | [a, b], _ => rfl
  have one (g : Option Corner) : u8Opt (g.map (·.val)) = [held g] := by
    rw [holds]
    cases g <;> rfl
  rw [two]
  simp only [List.flatMap_cons, List.flatMap_nil, one, List.append_nil, List.cons_append, List.nil_append]

/-- Settles O27. -/
theorem readImages : Obligations.ReadImages := by
  intro s
  refine ⟨fun c x a channel axle => ?_, fun c r source held entry record sources holds entries => ?_, ?_, fun d l line => ?_, fun ch level levels => ?_⟩
  · have axle : s.brakeAxle c = a := axle ▸ rfl
    refine ⟨_, _, isReport_reportBytes .., isReport_reportBytes .., ?_⟩
    unfold brakeImage
    rw [← channel, axle]
    simp only [s16_natCast, u8, yes_eq, List.append_assoc, List.cons_append, List.nil_append]
    refine cons_bytes (by cases x.run <;> rfl) (cons_bytes (by cases x.slip <;> rfl) (append_bytes (by cases x.target <;> simp [s16Opt, s16_natCast])
      (cons_bytes rfl (append_bytes rfl (append_bytes (by cases x.command <;> rfl) (append_bytes rfl (append_bytes rfl
        (cons_bytes (by cases x.sampleState <;> rfl) (append_bytes rfl (append_bytes rfl (append_bytes rfl ?_)))))))))))
    cases a.latch
    · rfl
    · simp [s16Opt, s16_natCast]
  · refine ⟨_, _, isReport_reportBytes .., isReport_reportBytes .., ?_⟩
    unfold cornerImage
    rw [← record, waitingBytes_eq s entry fun d => (entries d).trans (by cases (s.corner d).waiting <;> rfl)]
    simp only [s16_natCast, u8, yes_eq, List.append_assoc, List.cons_append, List.nil_append]
    have named (y : Source) : b1 y.code = source y := by
      rw [sources]
      cases y <;> rfl
    have left (timer : Option Nat) : timeLeft s.now timer = match timer with | some e => u16 ((e - s.now) / 1000) | none => u16 0xFFFF := by
      cases timer <;> rfl
    refine cons_bytes (named _) (cons_bytes (named _) (cons_bytes (named _) (cons_bytes (named _) (append_bytes rfl (append_bytes
      (by cases r.last <;> simp [s16Opt, s16_natCast]) (append_bytes (ys := [_]) rfl (append_bytes (congrArg s16 ?_) (cons_bytes
      (by cases r.phase <;> rfl) (append_bytes ?_ (append_bytes (ys := [_]) ?_ (cons_bytes (by cases r.check <;> rfl) (append_bytes ?_
      (append_bytes (xs := _ :: s16Opt _) ?_ (cons_bytes rfl (append_bytes rfl (append_bytes rfl (cons_bytes (by cases s.lc.context <;> rfl)
      (cons_bytes (by cases s.lc.reserve <;> rfl) (append_bytes (ys := [_, _]) ?_ (cons_bytes rfl (append_bytes rfl (append_bytes rfl
      (append_bytes rfl (append_bytes rfl (append_bytes rfl (append_bytes rfl (append_bytes ?_ rfl)))))))))))))))))))))))))))
    · exact targetOf_eq_for s c r record
    · split <;> rfl
    · rcases r.outcome with _ | out
      · rfl
      · cases out <;> rfl
    · cases r.recoveryAt <;> rfl
    · cases r.waiting <;> rfl
    · exact grants_bytes _ held fun g => (holds g).trans (by cases g <;> rfl)
    · cases s.lc.haltAt <;> rfl
  · refine ⟨_, _, _, isReport_reportBytes .., isReport_reportBytes .., isReport_reportBytes .., ?_⟩
    unfold jointImage angleBytes
    rw [valid_byte, valid_byte]
    simp only [s16_natCast, u8, yes_eq, List.append_assoc, List.cons_append, List.nil_append]
    refine append_bytes rfl (cons_bytes rfl (append_bytes rfl (cons_bytes rfl (cons_bytes rfl (append_bytes rfl (append_bytes rfl
      (cons_bytes rfl (cons_bytes rfl (append_bytes rfl (append_bytes rfl (cons_bytes ?_ rfl)))))))))))
    cases s.js.state <;> rfl
  · unfold doorImage
    rw [← line]
    simp only [u8, yes_eq, List.append_assoc, List.cons_append, List.nil_append]
    refine cons_bytes (by cases l.present <;> rfl) (cons_bytes (by cases l.activity <;> rfl) (append_bytes (by cases l.loss <;> rfl)
      (cons_bytes (by cases l.door <;> rfl) (append_bytes (ys := [_]) ?_ (append_bytes (ys := [_]) ?_ (cons_bytes rfl (cons_bytes rfl
        (append_bytes (commands_bytes _ _ fun x => by cases x <;> rfl) rfl))))))))
    · by_cases second : d = 1
      · rw [if_pos second, if_pos second]
        cases s.dl.ramp <;> rfl
      · rw [if_neg second, if_neg second]
        rfl
    · cases l.holding with
      | none => rfl
      | some code => exact congrArg (fun x => [x]) (BitVec.ofNat_toNat 8 code)
  · unfold sampleImage
    simp only [s16_natCast, u8, yes_eq, u32, u16_mod, List.append_assoc, List.cons_append, List.nil_append]
    have reads (y : Level) : b1 y.code = level y := by
      rw [levels]
      cases y <;> rfl
    exact append_bytes rfl (cons_bytes (by cases (s.sample ch).state <;> rfl) (cons_bytes (reads _) (cons_bytes (reads _)
      (cons_bytes (reads _) rfl))))
/-! ### O18 -/

theorem Record.modeByte (r : Record) : bits [r.mode == .latched, r.trigger == .stationary, r.ownerRelease, r.risen] =
    (if r.mode = .latched then 1 else 0) + (if r.trigger = .stationary then 2 else 0) +
      (if r.ownerRelease then 4 else 0) + (if r.risen then 8 else 0) := by
  cases r.mode <;> cases r.trigger <;> cases r.ownerRelease <;> cases r.risen <;> rfl

/-- The bits of a set of fields that a record may hold. -/
theorem bits_cons (b : Bool) (xs : List Bool) : bits (b :: xs) = bits xs * 2 + b.toNat := rfl

theorem Record.heldByte (r : Record) : bits [r.floor.isSome, r.ceiling.isSome, r.steer.isSome, r.offset.isSome, r.damping.isSome,
      r.swing.isSome, r.parent.isSome] =
    (if r.floor = none then 0 else 1) + (if r.ceiling = none then 0 else 2) + (if r.steer = none then 0 else 4) +
      (if r.offset = none then 0 else 8) + (if r.damping = none then 0 else 16) + (if r.swing = none then 0 else 32) +
      (if r.parent = none then 0 else 64) := by
  have bit {α : Type} (x : Option α) (n : Nat) : (if x = none then 0 else n) = n * x.isSome.toNat := by cases x <;> simp
  simp only [bits_cons, bit]
  simp only [bits, List.foldr_nil]
  omega

theorem handleBytes_handleAt (s : State) (i : Slot) : handleBytes (some (s.handleAt i)) = [b1 (i.val + 1), b1 s.rt.slots[i.val].gen.toNat] := rfl

/-- What QUERY returns of a record (R26). -/
theorem recordImage_eq (s : State) (i : Slot) (r : Record) : recordImage s.now (s.handleAt i) r =
    [b1 (i.val + 1), b1 s.rt.slots[i.val].gen.toNat, b1 r.kind.code, b1 r.owner.code, b1 r.state.code,
      b1 ((if r.mode = .latched then 1 else 0) + (if r.trigger = .stationary then 2 else 0) +
        (if r.ownerRelease then 4 else 0) + (if r.risen then 8 else 0)),
      b1 ((if r.floor = none then 0 else 1) + (if r.ceiling = none then 0 else 2) + (if r.steer = none then 0 else 4) +
        (if r.offset = none then 0 else 8) + (if r.damping = none then 0 else 16) + (if r.swing = none then 0 else 32) +
        (if r.parent = none then 0 else 64)), r.scope.setWidth 8]
      ++ u16 (r.floor.getD 0) ++ u16 (r.ceiling.getD 0) ++ [b1 (r.steer.getD 0), BitVec.ofInt 8 (r.offset.getD 0), b1 (r.damping.getD 0)]
      ++ u16 r.delay ++ u16 (r.swing.getD 0) ++ u16 r.armTimeout ++ (r.conds.map fun c => b1 c.code)
      ++ List.replicate (4 - r.conds.length) 0 ++ handleBytes r.parent
      ++ [b1 r.depth] ++ u16 ((leftMs s.now r.armAt).getD 0) ++ u16 r.releaseLeft ++ u16 r.distLeft := by
  have scope : b1 r.scope.toNat = r.scope.setWidth 8 := BitVec.ofNat_toNat 8 r.scope
  delta recordImage
  rw [r.modeByte, r.heldByte, condBytes, handleBytes_handleAt, u8, u8, u8, u8, u8, u8, u8, u8, u8, s8, scope]
  simp only [List.append_assoc, List.cons_append, List.nil_append]

theorem recordImage_length (now : Nat) (h : Handle) (r : Record) (few : r.conds.length ≤ 4) : (recordImage now h r).length = 34 := by
  have parent : (handleBytes r.parent).length = 2 := by cases r.parent <;> rfl
  delta recordImage
  simp only [condBytes, List.length_append, List.length_map, List.length_replicate, parent]
  simp only [handleBytes, u8, s8, u16, List.length_cons, List.length_nil]
  omega

theorem SlotEntry.code_small (e : SlotEntry) : e.code ≤ 3 := by
  unfold SlotEntry.code
  cases e.record with
  | none => exact Nat.zero_le _
  | some r => cases h : r.state <;> simp [h, RecState.code]

theorem quarters_byte (x : Fin 4 → Nat) (small : ∀ k, x k ≤ 3) (k : Fin 4) :
    (b1 (x 0 + 4 * x 1 + 16 * x 2 + 64 * x 3)).toNat / 4 ^ k.val % 4 = x k := by
  have := small 0
  have := small 1
  have := small 2
  have := small 3
  rw [b1, BitVec.toNat_ofNat]
  match k with
  | 0 | 1 | 2 | 3 =>
    simp only [Fin.isValue, Fin.coe_ofNat_eq_mod, Nat.reduceMod, Nat.reducePow]
    omega

/-- A byte of LIST holds the states of four slots, two bits each. -/
theorem listByte_slot (s : State) (n : Fin 8) (k : Fin 4) :
    (listByte s n).toNat / 4 ^ k.val % 4 = (s.rt.slots[4 * n.val + k.val]'(by have := n.isLt; have := k.isLt; omega)).code :=
  quarters_byte (fun k => (s.rt.slots[4 * n.val + k.val]'(by have := n.isLt; have := k.isLt; omega)).code) (fun _ => SlotEntry.code_small _) k

theorem readKind_code (k : Kind) : readKind (b1 k.code) = some k := by cases k <;> rfl

theorem readOwner_code (w : Owner) : readOwner (b1 w.code) = some w := by
  cases w with
  | door d => revert d; decide
  | driver | depot | joint | plaus => rfl

/-- Settles O18. -/
theorem tableReads : Obligations.TableReads := by
  intro s f o live owner
  refine ⟨fun a b page i r payload stands => ?_, fun a b page payload absent => ?_, fun k w payload => ?_, fun payload => ?_⟩
  · have fits : f.payload.length ≤ 26 := by rw [payload]; exact Nat.le_of_ble_eq_true rfl
    have run := exec_taken (c := .query f) rfl rfl live fits owner rfl
    rw [payload] at run
    unfold bodyQuery at run
    dsimp only at run
    rw [show named (s.taking f) a b = some (i, r) from stands] at run
    obtain ⟨first, beyond⟩ := readsPages_of run
    refine ⟨_, ?_, recordImage_length s.now (s.handleAt i) r, first, beyond⟩
    rw [recordImage_eq]
    simp only [List.append_assoc, List.cons_append, List.nil_append]
    refine cons_bytes rfl (cons_bytes rfl (cons_bytes rfl (cons_bytes ?_ (cons_bytes (by cases r.state <;> rfl) (cons_bytes rfl
      (cons_bytes rfl (cons_bytes rfl (append_bytes rfl (append_bytes rfl (cons_bytes rfl (cons_bytes rfl (cons_bytes rfl (append_bytes rfl
      (append_bytes rfl (append_bytes rfl (append_bytes (List.map_congr_left fun c _ => by cases c <;> rfl) (append_bytes rfl (append_bytes
      (by cases r.parent <;> rfl) (cons_bytes rfl (append_bytes (congrArg u16 (by cases r.armAt <;> rfl)) rfl))))))))))))))))))))
    cases r.owner with
    | door d => exact congrArg b1 (Nat.add_comm ..)
    | driver | depot | joint | plaus => rfl
  · have fits : f.payload.length ≤ 26 := by rw [payload]; exact Nat.le_of_ble_eq_true rfl
    have run := exec_taken (c := .query f) rfl rfl live fits owner rfl
    rw [payload] at run
    unfold bodyQuery at run
    dsimp only at run
    rwa [show named (s.taking f) a b = none from absent] at run
  · have fits : f.payload.length ≤ 26 := by rw [payload]; exact Nat.le_of_ble_eq_true rfl
    have run := exec_taken (c := .find f) rfl rfl live fits owner rfl
    rw [payload] at run
    unfold bodyFind findHandle at run
    dsimp only at run
    rw [readKind_code, readOwner_code] at run
    dsimp only at run
    have same : (s.taking f).find k w = s.find k w := rfl
    rw [same] at run
    refine ⟨fun i found => ?_, fun none => ?_⟩
    · rw [found] at run
      exact run
    · rw [none] at run
      exact run
  · have fits : f.payload.length ≤ 26 := by rw [payload]; exact Nat.le_of_ble_eq_true rfl
    have run := exec_taken (c := .list f) rfl rfl live fits owner rfl
    rw [payload] at run
    refine ⟨(List.finRange 8).map (listByte s), rfl, run, fun i => ?_⟩
    have inside := i.isLt
    have eighth : i.val / 4 < 8 := by omega
    refine ⟨listByte s ⟨i.val / 4, eighth⟩, ?_, ?_⟩
    · rw [List.getElem?_map, List.getElem?_eq_getElem (by simpa using eighth)]
      simp
    · have bits := listByte_slot s ⟨i.val / 4, eighth⟩ ⟨i.val % 4, Nat.mod_lt _ (by decide)⟩
      have place : 4 * (i.val / 4) + i.val % 4 = i.val := Nat.div_add_mod ..
      simp only [place] at bits
      rw [bits, SlotEntry.code, State.recordAt]
      cases s.rt.slots[i.val].record with
      | none => rfl
      | some r =>
        dsimp only
        cases r.state <;> rfl
end Sys2Proof.Machine
end

section
/-! PROOFS. The door requests (O28). -/

namespace Sys2Proof.Machine

variable {s t : State} {f : HostFrame} {o : HostOwner}

theorem readCommand_code (c : Command) : readCommand (b1 c.code) = some c := by cases c <;> rfl

theorem readCommand_none {b : Byte} (other : ∀ c : Command, b ≠ b1 c.code) : readCommand b = none := by
  have named (c : Command) (same : b.toNat = c.code) : False := other c (by rw [← same]; exact (BitVec.ofNat_toNat 8 b).symm.trans rfl)
  unfold readCommand
  split
  · exact (named .permit ‹_›).elim
  · exact (named .withhold ‹_›).elim
  · exact (named .close ‹_›).elim
  · exact (named .lock ‹_›).elim
  · exact (named .unlock ‹_›).elim
  · exact (named .chimeShort ‹_›).elim
  · exact (named .chimeLong ‹_›).elim
  · exact (named .queryState ‹_›).elim
  · rfl

theorem door_bit (x : Byte) (d : Door) : (x.setWidth 4).getLsbD d.val = x.getLsbD d.val := by
  rw [BitVec.getLsbD_setWidth, decide_eq_true d.isLt, Bool.true_and]

/-- A door is to be added to the set (R163). -/
theorem addsDoor_iff (s : State) (x : Byte) : addsDoor s (x.setWidth 4) = true ↔ ∃ d : Door, x.getLsbD d.val = true ∧ s.isReleased d = false := by
  rw [addsDoor, bne_iff_ne]
  constructor
  · intro some'
    by_contra none'
    push Not at none'
    refine some' (BitVec.eq_of_getLsbD_eq fun i small => ?_)
    rw [BitVec.getLsbD_and, door_bit x ⟨i, small⟩]
    cases set : x.getLsbD i with
    | false => simp
    | true =>
      have released : s.dt.releaseSet.getLsbD i = true := eq_true_of_ne_false (none' ⟨i, small⟩ set)
      simp [released]
  · rintro ⟨d, set, free⟩ none'
    have bit := congrArg (BitVec.getLsbD · d.val) none'
    have clear : s.dt.releaseSet.getLsbD d.val = false := free
    simp only [BitVec.getLsbD_and, BitVec.getLsbD_not, door_bit, set, clear] at bit
    simp at bit

theorem exec_setDoorRelease {x : Byte} (live : s.resetHeld = false) (owner : FrameOwner f o) (payload : f.payload = [x]) :
    exec (.setDoorRelease f) s = .next (bodySetDoorRelease o [x] (s.taking f)) := by
  have fits : f.payload.length ≤ 26 := by rw [payload]; exact Nat.le_of_ble_eq_true rfl
  rw [exec_taken (c := .setDoorRelease f) rfl rfl live fits owner rfl, payload]

theorem exec_doorCommand {a b : Byte} (live : s.resetHeld = false) (owner : FrameOwner f o) (payload : f.payload = [a, b]) :
    exec (.doorCommand f) s = .next (bodyDoorCommand o [a, b] (s.taking f)) := by
  have fits : f.payload.length ≤ 26 := by rw [payload]; exact Nat.le_of_ble_eq_true rfl
  rw [exec_taken (c := .doorCommand f) rfl rfl live fits owner rfl, payload]

/-- Settles O28. -/
theorem doorRequests : Obligations.DoorRequests := by
  refine ⟨fun s f o x live owner payload => ?_, fun s f o a b live owner payload => ?_, fun s f o d c live owner payload => ?_⟩
  · rw [exec_setDoorRelease live owner payload]
    have adds := addsDoor_iff s x
    have lost := anyActive_iff s .supervisionLost
    have same : addsDoor (s.taking f) (x.setWidth 4) = addsDoor s (x.setWidth 4) := rfl
    have same' : (s.taking f).anyActive .supervisionLost = s.anyActive .supervisionLost := rfl
    have same'' : (s.taking f).mc = s.mc := rfl
    unfold bodySetDoorRelease
    dsimp only
    rw [same, same', same'']
    refine ⟨fun none => ?_, fun host big => ?_, fun host small added barred => ?_, fun host small free => ?_⟩
    · rw [if_pos none]
      rfl
    · rw [if_neg host, if_pos big]
      rfl
    · have barred : (s.mc.moving || s.anyActive .supervisionLost) = true := by
        rw [Bool.or_eq_true]
        exact barred.imp_right lost.mpr
      rw [if_neg host, if_neg (by omega), if_pos (by rw [Bool.and_eq_true]; exact ⟨adds.mpr added, barred⟩)]
      rfl
    · have free : ¬ (addsDoor s (x.setWidth 4) && (s.mc.moving || s.anyActive .supervisionLost)) = true := by
        rw [Bool.and_eq_true, Bool.or_eq_true]
        rintro ⟨added, barred⟩
        obtain ⟨d, set, clear⟩ := adds.mp added
        rcases free with within | ⟨still, supervised⟩
        · rw [within d set] at clear
          cases clear
        · rcases barred with moving | active
          · rw [still] at moving
            cases moving
          · obtain ⟨i, r, stands, kind, active⟩ := lost.mp active
            exact supervised i r stands kind active
      have whole : u8 (x.setWidth 4).toNat = [x] := congrArg (fun y => [y]) (BitVec.eq_of_toNat_eq (by
        simp only [b1, BitVec.toNat_ofNat, BitVec.toNat_setWidth]
        omega))
      rw [if_neg host, if_neg (by omega), if_neg free, setReleaseSet_eq]
      dsimp only [State.releasing]
      rw [whole]
      refine ⟨_, rfl, rfl, rfl, ⟨rfl, rfl, rfl, rfl, rfl, rfl, rfl, rfl, rfl, rfl, rfl⟩, rfl, fun d => ?_⟩
      have reset : (s.taking f).inReset .doors = s.inReset .doors := rfl
      rw [reset]
      by_cases held : s.inReset .doors = true
      · simp only [held, if_true, true_or]
        rfl
      · simp only [held]
        have line := mapAll_get s.dl.lines (fun d l => l.permitted s.dt.releaseSet (x.setWidth 4) d) d
        refine line.trans ?_
        rw [Line.permitted, door_bit]
        simp only [Bool.false_eq_true, false_or]
        rfl
  · rw [exec_doorCommand live owner payload]
    unfold bodyDoorCommand
    dsimp only
    refine ⟨fun none => ?_, fun host bad => ?_⟩
    · rw [if_pos none]
      rfl
    · rw [if_neg host]
      rcases bad with zero | big | other
      · rw [readDoor_none (.inl zero)]
        rfl
      · rw [readDoor_none (.inr big)]
        rfl
      · rw [readCommand_none other]
        cases readDoor a <;> rfl
  · rw [exec_doorCommand live owner payload]
    unfold bodyDoorCommand
    dsimp only
    rw [readDoor_b1, readCommand_code]
    have barred : (((s.taking f).inReset .doors || (c == .permit && (s.taking f).mc.moving)) = true) ↔
        (s.inReset .doors = true ∨ (c = .permit ∧ s.mc.moving = true)) := by
      rw [Bool.or_eq_true, Bool.and_eq_true, beq_iff_eq]
      rfl
    refine ⟨fun host bad => ?_, fun host still free => ?_⟩
    · rw [if_neg host]
      dsimp only
      rw [if_pos (barred.mpr bad)]
      rfl
    · rw [if_neg host]
      dsimp only
      rw [if_neg (fun bad => ?_), queueCommand, if_neg (by rw [show (s.taking f).inReset .doors = false from still]; exact Bool.false_ne_true)]
      · rfl
      · rcases barred.mp bad with reset | ⟨permit, moving⟩
        · rw [still] at reset
          cases reset
        · rw [free permit] at moving
          cases moving
end Sys2Proof.Machine
end

section
/-! PROOFS. Flags across the operations of the restraint table: RECORD alone is set, and every flag that is set stays set (R174). -/

namespace Sys2Proof.Machine

variable {s t : State}

/-- A flag that is set stays set. -/
structure FlagsStay (s t : State) : Prop where
  stays : ∀ fl, s.flag fl = true → t.flag fl = true

theorem FlagsStay.refl (s : State) : FlagsStay s s := ⟨fun _ => id⟩

theorem FlagsStay.trans {u : State} (h : FlagsStay s t) (k : FlagsStay t u) : FlagsStay s u :=
  ⟨fun fl set => k.stays fl (h.stays fl set)⟩

/-- A flag that is set stays set, and no flag but RECORD is newly set. -/
structure RecordFlag (s t : State) : Prop extends FlagsStay s t where
  others : ∀ fl, fl ≠ .record → t.flag fl = s.flag fl

theorem RecordFlag.refl (s : State) : RecordFlag s s := ⟨.refl s, fun _ _ => rfl⟩

theorem RecordFlag.trans {u : State} (h : RecordFlag s t) (k : RecordFlag t u) : RecordFlag s u :=
  ⟨h.toFlagsStay.trans k.toFlagsStay, fun fl other => (k.others fl other).trans (h.others fl other)⟩

theorem RecordFlag.of_hl (same : t.hl = s.hl) : RecordFlag s t :=
  have flag (fl : Flag) : t.flag fl = s.flag fl := congrArg (fun hl : HostLink => hl.flags.getLsbD fl.bit) same
  ⟨⟨fun fl set => (flag fl).trans set⟩, fun fl _ => flag fl⟩

theorem LevelOnly.recordFlag (h : LevelOnly s t) : RecordFlag s t := .of_hl h.hl

theorem setFlag_recordFlag (s : State) : RecordFlag s (setFlag .record s) :=
  ⟨⟨fun _ set => setFlag_stays set⟩, fun fl other => by rw [setFlag_flag, decide_eq_false other, Bool.false_or]⟩

/-! ### A frame of the table's operations -/

/-- A relation that every step of the table's operations meets: a change of the records, the forming of the envelope, a change of the rising
list, RECORD, the end of SERVICE mode, the set that PLAUS acts on, an emptied release set. -/
structure TableFrame (R : State → State → Prop) : Prop where
  refl     : ∀ s, R s s
  trans    : ∀ {s t u}, R s t → R t u → R s u
  records  : ∀ (s : State) (x : RestraintTable), R s { s with rt := x }
  form     : ∀ s, R s (formEnvelope s)
  rising   : ∀ (s : State) (xs : List RisingEntry), R s { s with lc := { s.lc with rising := xs } }
  flag     : ∀ s, R s (setFlag .record s)
  service  : ∀ s : State, R s { s with hl := { s.hl with service := false } }
  degraded : ∀ (s : State) (x : BitVec 23), R s { s with degraded := x }
  doors    : ∀ s, R s (emptyReleaseSet s)

namespace TableFrame

variable {R : State → State → Prop}

theorem foldl {α : Type} {f : State → α → State} (h : TableFrame R) (step : ∀ x a, R x (f x a)) (xs : List α) (s : State) : R s (xs.foldl f s) :=
  foldl_rel R h.refl h.trans f step xs s

theorem change (h : TableFrame R) (i : Slot) (f : Record → Record) (s : State) : R s (formEnvelope (changeRecord i f s)) :=
  h.trans (h.records ..) (h.form _)

theorem noticeRising (h : TableFrame R) (i : Slot) (r : Record) (s : State) : R s (noticeRising i r s) := by
  unfold Machine.noticeRising
  split
  · exact h.refl s
  · split
    · exact h.trans (h.rising ..) (h.records ..)
    · unfold enterRising
      dsimp only
      split
      · exact h.trans (h.rising ..) (h.records ..)
      · exact h.trans (h.rising s (s.lc.rising.filter fun e => e.handle != s.handleAt i)) (h.rising ..)

theorem enterReleasing (h : TableFrame R) (i : Slot) (r : Record) (s : State) : R s (enterReleasing i r s) :=
  h.trans (h.change ..) (h.noticeRising ..)

theorem returnActive (h : TableFrame R) (i : Slot) (s : State) : R s (returnActive i s) := h.trans (h.change ..) (h.rising ..)

theorem freeSlot (h : TableFrame R) (i : Slot) (r : Record) (s : State) : R s (freeSlot i r s) := by
  have ended (x : State) : R x (endService r.kind x) := by
    unfold endService
    split
    · exact h.service x
    · exact h.refl x
  have vacated : R s (vacate i (leaveRising (s.handleAt i) s)) := h.trans (h.rising ..) (h.records ..)
  exact h.trans (h.trans (h.trans vacated (h.flag _)) (ended _)) (h.form _)

theorem evaluate (h : TableFrame R) (forced : List Slot) (n : Nat) (i : Slot) (s : State) : R s (evaluate forced n i s) :=
  evaluate_invariant (P := R s) (fun i r _ hx => h.trans hx (h.enterReleasing i r _)) (fun i r _ hx => h.trans hx (h.freeSlot i r _))
    (fun i _ hx => h.trans hx (h.returnActive i _)) forced n i s (h.refl s)

theorem evalRecord (h : TableFrame R) (i : Slot) (s : State) : R s (evalRecord i s) := h.evaluate [] evalDepth i s

theorem evalListing (h : TableFrame R) (p : Cond → Bool) (s : State) : R s (evalListing p s) :=
  h.foldl (fun x i => h.evalRecord i x) (listing s p) s

theorem retire (h : TableFrame R) (i : Slot) (s : State) : R s (retire i s) := by
  unfold Machine.retire
  split
  · exact h.refl s
  · exact h.trans (h.freeSlot ..) (h.foldl (fun x i => h.evalRecord i x) _ _)

theorem checkRetire (h : TableFrame R) (i : Slot) (s : State) : R s (checkRetire i s) := by
  unfold Machine.checkRetire
  split
  · split
    · exact h.retire i s
    · exact h.refl s
  · exact h.refl s

theorem riseRecord (h : TableFrame R) (x : Handle) (s : State) : R s (riseRecord x s) := by
  have either (b : Bool) : R s (if b then Machine.checkRetire x.slot (markRisen x.slot s) else s) := by
    split
    · exact h.trans (h.records ..) (h.checkRetire ..)
    · exact h.refl s
  exact either _

theorem lookRisen (h : TableFrame R) (s : State) : R s (lookRisen s) := by
  unfold Machine.lookRisen
  split
  · exact h.refl s
  · refine h.foldl (fun x e => ?_) _ s
    unfold reportRisen
    split
    · exact h.trans (h.rising ..) (h.riseRecord ..)
    · exact h.refl x

theorem kneelChanged (h : TableFrame R) (k : Kind) (s : State) : R s (kneelChanged k s) := by
  unfold Machine.kneelChanged
  split
  · exact h.evalListing _ s
  · exact h.refl s

theorem adopt (h : TableFrame R) (x : Handle) (s : State) : R s (adopt x s) := by
  unfold Machine.adopt
  split
  · split
    · exact h.returnActive ..
    · exact h.refl s
  · exact h.refl s

theorem createRecord (h : TableFrame R) (i : Slot) (r : Record) (s : State) : R s (createRecord i r s) := by
  have formed : R s (formEnvelope (putRecord i r s)) := h.trans (h.records ..) (h.form _)
  have parent (x : State) : R x (match r.parent with | some y => Machine.evalRecord y.slot (Machine.adopt y x) | none => x) := by
    split
    · exact h.trans (h.adopt ..) (h.evalRecord ..)
    · exact h.refl x
  exact h.trans (h.trans (h.trans formed (parent _)) (h.kneelChanged ..)) (h.evalRecord ..)

theorem reviveRecord (h : TableFrame R) (i : Slot) (k : Kind) (s : State) : R s (reviveRecord i k s) :=
  h.trans (h.trans (h.trans (h.records ..) (h.returnActive i (changeRecord i (fun r => { r with ownerRelease := false }) s)))
    (h.kneelChanged ..)) (h.evalRecord ..)

theorem placeNew (h : TableFrame R) (p : Placement) (s : State) : R s (placeNew p s).state := by
  unfold Machine.placeNew
  split
  · exact h.refl s
  · split
    · exact h.refl s
    · exact h.createRecord ..

theorem placeRecord (h : TableFrame R) (p : Placement) (s : State) : R s (placeRecord p s).state := by
  unfold Machine.placeRecord
  split
  · exact h.refl s
  · split
    · exact h.refl s
    · split
      · split
        · unfold placeAgain
          split
          · exact h.refl s
          · exact h.refl s
          · exact h.reviveRecord ..
        · exact h.placeNew p s
      · exact h.placeNew p s

theorem placeInternal (h : TableFrame R) (k : Kind) (o : Owner) (x : Option Scope) (s : State) : R s (placeInternal k o x s) := by
  have placed := h.placeRecord { kind := k, owner := o, supplied := { scope := x } } s
  unfold Machine.placeInternal
  dsimp only
  split
  · exact h.trans placed (h.doors _)
  · exact h.trans placed (h.doors _)
  · exact placed

theorem ownerRetire (h : TableFrame R) (i : Slot) (s : State) : R s (ownerRetire i s).2 := by
  unfold Machine.ownerRetire
  split
  · exact h.refl s
  · split
    · exact h.retire i s
    · split
      · exact h.refl s
      · exact h.trans (h.records ..) (h.evalRecord i (changeRecord i (fun r => { r with ownerRelease := true }) s))
    · exact h.refl s

theorem withdraw (h : TableFrame R) (k : Kind) (o : Owner) (s : State) : R s (withdraw k o s) := by
  unfold Machine.withdraw
  split
  · exact h.ownerRetire ..
  · exact h.refl s

theorem amendRecord (h : TableFrame R) (i : Slot) (r : Record) (c : Change) (s : State) : R s (amendRecord i r c s) := by
  have formed : R s (formEnvelope (changeRecord i (fun q => c.apply q) s)) := h.change ..
  have noticed (x : State) : R x (if c.isScope then Machine.noticeRising i (c.apply r) x else x) := by
    split
    · exact h.noticeRising ..
    · exact h.refl x
  unfold Machine.amendRecord
  dsimp only
  split
  · exact formed
  · exact h.trans formed (h.evalRecord ..)
  · split
    · exact h.trans (h.trans formed (noticed _)) (h.trans (h.returnActive ..) (h.evalRecord ..))
    · exact h.trans (h.trans formed (noticed _)) (h.checkRetire ..)

theorem amendOne (h : TableFrame R) (o : Owner) (x : Option Handle) (c : Change) (s : State) : R s (amendOne o x c s).2 := by
  unfold Machine.amendOne
  split
  · exact h.refl s
  · split
    · exact h.refl s
    · split
      · exact h.refl s
      · split
        · exact h.refl s
        · split
          · exact h.refl s
          · exact h.amendRecord ..

theorem armRecords (h : TableFrame R) (s : State) : R s (armRecords s) := by
  refine h.foldl (f := fun x i => armRecord i x) (fun x i => ?_) (List.finRange 32) s
  unfold armRecord
  split
  · split
    · exact h.trans (h.change ..) (h.trans (h.kneelChanged ..) (h.evalRecord ..))
    · exact h.refl x
  · exact h.refl x

theorem watchDegraded (h : TableFrame R) (s : State) : R s (watchDegraded s) := by
  have amended (x : Scope) (y : State) : R y (amendDegrade x y) := by
    unfold amendDegrade
    split
    · split
      · exact h.refl y
      · exact h.amendOne ..
    · exact h.refl y
  have changed (old new : BitVec 23) (y : State) : R y (degradedChanged old new y) := by
    unfold degradedChanged
    split
    · exact h.withdraw ..
    · refine h.trans ?_ (amended _ _)
      split
      · exact h.placeInternal ..
      · exact h.refl y
  unfold Machine.watchDegraded
  dsimp only
  split
  · exact h.refl s
  · split
    · exact h.refl s
    · exact h.trans (h.degraded ..) (changed s.degraded (degradedNow s) { s with degraded := degradedNow s })

theorem watchCritical (h : TableFrame R) (s : State) : R s (watchCritical s) := by
  unfold Machine.watchCritical
  split
  · exact h.refl s
  · split
    · exact h.placeInternal ..
    · exact h.withdraw ..

end TableFrame

theorem recordFlag_frame : TableFrame RecordFlag where
  refl := .refl
  trans := .trans
  records _ _ := .of_hl rfl
  form s := .of_hl (formEnvelope_hl s)
  rising _ _ := .of_hl rfl
  flag := setFlag_recordFlag
  service _ := ⟨⟨fun _ set => set⟩, fun _ _ => rfl⟩
  degraded _ _ := .of_hl rfl
  doors s := .of_hl (by rw [emptyReleaseSet, setReleaseSet_eq]; rfl)

/-- The flag RECORD is set where a record's slot is freed (R18). -/
theorem freeSlot_record (i : Slot) (r : Record) (s : State) : (freeSlot i r s).flag .record = true := by
  have recorded : (setFlag .record (vacate i (leaveRising (s.handleAt i) s))).flag .record = true := by rw [setFlag_flag]; rfl
  have ended (x : State) : FlagsStay x (endService r.kind x) := by
    unfold endService
    split
    · exact ⟨fun _ set => set⟩
    · exact .refl x
  exact ((ended _).trans (RecordFlag.of_hl (formEnvelope_hl _)).toFlagsStay).stays _ recorded

/-! ### The angle counters (R56 to R60) -/

theorem stepAngle_angle (a b : Angle) (g : AngleCounter → AngleCounter) (s : State) :
    (stepAngle a g s).angle b = if b = a then g (s.angle a) else s.angle b := by
  rw [← changeAngle_angle]
  exact congrArg (fun mc : MotionCounters => match b with | .joint => mc.joint | .actuator => mc.actuator) (stepAngle_mc a g s)

/-- R60: a change of a counter's validity or calibration sets SENSOR. -/
theorem stepAngle_sets (a : Angle) (g : AngleCounter → AngleCounter) (s : State)
    (changed : (g (s.angle a)).calibrated ≠ (s.angle a).calibrated ∨ (g (s.angle a)).valid ≠ (s.angle a).valid) :
    (stepAngle a g s).flag .sensor = true := by
  have angle : (changeAngle a g s).angle a = g (s.angle a) := by rw [changeAngle_angle, if_pos rfl]
  have differs : ¬ ((g (s.angle a)).calibrated = (s.angle a).calibrated ∧ (g (s.angle a)).valid = (s.angle a).valid) :=
    fun same => changed.elim (fun h => h same.1) (fun h => h same.2)
  unfold stepAngle
  dsimp only
  rw [angle, if_neg differs]
  exact (recordFlag_frame.watchDegraded _).stays _ (by rw [setFlag_flag]; rfl)

/-- A change that leaves a counter's validity and calibration reaches nobody else. -/
theorem stepAngle_quiet (a : Angle) (g : AngleCounter → AngleCounter) (s : State)
    (same : (g (s.angle a)).calibrated = (s.angle a).calibrated ∧ (g (s.angle a)).valid = (s.angle a).valid) :
    stepAngle a g s = changeAngle a g s := by
  have angle : (changeAngle a g s).angle a = g (s.angle a) := by rw [changeAngle_angle, if_pos rfl]
  unfold stepAngle
  dsimp only
  rw [angle, if_pos same]

/-- The four combinations of the phase inputs stand in a ring (R56). -/
theorem nextPhases_ne : ∀ p : Phases, nextPhases p ≠ p ∧ nextPhases (nextPhases p) ≠ p ∧ nextPhases (nextPhases p) ≠ nextPhases p ∧
    nextPhases (nextPhases (nextPhases p)) ≠ p := by
  intro p
  cases p <;> decide

variable {x : AngleCounter} {p : Phases} {now : Nat}

theorem transit_stands (same : p = x.phases) : x.transit now p = { x with phases := p } := by
  rw [AngleCounter.transit, if_pos same, same]

theorem transit_forward (next : p = nextPhases x.phases) : x.transit now p = { x.moved 1 with phases := p } := by
  rw [AngleCounter.transit, if_neg (next ▸ (nextPhases_ne x.phases).1), if_pos next]

theorem transit_backward (next : nextPhases p = x.phases) : x.transit now p = { x.moved (-1) with phases := p } := by
  have ring := nextPhases_ne p
  rw [AngleCounter.transit, if_neg (fun same => ring.1 (next.trans same.symm)), if_neg (fun same => ring.2.1 (by rw [next, ← same])), if_pos next]

theorem transit_opposite (across : p = nextPhases (nextPhases x.phases)) : x.transit now p = { x.disturbed now with phases := p } := by
  have ring := nextPhases_ne x.phases
  rw [AngleCounter.transit, if_neg (across ▸ ring.2.1), if_neg (across ▸ ring.2.2.1), if_neg (across ▸ ring.2.2.2)]

theorem moved_count (step : Int) : (x.moved step).count =
    if 600 < x.count + step then 600 else if x.count + step < -600 then -600 else x.count + step := by
  show clamp (x.count + step) (-600) 600 = _
  unfold clamp
  split
  · rw [if_neg (by omega)]
  · rfl

theorem moved_valid (step : Int) : (x.moved step).valid = true ↔
    x.valid = true ∧ (x.moved step).count ≠ 600 ∧ (x.moved step).count ≠ -600 := by
  simp [AngleCounter.moved, and_assoc]

/-- A change of the phase inputs while transitions are disregarded moves the inputs alone (R65). -/
theorem exec_phaseTransition_reset (live : s.resetHeld = false) (reset : s.inReset .sense = true) (a : Angle) (p : Phases) :
    exec (.phaseTransition a p) s = .next (changeAngle a (fun x => { x with phases := p }) s) :=
  congrArg Host.Outcome.next (if_pos (by rw [live, reset]; rfl))

theorem exec_phaseTransition_live (live : s.resetHeld = false) (still : s.inReset .sense = false) (a : Angle) (p : Phases) :
    exec (.phaseTransition a p) s = .next (stepAngle a (AngleCounter.transit s.now p) s) :=
  congrArg Host.Outcome.next (if_neg (by rw [live, still]; exact Bool.false_ne_true))

theorem exec_centreMark (live : s.resetHeld = false) (a : Angle) :
    exec (.centreMark a) s = .next (if s.inReset .sense then s else stepAngle a AngleCounter.marked s) :=
  running_next (f := fun s => if s.inReset .sense then s else stepAngle a AngleCounter.marked s) live

theorem transit_phases : (x.transit now p).phases = p := by
  unfold AngleCounter.transit
  split
  · symm
    assumption
  · split
    · rfl
    · split <;> rfl

/-- Settles O34. -/
theorem angleCounters : Obligations.AngleCounters := by
  intro s a p x live same
  subst same
  refine ⟨?_, ?_, fun e rest listed => ?_⟩
  · cases reset : s.inReset .sense with
    | true =>
      have angle : (changeAngle a (fun x => { x with phases := p }) s).angle a = { s.angle a with phases := p } := by
        rw [changeAngle_angle, if_pos rfl]
      have frame := changeAngle_mc a (fun x => { x with phases := p }) s
      refine ⟨_, exec_phaseTransition_reset live reset a p, ?_, fun b other => ?_, fun _ => ⟨angle, ?_, ?_⟩, nofun, nofun, nofun, fun differs => ?_, ?_⟩
      · rw [angle]
      · rw [changeAngle_angle, if_neg other]
      · rw [frame]
      · rw [frame]
      · rw [angle] at differs
        exact absurd rfl differs
      · rw [frame]
        exact ⟨rfl, rfl, rfl, rfl, rfl, rfl, rfl⟩
    | false =>
      have angle : (stepAngle a (AngleCounter.transit s.now p) s).angle a = (s.angle a).transit s.now p := by rw [stepAngle_angle, if_pos rfl]
      have moved := (stepAngle_mc a (AngleCounter.transit s.now p) s).trans (congrArg State.mc (changeAngle_mc a _ s))
      have sense := stepAngle_sense a (AngleCounter.transit s.now p) s
      refine ⟨_, exec_phaseTransition_live live reset a p, ?_, fun b other => ?_, fun stands => ?_, fun _ next => ?_, fun _ next => ?_,
        fun _ across => ?_, fun differs => ?_, ?_, ?_, stepAngle_sp .., sense.bc, sense.js, sense.dl, sense.dt⟩
      · rw [angle, transit_phases]
      · rw [stepAngle_angle, if_neg other]
      · have stands := stands.resolve_left nofun
        have whole := transit_stands (now := s.now) stands
        have frame := changeAngle_mc a (AngleCounter.transit s.now p) s
        refine ⟨angle.trans whole, ?_, ?_⟩
        · rw [stepAngle_quiet a _ s (by rw [whole]; exact ⟨rfl, rfl⟩), frame]
        · rw [stepAngle_quiet a _ s (by rw [whole]; exact ⟨rfl, rfl⟩), frame]
      · rw [angle, transit_forward next]
        exact ⟨moved_count 1, moved_valid 1, rfl, rfl⟩
      · rw [angle, transit_backward next]
        exact ⟨moved_count (-1), moved_valid (-1), rfl, rfl⟩
      · rw [angle, transit_opposite across]
        refine ⟨?_, ?_, fun few => ?_, fun many => ?_⟩
        · unfold AngleCounter.disturbed
          dsimp only
          split <;> rfl
        · have total : ((s.angle a).disturbed s.now).illegalTotal = bump 65535 (s.angle a).illegalTotal := by
            unfold AngleCounter.disturbed
            dsimp only
            split <;> rfl
          rw [total, bump]
          split
          · omega
          · omega
        · rw [AngleCounter.disturbed]
          dsimp only
          rw [if_neg (Nat.not_le.mpr few)]
          exact ⟨rfl, rfl⟩
        · rw [AngleCounter.disturbed]
          dsimp only
          rw [if_pos many]
          exact ⟨rfl, rfl⟩
      · rw [angle] at differs
        exact stepAngle_sets a _ s (.inr differs)
      · rw [moved]
      · rw [moved]
  · cases reset : s.inReset .sense with
    | true =>
      have run : exec (.centreMark a) s = .next s := (exec_centreMark live a).trans (congrArg Host.Outcome.next (if_pos reset))
      exact ⟨s, run, fun _ _ => rfl, fun _ => rfl, nofun, rfl, rfl, rfl, rfl, rfl⟩
    | false =>
      have run : exec (.centreMark a) s = .next (stepAngle a AngleCounter.marked s) :=
        (exec_centreMark live a).trans (congrArg Host.Outcome.next (if_neg (by rw [reset]; exact Bool.false_ne_true)))
      have sense := stepAngle_sense a AngleCounter.marked s
      refine ⟨_, run, fun b other => ?_, nofun, fun _ => ⟨?_, fun gains => ?_⟩, stepAngle_sp .., sense.bc, sense.js, sense.dl, sense.dt⟩
      · rw [stepAngle_angle, if_neg other]
      · rw [stepAngle_angle, if_pos rfl]
        rfl
      · refine stepAngle_sets a _ s (gains.imp (fun off => ?_) fun off => ?_)
        · rw [off]
          exact nofun
        · rw [off]
          exact nofun
  · have run : exec (.illegalEntryExpiry a) s = .next (changeAngle a (fun x => { x with illegal := x.illegal.tail }) (atLeast (e + illegalPeriod) s)) := by
      refine (running_next live).trans (congrArg Host.Outcome.next ?_)
      rw [dropIllegal, listed]
    refine ⟨_, run, ?_, fun b other => ?_, by cases a <;> rfl⟩
    · rw [changeAngle_angle, if_pos rfl]
      show ({ s.angle a with illegal := (s.angle a).illegal.tail } : AngleCounter) = _
      rw [listed]
      rfl
    · rw [changeAngle_angle, if_neg other]
      rfl

end Sys2Proof.Machine
end

section
/-! PROOFS. The pair interlock (O35) and the ends of a generator's periods (O36). -/

namespace Sys2Proof.Machine

variable {s t : State} {c d : Corner} {g h : GenId} {now : Nat} {side : Side} {p : Program} {x : Pair}

/-! ### A program handed to a member of a pair (R71 to R73) -/

theorem Pair.hand_idle (idle : p.inRange = .idle) : x.hand now side p = Pair.make side ((x.at side).toIdle now) (x.at side.other) := by
  rw [Pair.hand, idle]

theorem Pair.hand_opens (opens : p.inRange ≠ .idle) : x.hand now side p =
    Pair.make side ((x.at side).begin now ((x.at side.other).toIdle now).closedAt p.inRange) ((x.at side.other).toIdle now) := by
  unfold Pair.hand
  split
  · exact absurd (by assumption) opens
  · rfl

theorem Generator.start_of_opens (opens : p ≠ .idle) (y : Generator) :
    (y.start now p).prog = p ∧ (y.start now p).isOpen = true ∧ (y.start now p).waiting = false ∧ (y.start now p).toCome = p.toCome := by
  cases p with
  | idle => exact absurd rfl opens
  | single n | train on off n | duty n => exact ⟨rfl, rfl, rfl, rfl⟩

/-- R73: the member waits out the dead time after the partner's last closing, or opens at once. -/
theorem Generator.begin_waits {t : Nat} (soon : now < t + deadTime) (y : Generator) : y.begin now (some t) p = y.wait now (t + deadTime) p :=
  if_pos soon

theorem Generator.begin_starts {last : Option Nat} (elapsed : last = none ∨ ∃ t, last = some t ∧ t + deadTime ≤ now) (y : Generator) :
    y.begin now last p = y.start now p := by
  rcases elapsed with rfl | ⟨t, rfl, elapsed⟩
  · rfl
  · exact if_neg (Nat.not_lt.mpr elapsed)

theorem Generator.begin_takes (opens : p ≠ .idle) (last : Option Nat) (y : Generator) :
    (y.begin now last p).prog = p ∧ (y.begin now last p).toCome = p.toCome := by
  obtain ⟨prog, _, _, toCome⟩ := y.start_of_opens (now := now) opens
  cases last with
  | none => exact ⟨prog, toCome⟩
  | some t =>
    unfold Generator.begin
    dsimp only
    split
    · exact ⟨rfl, rfl⟩
    · exact ⟨prog, toCome⟩

/-- Settles O35. -/
theorem pairInterlock : Obligations.PairInterlock := by
  intro now side p x y handed
  subst handed
  refine ⟨fun idle => ?_, fun opens => ?_, fun on off n train => ?_, fun t single => ?_, fun d duty => ?_, fun on off n train => ?_⟩
  · obtain ⟨mine, partner⟩ := Pair.make_at side ((x.at side).toIdle now) (x.at side.other)
    rw [Pair.hand_idle idle, mine, partner]
    exact ⟨rfl, rfl, rfl, rfl⟩
  · obtain ⟨mine, partner⟩ := Pair.make_at side ((x.at side).begin now ((x.at side.other).toIdle now).closedAt p.inRange)
      ((x.at side.other).toIdle now)
    rw [Pair.hand_opens opens, mine, partner]
    refine ⟨rfl, rfl, rfl, (Generator.begin_takes opens _ _).1, _, rfl, rfl, fun t closed soon => ?_, fun elapsed => ?_⟩
    · have closed : ((x.at side.other).toIdle now).closedAt = some t := closed
      rw [closed, Generator.begin_waits soon]
      exact ⟨rfl, rfl, rfl⟩
    · rw [Generator.begin_starts (last := ((x.at side.other).toIdle now).closedAt) elapsed]
      obtain ⟨_, isOpen, waiting, _⟩ := (x.at side).start_of_opens (now := now) opens
      exact ⟨isOpen, waiting⟩
  · have opens : p.inRange ≠ .idle := by rw [train]; nofun
    obtain ⟨mine, _⟩ := Pair.make_at side ((x.at side).begin now ((x.at side.other).toIdle now).closedAt p.inRange)
      ((x.at side.other).toIdle now)
    rw [Pair.hand_opens opens, mine, (Generator.begin_takes opens _ _).2, train]
    rfl
  · rw [single]
    rfl
  · rw [duty]
    rfl
  · rw [train, Program.inRange]
    simp only [Bool.or_eq_true, decide_eq_true_eq]

/-! ### A generator changed by name -/

theorem changeGen_gen_self (g : GenId) (f : Generator → Generator) (s : State) : (changeGen g f s).gen g = f (s.gen g) := by
  cases g
  all_goals simp [State.gen, changeGen, Valves.setGen, Valves.gen]

theorem updFirst_second (v : Vector Pair 6) (c d : Corner) (f : Generator → Generator) :
    (upd v c fun p => { p with first := f p.first })[d.val].second = v[d.val].second := by
  rw [upd_get]
  split
  · rename_i same
    rw [same]
  · rfl

theorem updSecond_first (v : Vector Pair 6) (c d : Corner) (f : Generator → Generator) :
    (upd v c fun p => { p with second := f p.second })[d.val].first = v[d.val].first := by
  rw [upd_get]
  split
  · rename_i same
    rw [same]
  · rfl

theorem changeGen_gen_ne {f : Generator → Generator} (other : h ≠ g) : (changeGen g f s).gen h = s.gen h := by
  cases g with
  | apply c => cases h with
    | apply d => exact congrArg Pair.first (upd_get_ne _ _ fun same => other (same ▸ rfl))
    | brakeExhaust d => exact updFirst_second ..
    | fill _ | cornerExhaust _ | kerbward | offward | damping => rfl
  | brakeExhaust c => cases h with
    | brakeExhaust d => exact congrArg Pair.second (upd_get_ne _ _ fun same => other (same ▸ rfl))
    | apply d => exact updSecond_first ..
    | fill _ | cornerExhaust _ | kerbward | offward | damping => rfl
  | fill c => cases h with
    | fill d => exact congrArg Pair.first (upd_get_ne _ _ fun same => other (same ▸ rfl))
    | cornerExhaust d => exact updFirst_second ..
    | apply _ | brakeExhaust _ | kerbward | offward | damping => rfl
  | cornerExhaust c => cases h with
    | cornerExhaust d => exact congrArg Pair.second (upd_get_ne _ _ fun same => other (same ▸ rfl))
    | fill d => exact updSecond_first ..
    | apply _ | brakeExhaust _ | kerbward | offward | damping => rfl
  | kerbward => cases h with
    | kerbward => exact absurd rfl other
    | apply _ | brakeExhaust _ | fill _ | cornerExhaust _ | offward | damping => rfl
  | offward => cases h with
    | offward => exact absurd rfl other
    | apply _ | brakeExhaust _ | fill _ | cornerExhaust _ | kerbward | damping => rfl
  | damping => cases h with
    | damping => exact absurd rfl other
    | apply _ | brakeExhaust _ | fill _ | cornerExhaust _ | kerbward | offward => rfl

/-! ### A grant given to the next corner (R110) -/

theorem giveGrant_fillsWith {w : WaitEntry} (live : s.inReset .level = false) (free : s.GrantFree) (ok : w.prog.inRange.completes = true) :
    (giveGrant d w s).FillsWith d w.prog.inRange := by
  have level := giveGrant_level live d d w
  rw [if_pos rfl] at level
  refine ⟨(giveGrant_granted free d d w).mpr (.inr rfl), ?_, ?_, ?_⟩
  · rw [giveGrant_corner, if_pos rfl]
  · show (giveGrant d w s).valves.level[d.val].first.prog = _
    rw [level]
    exact Pair.hand_prog s.now .first w.prog _
  · show (giveGrant d w s).valves.level[d.val].second.prog = _
    rw [level]
    have other := Pair.hand_other s.now .first w.prog s.valves.level[d.val]
    rw [if_neg (Program.completes_ne_idle ok)] at other
    exact congrArg Generator.prog other

theorem giveGrant_fillKept {w : WaitEntry} (live : s.inReset .level = false) (free : s.GrantFree) (other : d ≠ c) :
    s.FillKept (giveGrant d w s) c := by
  refine ⟨?_, ?_, ?_⟩
  · rw [giveGrant_corner, if_neg other]
  · rw [Bool.eq_iff_iff, giveGrant_granted free]
    simp [other]
  · rw [giveGrant_level live, if_neg other]

theorem State.FillKept.refl (s : State) (c : Corner) : s.FillKept s c := ⟨rfl, rfl, rfl⟩

theorem State.FillKept.trans {u : State} (h : s.FillKept t c) (k : t.FillKept u c) : s.FillKept u c :=
  ⟨k.1.trans h.1, k.2.1.trans h.2.1, k.2.2.trans h.2.2⟩

theorem State.FillKept.fillsWith (h : s.FillKept t c) (fills : s.FillsWith c p) : t.FillsWith c p :=
  ⟨h.2.1.trans fills.1, h.1.trans fills.2.1, (congrArg (fun x : Pair => x.first.prog) h.2.2).trans fills.2.2.1,
    (congrArg (fun x : Pair => x.second.prog) h.2.2).trans fills.2.2.2⟩

/-- The arbiter gives the free grant to the next corner. -/
theorem arbitrateOnce_next {w : WaitEntry} (above : s.lc.reserve = .above) (free : s.GrantFree) (next : IsNext s.waitError d)
    (waits : (s.corner d).waiting = some w) : arbitrateOnce s = giveGrant d w s := by
  rcases arbitrateOnce_cases s with ⟨_, none'⟩ | ⟨c, v, _, _, waits', next', given⟩
  · exact absurd (waits.symm.trans (none' above free d)) nofun
  · cases isNext_unique next next'
    cases waits.symm.trans waits'
    exact given

/-- With no grant free, with RESERVE at BELOW, or with no corner waiting, the arbiter gives none. -/
theorem arbitrateOnce_rests (rests : ¬ s.GrantFree ∨ s.lc.reserve = .below ∨ ∀ c, (s.corner c).waiting = none) : arbitrateOnce s = s := by
  rcases arbitrateOnce_cases s with ⟨same, _⟩ | ⟨c, v, above, free, waits, _, _⟩
  · exact same
  · rcases rests with taken | below | none'
    · exact absurd free taken
    · exact absurd (above.symm.trans below) nofun
    · exact absurd ((none' c).symm.trans waits) nofun

theorem arbitrate_rests (rests : ¬ s.GrantFree ∨ s.lc.reserve = .below ∨ ∀ c, (s.corner c).waiting = none) : arbitrate s = s := by
  rw [arbitrate, arbitrateOnce_rests rests, arbitrateOnce_rests rests]

/-- With one grant free, the next corner gets it and the others are as they were. -/
theorem arbitrate_one {w : WaitEntry} (above : s.lc.reserve = .above) (one : s.freeGrants = 1)
    (next : IsNext s.waitError d) (waits : (s.corner d).waiting = some w) : arbitrate s = giveGrant d w s := by
  have free : s.GrantFree := by
    by_contra taken
    have zero : ¬ s.lc.grants[0] = none := fun h => taken (.inl h)
    have second : ¬ s.lc.grants[1] = none := fun h => taken (.inr h)
    rw [State.freeGrants, if_neg zero, if_neg second] at one
    cases one
  rw [arbitrate, arbitrateOnce_next above free next waits]
  refine arbitrateOnce_rests (.inl fun again => ?_)
  have left := giveGrant_freeGrants (c := d) w free
  have some' := freeGrants_pos again
  omega

/-! ### A program runs out (R71, R110) -/

/-- With no corner waiting, the run-out of a FILL returns its corner's grant, and any other reaches nobody. -/
theorem ranOut_unwaited (alone : ∀ c d : Corner, g = .fill c → (s.corner d).waiting = none) :
    ∃ grants, ranOut g s = { s with lc := { s.lc with grants := grants } } ∧
      ∀ c : Corner, (ranOut g s).granted c = (s.granted c && decide (g ≠ .fill c)) := by
  have same (other : ∀ c, g ≠ .fill c) (c : Corner) : s.granted c = (s.granted c && decide (g ≠ .fill c)) := by
    rw [decide_eq_true (other c), Bool.and_true]
  cases g with
  | fill c =>
    have returned : ranOut (.fill c) s = s.ungrant c := by
      show returnGrant c s = _
      rw [returnGrant_eq]
      exact arbitrate_rests (.inr (.inr fun d => alone c d rfl))
    refine ⟨_, returned, fun d => ?_⟩
    rw [returned, Bool.eq_iff_iff, ungrant_granted, Bool.and_eq_true, decide_eq_true_eq, ne_eq, ne_eq, GenId.fill.injEq, eq_comm (a := c)]
  | apply _ | brakeExhaust _ | cornerExhaust _ | kerbward | offward | damping => exact ⟨s.lc.grants, rfl, same nofun⟩

/-- The part with a generator's program run out at a moment. -/
def State.ended (s : State) (g : GenId) (e : Nat) : State := changeGen g (Generator.toIdle (max s.now e)) (atLeast e s)

theorem exec_singlePeriodEnd {n e : Nat} (live : s.resetHeld = false) (prog : (s.gen g).prog = .single n) (runs : (s.gen g).waiting = false)
    (ends : (s.gen g).endAt = some e) : exec (.singlePeriodEnd g) s = .next (ranOut g (s.ended g e)) := by
  refine (running_next (f := singleEnd g) live).trans (congrArg Host.Outcome.next ?_)
  unfold singleEnd
  dsimp only
  rw [prog, runs, ends]
  rfl

theorem exec_trainPeriodEnd {on off n e : Nat} (live : s.resetHeld = false) (prog : (s.gen g).prog = .train on off n)
    (runs : (s.gen g).waiting = false) (ends : (s.gen g).endAt = some e) : exec (.trainPeriodEnd g) s = .next
      (if (s.gen g).isOpen = false then changeGen g (Generator.reopenTrain (max s.now e) on) (atLeast e s)
      else if 0 < (s.gen g).toCome then changeGen g (Generator.closeTrain (max s.now e) off) (atLeast e s)
      else ranOut g (s.ended g e)) := by
  refine (running_next (f := trainEnd g) live).trans (congrArg Host.Outcome.next ?_)
  unfold trainEnd
  dsimp only
  rw [prog, runs, ends]
  cases (s.gen g).isOpen <;> rfl

theorem ended_gen_self (g : GenId) (e : Nat) : (s.ended g e).gen g = (s.gen g).toIdle (max s.now e) := changeGen_gen_self g _ (atLeast e s)

theorem ended_gen_ne (e : Nat) (other : h ≠ g) : (s.ended g e).gen h = s.gen h := changeGen_gen_ne (s := atLeast e s) other

/-- Where a corner waits, both grants are held, by RESERVE at ABOVE; the return of one leaves one free. -/
theorem ungrant_freeGrants (rules : FillRules s) (above : s.lc.reserve = .above) (waits : (s.corner d).waiting ≠ none)
    (held : s.granted c = true) : (s.ungrant c).freeGrants = 1 := by
  have taken := rules.settled above d waits
  have zero := ungrant_get s c 0
  have one := ungrant_get s c 1
  simp only [Fin.val_zero, Fin.val_one] at zero one
  have first : s.lc.grants[0] ≠ none := fun none' => taken (.inl none')
  have second : s.lc.grants[1] ≠ none := fun none' => taken (.inr none')
  unfold State.freeGrants
  rw [zero, one]
  rcases granted_iff.mp held with here | here
  · have apart : s.lc.grants[1] ≠ some c := fun same => first (rules.distinct (here.trans same.symm))
    rw [if_pos here, if_neg apart, if_pos rfl, if_neg second]
  · have apart : s.lc.grants[0] ≠ some c := fun same => first (rules.distinct (same.trans here.symm))
    rw [if_neg apart, if_pos here, if_neg first, if_pos rfl]

/-- R110: the grant of a fill that ends goes to the next corner of those that wait. `v` are the valves after the end. -/
theorem returnGrant_next {v : Valves} {n : Nat} {w : WaitEntry} (rules : FillRules s) (held : s.granted c = true) (next : IsNext s.waitError d)
    (waits : (s.corner d).waiting = some w) : c ≠ d ∧
    returnGrant c { s with now := n, valves := v } = giveGrant d w (({ s with now := n, valves := v } : State).ungrant c) ∧
    (({ s with now := n, valves := v } : State).ungrant c).GrantFree := by
  have above : s.lc.reserve = .above := by
    cases reserve : s.lc.reserve with
    | above => rfl
    | below => exact absurd (held.symm.trans (rules.cut reserve c)) nofun
  have one : (({ s with now := n, valves := v } : State).ungrant c).freeGrants = 1 :=
    ungrant_freeGrants (s := s) rules above (d := d) (by rw [waits]; nofun) held
  refine ⟨fun same => ?_, ?_, ?_⟩
  · subst same
    exact absurd (held.symm.trans (rules.waiting c w waits).1) nofun
  · rw [returnGrant_eq]
    exact arbitrate_one (s := ({ s with now := n, valves := v } : State).ungrant c) above one next waits
  · by_contra taken
    rw [State.GrantFree, not_or] at taken
    rw [State.freeGrants, if_neg taken.1, if_neg taken.2] at one
    cases one

/-- R110: a FILL that runs out gives its grant to the next corner, and the other corners are as they were. -/
theorem ranOut_next {e : Nat} {w : WaitEntry} (rules : FillRules s) (runs : (s.gen (.fill c)).prog ≠ .idle) (next : IsNext s.waitError d)
    (waits : (s.corner d).waiting = some w) :
    ((ranOut (.fill c) (s.ended (.fill c) e)).gen (.fill c)).prog = .idle ∧ (ranOut (.fill c) (s.ended (.fill c) e)).granted c = false ∧
      (ranOut (.fill c) (s.ended (.fill c) e)).FillsWith d w.prog.inRange ∧
      ∀ k, k ≠ c → k ≠ d → s.FillKept (ranOut (.fill c) (s.ended (.fill c) e)) k := by
  have held : s.granted c = true := (rules.granted c).mpr runs
  have live : s.inReset .level = false := rules.live (c := d) (by rw [waits]; nofun)
  obtain ⟨apart, given, free⟩ := returnGrant_next (v := (s.ended (.fill c) e).valves) (n := max s.now e) rules held next waits
  have out : ranOut (.fill c) (s.ended (.fill c) e) = giveGrant d w ((s.ended (.fill c) e).ungrant c) := given
  have kept (k : Corner) (other : d ≠ k) := giveGrant_fillKept (s := (s.ended (.fill c) e).ungrant c) (w := w) live free other
  rw [out]
  refine ⟨?_, ?_, giveGrant_fillsWith live free (rules.waiting d w waits).2, fun k other away => ?_⟩
  · refine (congrArg (fun x : Pair => x.first.prog) (kept c apart.symm).2.2).trans ?_
    exact congrArg Generator.prog (ended_gen_self (.fill c) e)
  · rw [(kept c apart.symm).2.1, ← Bool.not_eq_true, ungrant_granted]
    exact fun h => h.2 rfl
  · have left : s.FillKept ((s.ended (.fill c) e).ungrant c) k := by
      refine ⟨rfl, ?_, ?_⟩
      · rw [Bool.eq_iff_iff, ungrant_granted]
        exact and_iff_left other
      · exact upd_get_ne _ _ other.symm
    exact left.trans (kept k away.symm)

/-- Settles O36. -/
theorem generatorPeriods : Obligations.GeneratorPeriods := by
  intro s g x e live same
  subst same
  refine ⟨fun n prog runs ends alone => ?_, fun on off n prog runs ends alone => ?_, fun command c d w fill runs ends law what next waits => ?_,
    fun d prog runs => ⟨fun ends => ?_, fun ends => ?_⟩, fun waiting ends holds => ?_⟩
  · obtain ⟨grants, out, granted⟩ := ranOut_unwaited (s := s.ended g e) (g := g) alone
    have gen := ended_gen_self (s := s) g e
    refine ⟨_, exec_singlePeriodEnd live prog runs ends, ?_, ?_, ?_, ?_, fun h other => ?_, ?_, granted⟩
    all_goals rw [out]
    · rfl
    · exact congrArg Generator.prog gen
    · exact congrArg Generator.isOpen gen
    · exact congrArg Generator.closedAt gen
    · exact ended_gen_ne e other
    · rfl
  · have run := exec_trainPeriodEnd live prog runs ends
    have moment (f : Generator → Generator) : (changeGen g f (atLeast e s)).now = max s.now e := rfl
    have others (f : Generator → Generator) (h : GenId) (other : h ≠ g) : (changeGen g f (atLeast e s)).gen h = s.gen h :=
      changeGen_gen_ne (s := atLeast e s) other
    have mine (f : Generator → Generator) : (changeGen g f (atLeast e s)).gen g = f (s.gen g) := changeGen_gen_self g f (atLeast e s)
    cases isOpen : (s.gen g).isOpen with
    | false =>
      rw [if_pos isOpen] at run
      refine ⟨_, run, rfl, others _, rfl, fun _ => ⟨?_, rfl⟩, nofun, nofun⟩
      exact mine _
    | true =>
      rw [if_neg (by rw [isOpen]; nofun)] at run
      by_cases more : 0 < (s.gen g).toCome
      · rw [if_pos more] at run
        refine ⟨_, run, rfl, others _, rfl, nofun, fun _ _ => ⟨?_, rfl⟩, fun _ none' => absurd none' (Nat.ne_of_gt more)⟩
        rw [mine, Generator.closeTrain, isOpen]
        rfl
      · rw [if_neg more] at run
        obtain ⟨grants, out, granted⟩ := ranOut_unwaited (s := s.ended g e) (g := g) alone
        have gen := ended_gen_self (s := s) g e
        refine ⟨_, run, ?_, fun h other => ?_, ?_, nofun, fun _ some' => absurd some' more, fun _ _ => ⟨?_, ?_, ?_, granted⟩⟩
        all_goals rw [out]
        · rfl
        · exact ended_gen_ne e other
        · rfl
        · exact congrArg Generator.prog gen
        · exact congrArg Generator.isOpen gen
        · refine (congrArg Generator.closedAt gen).trans ?_
          rw [Generator.toIdle, Generator.quiet, isOpen]
          rfl
  · subst fill
    have rules := fillLaw_iff.mp law live
    rcases what with ⟨⟨n, prog⟩, rfl⟩ | ⟨⟨on, off, n, prog⟩, isOpen, last, rfl⟩
    · exact ⟨_, exec_singlePeriodEnd live prog runs ends, ranOut_next rules (by rw [prog]; nofun) next waits⟩
    · have run := exec_trainPeriodEnd live prog runs ends
      rw [if_neg (by rw [isOpen]; nofun), if_neg (by rw [last]; exact Nat.lt_irrefl 0)] at run
      exact ⟨_, run, ranOut_next rules (by rw [prog]; nofun) next waits⟩
  · have run : exec (.dutyOpenEnd g) s = .next (changeGen g (Generator.closeDuty (max s.now e)) (atLeast e s)) := by
      refine (running_next (f := dutyOpenOver g) live).trans (congrArg Host.Outcome.next ?_)
      unfold dutyOpenOver
      dsimp only
      rw [prog, runs, ends]
      rfl
    exact ⟨_, run, rfl, changeGen_gen_self g _ (atLeast e s), fun h other => changeGen_gen_ne (s := atLeast e s) other, rfl⟩
  · have run : exec (.dutyPeriodEnd g) s = .next (changeGen g (Generator.start (max s.now e) (.duty d)) (atLeast e s)) := by
      refine (running_next (f := dutyPeriodOver g) live).trans (congrArg Host.Outcome.next ?_)
      unfold dutyPeriodOver
      dsimp only
      rw [prog, runs, ends]
      rfl
    refine ⟨_, run, rfl, ?_, fun h other => changeGen_gen_ne (s := atLeast e s) other, rfl⟩
    rw [changeGen_gen_self]
    show Generator.start (max s.now e) (.duty d) (s.gen g) = _
    rw [Generator.start, prog, runs]
    rfl
  · have run : exec (.deadTimeEnd g) s = .next (changeGen g (Generator.start (max s.now e) (s.gen g).prog) (atLeast e s)) := by
      refine (running_next (f := deadTimeOver g) live).trans (congrArg Host.Outcome.next ?_)
      unfold deadTimeOver
      dsimp only
      rw [waiting, ends]
      rfl
    obtain ⟨prog, isOpen, runs, _⟩ := (s.gen g).start_of_opens (now := max s.now e) holds
    refine ⟨_, run, rfl, ?_, ?_, ?_, fun n single => ?_, fun h other => changeGen_gen_ne (s := atLeast e s) other, rfl⟩
    all_goals rw [changeGen_gen_self]
    · exact prog
    · exact isOpen
    · exact runs
    · rw [single]
      rfl

end Sys2Proof.Machine
end

section
/-! PROOFS. Door lines: words taken and discarded, the clock, a send's end, the loss of a line (O44 to O48). -/

namespace Sys2Proof.Machine

variable {s t : State} {d b : Door} {code : BitVec 7} {parity : Bool} {stop : StopBit} {l : Line}

/-! ### Lines and their clocks -/

theorem changeLine_eq (d : Door) (f : Line → Line) (s : State) : changeLine d f s = s.withLine d (f (s.line d)) := rfl

theorem changeLine_line (d b : Door) (f : Line → Line) (s : State) : (changeLine d f s).line b = if d = b then f (s.line d) else s.line b :=
  upd_get s.dl.lines d b f

/-- A clock that is free already is left (R142). -/
theorem settleClock_free (free : (s.line d).clockLow = false) : settleClock d s = s := by
  unfold settleClock
  dsimp only
  rw [if_neg (by rw [free]; exact Bool.false_ne_true)]

theorem bump_eq (top n : Nat) : bump top n = min top (n + 1) := by
  unfold bump
  split <;> omega

theorem goodWord_true (odd : oddOnes code parity = true) (high : stop ≠ .low) : goodWord code parity stop = true := by
  rw [goodWord, odd, Bool.true_and]
  exact bne_iff_ne.mpr high

theorem goodWord_false (bad : oddOnes code parity = false ∨ stop = .low) : goodWord code parity stop = false := by
  rcases bad with even | low
  · rw [goodWord, even, Bool.false_and]
  · rw [goodWord, low]
    exact Bool.and_false _

/-- A word that reaches a line which listens or receives with its clock free is judged. -/
theorem exec_doorWord (live : s.resetHeld = false) (still : s.inReset .doors = false)
    (open' : (s.line d).activity = .listening ∨ (s.line d).activity = .receiving) (free : (s.line d).clockLow = false) :
    exec (.doorWord d code parity stop) s = .next (judgeWord d code parity stop s) := by
  refine (running_next (f := fun s => if s.inReset .doors then s else takeWord d code parity stop s) live).trans (congrArg Host.Outcome.next ?_)
  rw [if_neg (by rw [still]; exact Bool.false_ne_true), takeWord]
  rcases open' with here | here
  · rw [here]
    dsimp only
    rw [settleClock_free free]
  · rw [here]
    dsimp only
    rw [settleClock_free free]

/-- Settles O45. -/
theorem doorWordsDiscarded : Obligations.DoorWordsDiscarded := by
  intro s d l live same free
  subst same
  refine ⟨fun code parity stop still open' bad => ?_, fun receives => ?_, fun still listens => ?_⟩
  · rw [exec_doorWord live still open' free, judgeWord, goodWord_false bad, if_neg Bool.false_ne_true, discardWord, changeLine_eq, bump_eq]
  · refine (running_next (f := stopWord d) live).trans (congrArg Host.Outcome.next ?_)
    rw [stopWord, receives]
    dsimp only
    rw [discardWord, changeLine_eq, bump_eq]
    rfl
  · refine (running_next (f := fun s => if s.inReset .doors then s else startWord d s) live).trans (congrArg Host.Outcome.next ?_)
    rw [if_neg (by rw [still]; exact Bool.false_ne_true), startWord, listens]
    dsimp only
    rw [settleClock_free free]
    rfl

/-! ### The clock (R142, R147, R148) -/

theorem tryFree_held {now : Nat} {reset : Bool} (holds : l.causeHolds reset = true) : l.tryFree now reset = l := by
  rw [Line.tryFree, holds, Bool.or_true, if_pos rfl]

theorem tryFree_free {now : Nat} {reset : Bool} (low : l.clockLow = true) (loose : l.causeHolds reset = false)
    (past : ∀ m, l.minimumAt = some m → m ≤ now) : l.tryFree now reset = l.free now := by
  rw [Line.tryFree, low, loose]
  cases least : l.minimumAt with
  | none => rfl
  | some m => exact if_neg (Nat.not_lt.mpr (past m least))

theorem exec_inhibitMinEnd {e : Nat} (live : s.resetHeld = false) (least : (s.line d).minimumAt = some e) :
    exec (.inhibitMinEnd d) s = .next ((s.atTime (max s.now e)).withLine d ((s.line d).minimumOver (max s.now e) (s.inReset .doors))) := by
  refine (running_next (f := minimumEnd d) live).trans (congrArg Host.Outcome.next ?_)
  rw [minimumEnd, least]
  rfl

/-- Settles O46. -/
theorem lineClock : Obligations.LineClock := by
  intro s d l e live same
  subst same
  refine ⟨fun least low listens still => ?_, fun least held => ?_, fun c rest queue present clear empty still listens free => ?_, fun barred => ?_,
    fun x sends holds sending low past => ?_⟩
  · rw [exec_inhibitMinEnd live least, Line.minimumOver, tryFree_free (l := { s.line d with minimumAt := none }) low]
    · rw [Line.free]
      dsimp only
      rw [listens, if_neg nofun]
    · rw [Line.causeHolds, still]
      dsimp only
      rw [listens]
      rfl
    · exact nofun
  · rw [exec_inhibitMinEnd live least, Line.minimumOver, tryFree_held]
    rw [Line.causeHolds]
    dsimp only
    rw [held]
    rfl
  · have ready : sendReady s d = true := by
      rw [sendReady, queue, present, clear, empty, still, listens]
      rfl
    have run : exec (.sendStart d) s = .next (changeLine d (Line.startSend (max s.now ((s.line d).freeSince + listenPeriod)) c)
        (atLeast ((s.line d).freeSince + listenPeriod) s)) := by
      refine (running_next (f := beginSend d) live).trans (congrArg Host.Outcome.next ?_)
      rw [beginSend, if_pos ready]
      dsimp only
      rw [settleClock_free free]
      have queued : ((atLeast ((s.line d).freeSince + listenPeriod) s).line d).queue = c :: rest := queue
      rw [queued]
      rfl
    refine ⟨_, run, rfl, ?_, ?_⟩
    · rw [changeLine_line, if_pos rfl]
      rfl
    · rw [changeLine_line, if_pos rfl, Line.startSend, Line.takeLow]
      rw [if_neg (by show ¬ (s.line d).clockLow = true; rw [free]; exact Bool.false_ne_true)]
      rfl
  · have cannot : sendReady s d = false := by
      rw [sendReady]
      rcases barred with none' | lost | waits | holds | reset | busy
      · simp [none']
      · simp [lost]
      · simp [waits]
      · obtain ⟨w, holds⟩ := Option.ne_none_iff_exists'.mp holds
        simp [holds]
      · simp [reset]
      · simp [busy]
    refine (running_next (f := beginSend d) live).trans (congrArg Host.Outcome.next ?_)
    rw [beginSend, if_neg (by rw [cannot]; exact Bool.false_ne_true)]
  · have run : exec (.sendClockRelease d) s = .next (changeLine d (Line.releaseSend (max s.now x.releaseAt) x) (atLeast x.releaseAt s)) := by
      refine (running_next (f := releaseClock d) live).trans (congrArg Host.Outcome.next ?_)
      rw [releaseClock, sends]
      dsimp only
      rw [if_neg (by rw [holds]; exact Bool.false_ne_true)]
      rfl
    refine ⟨_, run, rfl, ?_, ?_⟩
    · rw [changeLine_line, if_pos rfl]
      rfl
    · rw [changeLine_line, if_pos rfl, Line.releaseSend, tryFree_free]
      · rw [Line.free]
        dsimp only
        rw [if_pos (show ((atLeast x.releaseAt s).line d).activity = .sending from sending)]
        rfl
      · exact low
      · rw [Line.causeHolds]
        dsimp only
        rw [show ((atLeast x.releaseAt s).line d).activity = .sending from sending]
        rfl
      · exact fun m least => le_max_of_le_right (past m least)

/-! ### State reports (R144) -/

theorem changeLine_stands {f : Line → Line} (same : f (s.line d) = s.line d) : changeLine d f s = s := by
  rw [changeLine]
  have lines : upd s.dl.lines d f = s.dl.lines := upd_fixed same
  rw [lines]

theorem setDoor_table (d : Door) (x : DoorState) (s : State) : TableOnly (changeLine d (fun l => { l with door := x }) s) (setDoor d x s) := by
  unfold setDoor
  split
  · rename_i same
    rw [changeLine_stands (by rw [← same])]
    exact .refl s
  · exact doorEvent_table d _

theorem setRamp_table (x : RampState) (s : State) : TableOnly { s with dl := { s.dl with ramp := x } } (setRamp x s) := by
  unfold setRamp
  split
  · rename_i same
    rw [← same]
    exact .refl s
  · exact rampEvent_table _

theorem setDoor_stands {x : DoorState} (same : (s.line d).door = x) : setDoor d x s = s := if_pos same

theorem setRamp_stands {x : RampState} (same : s.dl.ramp = x) : setRamp x s = s := if_pos same

theorem setDoor_sets {x : DoorState} (changes : (s.line d).door ≠ x) : (setDoor d x s).flag .door = true := by
  rw [setDoor, if_neg changes]
  exact doorEvent_sets d _

theorem setRamp_sets {x : RampState} (changes : s.dl.ramp ≠ x) : (setRamp x s).flag .door = true := by
  rw [setRamp, if_neg changes, rampEvent]
  exact evalListing_flag (s := setFlag .door { s with dl := { s.dl with ramp := x } }) _ (by rw [setFlag_flag]; rfl)

theorem setRamp_flagsStay (x : RampState) (s : State) : FlagsStay s (setRamp x s) := by
  unfold setRamp
  split
  · exact .refl s
  · exact ⟨fun _ set => rampEvent_flag (s := { s with dl := { s.dl with ramp := x } }) set⟩

theorem doorReport_eq (code : BitVec 7) (was : DoorState) : (doorReport code.toNat).getD was = reported code was := by
  revert code
  cases was
  all_goals decide +kernel

theorem rampReport_eq (d : Door) (code : BitVec 7) (was : RampState) : (rampReport d code.toNat).getD was =
    if d = 1 ∧ code = 0x15 then .out else if d = 1 ∧ code = 0x16 then .stowed else was := by
  revert code d
  cases was
  all_goals decide +kernel

theorem TableOnly.replace_dl (h : TableOnly s t) (x : DoorLines) : TableOnly { s with dl := x } { t with dl := x } :=
  ⟨h.pending, h.now, h.resetHeld, h.profiles, h.sp, h.mc, h.bc, h.js, rfl, h.dt, h.degraded, h.brake, h.steer, h.damping, h.hl⟩

/-- The lines and the ramp state after a code's report. -/
def State.reportLines (s : State) (d : Door) (code : BitVec 7) : DoorLines :=
  ⟨upd s.dl.lines d fun l => { l with door := reported code l.door }, (rampReport d code.toNat).getD s.dl.ramp⟩

theorem takeReport_table (d : Door) (code : BitVec 7) (s : State) :
    TableOnly { s with dl := s.reportLines d code } (takeReport d code.toNat s) := by
  have door : TableOnly (changeLine d (fun l => { l with door := reported code l.door }) s)
      (match doorReport code.toNat with | some x => setDoor d x s | none => s) := by
    have report := doorReport_eq code
    cases what : doorReport code.toNat with
    | some x =>
      simp only [what, Option.getD_some] at report
      simp only [← report]
      exact setDoor_table d x s
    | none =>
      simp only [what, Option.getD_none] at report
      simp only [← report]
      rw [changeLine_stands rfl]
      exact .refl s
  have ramp (y : State) : TableOnly { y with dl := { y.dl with ramp := (rampReport d code.toNat).getD y.dl.ramp } }
      (match rampReport d code.toNat with | some x => setRamp x y | none => y) := by
    cases rampReport d code.toNat with
    | some x => exact setRamp_table x y
    | none => exact .refl y
  have both (y : State) (hy : TableOnly (changeLine d (fun l => { l with door := reported code l.door }) s) y) :
      TableOnly { s with dl := s.reportLines d code } (match rampReport d code.toNat with | some x => setRamp x y | none => y) := by
    have next := (hy.replace_dl { y.dl with ramp := (rampReport d code.toNat).getD y.dl.ramp }).trans (ramp y)
    rw [hy.dl] at next
    exact next
  exact both _ door

theorem takeReport_stands (door : reported code (s.line d).door = (s.line d).door)
    (ramp : (rampReport d code.toNat).getD s.dl.ramp = s.dl.ramp) : takeReport d code.toNat s = s := by
  have report := doorReport_eq code (s.line d).door
  rw [door] at report
  unfold takeReport
  cases what : doorReport code.toNat with
  | some x =>
    rw [what] at report
    have stays : setDoor d x s = s := setDoor_stands (Eq.symm report)
    dsimp only
    rw [stays]
    cases out : rampReport d code.toNat with
    | some y =>
      rw [out] at ramp
      exact setRamp_stands (Eq.symm ramp)
    | none => rfl
  | none =>
    dsimp only
    cases out : rampReport d code.toNat with
    | some y =>
      rw [out] at ramp
      exact setRamp_stands (Eq.symm ramp)
    | none => rfl

theorem takeReport_sets (changes : reported code (s.line d).door ≠ (s.line d).door ∨ (rampReport d code.toNat).getD s.dl.ramp ≠ s.dl.ramp) :
    (takeReport d code.toNat s).flag .door = true := by
  have report := doorReport_eq code (s.line d).door
  have ramp (y : State) : FlagsStay y (match rampReport d code.toNat with | some x => setRamp x y | none => y) := by
    split
    · exact setRamp_flagsStay ..
    · exact .refl y
  rcases changes with door | out
  · rw [← report] at door
    refine (ramp _).stays _ ?_
    cases what : doorReport code.toNat with
    | some x =>
      rw [what] at door
      exact setDoor_sets (Ne.symm door)
    | none =>
      rw [what] at door
      exact absurd rfl door
  · have kept (y : State) (hy : y.dl.ramp = s.dl.ramp) : (match rampReport d code.toNat with | some x => setRamp x y | none => y).flag .door = true := by
      cases what : rampReport d code.toNat with
      | some x =>
        rw [what] at out
        exact setRamp_sets (by rw [hy]; exact Ne.symm out)
      | none =>
        rw [what] at out
        exact absurd rfl out
    refine kept _ ?_
    cases doorReport code.toNat with
    | some x => exact (congrArg DoorLines.ramp (setDoor_table d x s).dl :)
    | none => rfl

/-! ### A good word taken (R141, R145, R166) -/

/-- A line that a good word has reached, less its report: it is PRESENT, and queued its permission and QUERY_STATE when it was LOST. -/
def State.hearing (s : State) (d : Door) : State :=
  if (s.line d).present then changeLine d (fun l => l.heard s.now) s
  else restorePermission d (changeLine d (fun l => l.heard s.now) s)

theorem queued_frame (c : Command) (l : Line) : l.queued c =
    { l with queue := enqueue c l.queue, attempts := (l.queued c).attempts, send := (l.queued c).send } := by
  unfold Line.queued
  split <;> rfl

theorem restorePermission_eq (d : Door) (s : State) : restorePermission d s =
    if s.inReset .doors then s else changeLine d (fun l => (l.queued (permissionFor s d)).queued .queryState) s := by
  cases reset : s.inReset .doors with
  | true =>
    have once (c : Command) : queueCommand d c s = s := if_pos reset
    rw [restorePermission, once, once]
    rfl
  | false =>
    have once (c : Command) : queueCommand d c s = changeLine d (Line.queued c) s := if_neg (by rw [reset]; exact Bool.false_ne_true)
    have again (c : Command) : queueCommand d c (changeLine d (Line.queued (permissionFor s d)) s) =
        changeLine d (Line.queued c) (changeLine d (Line.queued (permissionFor s d)) s) :=
      if_neg (by show ¬ s.inReset .doors = true; rw [reset]; exact Bool.false_ne_true)
    rw [restorePermission, once, again, if_neg Bool.false_ne_true]
    simp only [changeLine, upd, Vector.getElem_set_self, Vector.set_set]

/-- What hearing a word makes of the line (R141, R166). -/
structure Heard (s : State) (d : Door) (l : Line) : Prop where
  state   : s.hearing d = s.withLine d l
  line    : l = { s.line d with present := true, loss := .running (s.now + lossPeriod), sendWait := false, queue := l.queue,
                                attempts := l.attempts, send := l.send }
  present : (s.line d).present = true → l.queue = (s.line d).queue ∧ l.attempts = (s.line d).attempts ∧ l.send = (s.line d).send
  lost    : (s.line d).present = false → s.inReset .doors = false →
    l.queue = enqueue .queryState (enqueue (if s.isReleased d then .permit else .withhold) (s.line d).queue)
  idle    : (s.line d).send = none → l.send = none

theorem queued_idle {c : Command} (idle : l.send = none) : (l.queued c).send = none := by
  unfold Line.queued
  split
  · exact Option.map_eq_none_iff.mpr idle
  · exact idle

theorem hearing_heard (s : State) (d : Door) : ∃ l, Heard s d l := by
  cases present : (s.line d).present with
  | true =>
    refine ⟨(s.line d).heard s.now, ?_, rfl, fun _ => ⟨rfl, rfl, rfl⟩, fun lost => absurd (present.symm.trans lost) nofun, id⟩
    rw [State.hearing, if_pos present]
    rfl
  | false =>
    have heard : s.hearing d = restorePermission d (changeLine d (fun l => l.heard s.now) s) := if_neg (by rw [present]; exact Bool.false_ne_true)
    have same : (changeLine d (fun l => l.heard s.now) s).inReset .doors = s.inReset .doors := rfl
    rw [restorePermission_eq, same] at heard
    cases reset : s.inReset .doors with
    | true =>
      rw [reset, if_pos rfl] at heard
      exact ⟨(s.line d).heard s.now, heard, rfl, fun there => absurd (present.symm.trans there) nofun, fun _ live => absurd (reset.symm.trans live) nofun, id⟩
    | false =>
      rw [reset, if_neg Bool.false_ne_true] at heard
      have permission : permissionFor (changeLine d (fun l => l.heard s.now) s) d = if s.isReleased d then .permit else .withhold := rfl
      rw [permission] at heard
      refine ⟨(((s.line d).heard s.now).queued (if s.isReleased d then .permit else .withhold)).queued .queryState, ?_, ?_,
        fun there => absurd (present.symm.trans there) nofun, fun _ _ => ?_, fun idle => queued_idle (queued_idle idle)⟩
      · rw [heard]
        simp only [changeLine, upd, Vector.getElem_set_self, Vector.set_set]
        rfl
      · rw [queued_frame, queued_frame (if s.isReleased d then Command.permit else Command.withhold)]
        rfl
      · rw [queued_frame, queued_frame (if s.isReleased d then Command.permit else Command.withhold)]
        rfl

/-- What the taking of a good word comes to, at a line whose clock is free (R141, R142, R144, R145, R157, R166). -/
structure WordTaken (s : State) (d : Door) (code : BitVec 7) (t : State) : Prop where
  now     : t.now = s.now
  line    : t.line d = { s.line d with
    present := true
    loss := .paused lossPeriod
    sendWait := false
    door := if (s.line d).prefixPending then (s.line d).door else reported code (s.line d).door
    holding := some code
    activity := .held
    clockLow := true
    minimumAt := some (s.now + inhibitPeriod)
    queue := (t.line d).queue
    attempts := (t.line d).attempts
    send := (t.line d).send }
  present : (s.line d).present = true → (t.line d).queue = (s.line d).queue ∧ (t.line d).attempts = (s.line d).attempts ∧
    (t.line d).send = (s.line d).send
  lost    : (s.line d).present = false → s.inReset .doors = false →
    (t.line d).queue = enqueue .queryState (enqueue (if s.isReleased d then .permit else .withhold) (s.line d).queue)
  idle    : (s.line d).send = none → (t.line d).send = none
  others  : ∀ b, b ≠ d → t.line b = s.line b
  ramp    : t.dl.ramp = if (s.line d).prefixPending then s.dl.ramp else (rampReport d code.toNat).getD s.dl.ramp
  dt      : t.dt = if (s.line d).prefixPending then { s.dt with prefixAt := upd s.dt.prefixAt d fun _ => none } else s.dt
  sp      : t.sp = s.sp
  mc      : t.mc = s.mc
  bc      : t.bc = s.bc
  js      : t.js = s.js
  quiet   : (s.line d).prefixPending = true ∨ (reported code (s.line d).door = (s.line d).door ∧
    (rampReport d code.toNat).getD s.dl.ramp = s.dl.ramp) → t.rt = s.rt ∧ t.eu = s.eu ∧ t.hl = s.hl
  sets    : (s.line d).prefixPending = false → reported code (s.line d).door ≠ (s.line d).door ∨
    (rampReport d code.toNat).getD s.dl.ramp ≠ s.dl.ramp → t.flag .door = true

/-- A line just heard, with its door state, takes a code and goes HELD. -/
theorem Heard.fill {y : Line} (h : Heard s d y) (free : (s.line d).clockLow = false) (x : DoorState) :
    ({ y with door := x } : Line).fill s.now code = { s.line d with
      present := true
      loss := .paused lossPeriod
      sendWait := false
      door := x
      holding := some code
      activity := .held
      clockLow := true
      minimumAt := some (s.now + inhibitPeriod)
      queue := y.queue
      attempts := y.attempts
      send := y.send } := by
  have low : y.clockLow = false := by rw [h.line]; exact free
  rw [Line.fill, Line.takeLow, if_neg (by show ¬ y.clockLow = true; rw [low]; exact Bool.false_ne_true), h.line]
  dsimp only [LossTimer.pause]
  rw [Nat.add_sub_cancel_left]

theorem withLine_line (s : State) (d b : Door) (l : Line) : (s.withLine d l).line b = if d = b then l else s.line b :=
  changeLine_line d b (fun _ => l) s

/-- The door's state after a word's report; behind a main-page 0x7F there is none (R144, R157). -/
def Line.doorAfter (l : Line) (code : BitVec 7) : DoorState := if l.prefixPending then l.door else reported code l.door

/-- The part between the report of a word just heard and the filling of its holding word. -/
structure Reported (s : State) (d : Door) (code : BitVec 7) (y : Line) (z : State) : Prop where
  now   : z.now = s.now
  dl    : z.dl = ⟨upd s.dl.lines d fun _ => { y with door := (s.line d).doorAfter code },
    if (s.line d).prefixPending then s.dl.ramp else (rampReport d code.toNat).getD s.dl.ramp⟩
  dt    : z.dt = if (s.line d).prefixPending then { s.dt with prefixAt := upd s.dt.prefixAt d fun _ => none } else s.dt
  sp    : z.sp = s.sp
  mc    : z.mc = s.mc
  bc    : z.bc = s.bc
  js    : z.js = s.js
  quiet : (s.line d).prefixPending = true ∨ (reported code (s.line d).door = (s.line d).door ∧
    (rampReport d code.toNat).getD s.dl.ramp = s.dl.ramp) → z.rt = s.rt ∧ z.eu = s.eu ∧ z.hl = s.hl
  sets  : (s.line d).prefixPending = false → reported code (s.line d).door ≠ (s.line d).door ∨
    (rampReport d code.toNat).getD s.dl.ramp ≠ s.dl.ramp → z.flag .door = true

theorem Heard.reported {y : Line} (h : Heard s d y) (code : BitVec 7) : Reported s d code y
    (if (s.line d).prefixPending then stopPrefixTimer d (s.hearing d) else takeReport d code.toNat (s.hearing d)) := by
  have known : y.door = (s.line d).door := by rw [h.line]
  have line : (s.withLine d y).line d = y := (withLine_line s d d y).trans (if_pos rfl)
  rw [h.state]
  cases pending : (s.line d).prefixPending with
  | true =>
    have door : (s.line d).doorAfter code = y.door := (if_pos pending).trans known.symm
    refine ⟨rfl, ?_, ?_, rfl, rfl, rfl, rfl, fun _ => ⟨rfl, rfl, rfl⟩, fun live => absurd (pending.symm.trans live) nofun⟩
    · rw [door, pending]
      rfl
    · rw [pending]
      rfl
  | false =>
    have door : (s.line d).doorAfter code = Machine.reported code y.door := (if_neg (by rw [pending]; exact Bool.false_ne_true)).trans (by rw [known])
    have table := takeReport_table d code (s.withLine d y)
    refine ⟨table.now, ?_, ?_, table.sp, table.mc, table.bc, table.js, fun quiet => ?_, fun _ changes => ?_⟩
    · rw [door, pending]
      refine table.dl.trans ?_
      simp only [State.reportLines, State.withLine, upd, Vector.getElem_set_self, Vector.set_set]
      rfl
    · rw [pending]
      exact table.dt
    · obtain ⟨same, ramp⟩ := quiet.resolve_left (by rw [pending]; exact Bool.false_ne_true)
      have stands : takeReport d code.toNat (s.withLine d y) = s.withLine d y :=
        takeReport_stands (by rw [line, known]; exact same) ramp
      rw [if_neg Bool.false_ne_true, stands]
      exact ⟨rfl, rfl, rfl⟩
    · exact takeReport_sets (by rw [line, known]; exact changes)

theorem acceptWord_taken (d : Door) (code : BitVec 7) (free : (s.line d).clockLow = false) : WordTaken s d code (acceptWord d code s) := by
  obtain ⟨y, heard⟩ := hearing_heard s d
  have report := heard.reported code
  have whole : acceptWord d code s = (fun x : State => changeLine d (fun l => l.fill x.now code) x)
      (if (s.line d).prefixPending then stopPrefixTimer d (s.hearing d) else takeReport d code.toNat (s.hearing d)) := rfl
  rw [whole]
  generalize (if (s.line d).prefixPending then stopPrefixTimer d (s.hearing d) else takeReport d code.toNat (s.hearing d)) = z at report
  have lines (b : Door) : z.line b = if d = b then { y with door := (s.line d).doorAfter code } else s.line b :=
    (congrArg (fun x : DoorLines => x.lines[b.val]) report.dl).trans (upd_get s.dl.lines d b _)
  have line : (changeLine d (fun l => l.fill z.now code) z).line d = _ :=
    (changeLine_line d d _ z).trans ((if_pos rfl).trans ((congrArg₂ (fun n l => Line.fill n code l) report.now ((lines d).trans (if_pos rfl))).trans
      (heard.fill free _)))
  refine ⟨report.now, ?_, fun there => ?_, fun lost still => ?_, fun idle => ?_, fun b other => ?_, congrArg DoorLines.ramp report.dl, report.dt, report.sp, report.mc,
    report.bc, report.js, report.quiet, report.sets⟩
  · rw [line]
    rfl
  · rw [line]
    exact heard.present there
  · rw [line]
    exact heard.lost lost still
  · rw [line]
    exact heard.idle idle
  · rw [changeLine_line, if_neg (Ne.symm other), lines, if_neg (Ne.symm other)]

/-- Settles O44. -/
theorem doorWordTaken : Obligations.DoorWordTaken := by
  intro s d code parity stop l live still same open' free odd high
  subst same
  have taken := acceptWord_taken d code free
  have run : exec (.doorWord d code parity stop) s = .next (acceptWord d code s) := by
    rw [exec_doorWord live still open' free, judgeWord, goodWord_true odd high, if_pos rfl]
  have ramp := rampReport_eq d code s.dl.ramp
  have line := taken.line
  generalize acceptWord d code s = t at taken run line
  have door : (t.line d).door = if (s.line d).prefixPending then (s.line d).door else reported code (s.line d).door := congrArg Line.door line
  refine ⟨t, run, taken.now, congrArg Line.holding line, congrArg Line.activity line, congrArg Line.clockLow line, congrArg Line.minimumAt line,
    congrArg Line.present line, congrArg Line.sendWait line, congrArg Line.loss line, (congrArg Line.errors line :), (congrArg Line.prefixPending line :),
    fun there => (taken.present there).1, fun lost => taken.lost lost still, fun pending => ⟨?_, ?_, ?_, (taken.quiet (.inl pending)).1⟩,
    fun clear => ?_, taken.others, taken.sp, taken.mc, taken.bc, taken.js⟩
  · rw [door, if_pos pending]
  · rw [taken.ramp, if_pos pending]
  · rw [taken.dt, if_pos pending]
    exact upd_get_self ..
  · have plain : ¬ (s.line d).prefixPending = true := by rw [clear]; exact Bool.false_ne_true
    rw [if_neg plain] at door
    have out := taken.ramp
    rw [if_neg plain] at out
    have dt := taken.dt
    rw [if_neg plain] at dt
    rw [door, out]
    exact ⟨rfl, ramp, dt, taken.sets clear, fun same still => taken.quiet (.inr ⟨same, still⟩)⟩

/-! ### The end of a send attempt (R148, R149) -/

theorem setBits_eq : ∀ (bits : List Bool) (l : Line), ∃ low, bits.foldl Line.setBit l = { l with dataLow := low, sent := l.sent ++ bits }
  | [], l => ⟨l.dataLow, by rw [List.append_nil]; rfl⟩
  | b :: bits, l => by
    obtain ⟨low, rest⟩ := setBits_eq bits (l.setBit b)
    refine ⟨low, ?_⟩
    rw [List.foldl_cons, rest, Line.setBit, List.append_assoc]
    rfl

theorem clockedIn_eq (c : Command) (l : Line) : l.clockedIn c = { l with dataLow := false, sent := c.levels } := by
  obtain ⟨low, whole⟩ := setBits_eq c.levels { l with sent := [] }
  rw [Line.clockedIn, whole, List.nil_append]

/-- What a send of a code has set on the data wire by the eleventh edge (R148). -/
theorem levels_eq (code : BitVec 7) {c : Command} (carries : code.toNat = c.code) :
    ∃ p, oddOnes code p = true ∧
      c.levels = [false, code[0], code[1], code[2], code[3], code[4], code[5], code[6], p, true] := by
  have same : BitVec.ofNat 7 c.code = code := by rw [← carries, BitVec.ofNat_toNat, BitVec.setWidth_eq]
  have odd : ∀ code : BitVec 7, oddOnes code (!oddOnes code false) = true := by decide +kernel
  refine ⟨!oddOnes code false, odd code, ?_⟩
  rw [Command.levels, same]
  rfl

theorem drops_alone {ack : Bool} {fate : SendFate} {n : Nat} : drops ack fate n = true ↔ fate = .alone ∧ ack = false ∧ 2 ≤ n := by
  rw [drops, Bool.and_eq_true, Bool.and_eq_true, beq_iff_eq, Bool.not_eq_true', decide_eq_true_eq]
  constructor
  · rintro ⟨⟨alone, silent⟩, third⟩
    exact ⟨alone, silent, by omega⟩
  · rintro ⟨alone, silent, third⟩
    exact ⟨⟨alone, silent⟩, by omega⟩

theorem attempted_frame (ack : Bool) (fate : SendFate) (l : Line) : l.attempted ack fate =
    { l with sendWait := l.sendWait || !ack, queue := (l.attempted ack fate).queue, attempts := (l.attempted ack fate).attempts } := by
  unfold Line.attempted
  dsimp only
  split
  · split <;> rfl
  · rfl
  · rfl

/-- The rows of R149's table. -/
theorem attempted_rows (ack : Bool) (fate : SendFate) (l : Line) :
    (fate = .alone → ack = true → (l.attempted ack fate).queue = l.queue.tail ∧ (l.attempted ack fate).attempts = 0) ∧
    (fate = .alone → ack = false → l.attempts < 2 →
      (l.attempted ack fate).queue = l.queue ∧ (l.attempted ack fate).attempts = l.attempts + 1) ∧
    (fate = .alone → ack = false → 2 ≤ l.attempts → (l.attempted ack fate).queue = l.queue.tail ∧ (l.attempted ack fate).attempts = 0) ∧
    (fate ≠ .alone → (l.attempted ack fate).queue = l.queue ∧ (l.attempted ack fate).attempts = 0) := by
  refine ⟨fun alone acked => ?_, fun alone silent few => ?_, fun alone silent many => ?_, fun other => ?_⟩
  · subst alone acked
    exact ⟨rfl, rfl⟩
  · subst alone silent
    have stays : ¬ (false || drops false .alone l.attempts) = true := by
      rw [Bool.false_or, drops_alone]
      exact fun h => Nat.not_le.mpr few h.2.2
    simp only [Line.attempted, if_neg stays]
    exact ⟨trivial, trivial⟩
  · subst alone silent
    have goes : (false || drops false .alone l.attempts) = true := by
      rw [Bool.false_or, drops_alone]
      exact ⟨rfl, rfl, many⟩
    simp only [Line.attempted, if_pos goes]
    exact ⟨trivial, trivial⟩
  · cases fate with
    | alone => exact absurd rfl other
    | replaced | emptied => exact ⟨rfl, rfl⟩

theorem settleAttempt_line (d b : Door) (ack : Bool) (fate : SendFate) (s : State) :
    (settleAttempt d ack fate s).line b = if d = b then (s.line d).attempted ack fate else s.line b := by
  refine Eq.trans ?_ (changeLine_line d b (Line.attempted ack fate) s)
  exact congrArg (fun x : DoorLines => x.lines[b.val]) (setFlagIf_table _ _ _).dl

theorem settleAttempt_flags (d : Door) (ack : Bool) (fate : SendFate) (s : State) :
    (drops ack fate (s.line d).attempts = true → (settleAttempt d ack fate s).flag .door = true) ∧
    (drops ack fate (s.line d).attempts = false → (settleAttempt d ack fate s).hl = s.hl) := by
  refine ⟨fun drop => ?_, fun keep => ?_⟩
  · rw [settleAttempt, setFlagIf_flag, drop]
    exact Bool.or_true _
  · rw [settleAttempt, keep]
    rfl

theorem settleAttempt_frame (d : Door) (ack : Bool) (fate : SendFate) (s : State) : settleAttempt d ack fate s =
    { s with dl := { s.dl with lines := s.dl.lines.set d.val ((s.line d).attempted ack fate) },
             hl := { s.hl with flags := (settleAttempt d ack fate s).hl.flags } } := by
  unfold settleAttempt setFlagIf
  split <;> rfl

/-- The line of a send that is over at a moment, with the levels it has set (R148). -/
def Line.attemptOver (now : Nat) (levels : List Bool) (l : Line) : Line := { l with
  activity := .listening
  dataLow := false
  send := none
  clockLow := false
  minimumAt := none
  freeSince := now
  loss := l.loss.resume now
  sent := levels }

/-- A word kept to a send's end is judged then (R145). -/
def judgeKept (d : Door) (x : Send) (s : State) : State := x.kept.elim s fun w => judgeWord d w.code w.parity w.stop s

theorem endSend_eq (d : Door) (ack : Bool) (x : Send) (s : State) :
    endSend d ack x s = settleAttempt d ack x.fate (judgeKept d x (changeLine d (Line.sendOver s.now) s)) := by
  unfold endSend judgeKept
  cases x.kept <;> rfl

theorem exec_sendAttemptEnd {x : Send} {ack : Bool} (live : s.resetHeld = false) (sends : (s.line d).send = some x) (released : x.released = true) :
    exec (.sendAttemptEnd d ack) s = .next (settleAttempt d ack x.fate
      (judgeKept d x (s.withLine d ((s.line d).attemptOver s.now x.command.levels)))) := by
  refine (running_next (f := attemptEdge d ack) live).trans (congrArg Host.Outcome.next ?_)
  rw [attemptEdge, sends]
  dsimp only
  rw [if_pos released, endSend_eq]
  have whole : changeLine d (Line.sendOver s.now) (changeLine d (Line.clockedIn x.command) s) =
      s.withLine d ((s.line d).attemptOver s.now x.command.levels) := by
    simp only [changeLine, upd, Vector.getElem_set_self, Vector.set_set, clockedIn_eq]
    rfl
  exact congrArg (fun y => settleAttempt d ack x.fate (judgeKept d x y)) whole

theorem exec_sendTimeout {x : Send} (live : s.resetHeld = false) (sends : (s.line d).send = some x) (released : x.released = true) :
    exec (.sendTimeout d) s = .next (settleAttempt d false x.fate
      (judgeKept d x ((s.atTime (max s.now x.timeoutAt)).withLine d ((s.line d).attemptOver (max s.now x.timeoutAt) (s.line d).sent)))) := by
  refine (running_next (f := attemptTimeout d) live).trans (congrArg Host.Outcome.next ?_)
  rw [attemptTimeout, sends]
  dsimp only
  rw [if_pos released, endSend_eq]
  rfl

/-- What the end of an attempt does, at a moment and with the levels it has set; `t` is the part after it (R145, R148, R149). -/
structure AttemptEnded (s : State) (d : Door) (x : Send) (ack : Bool) (now : Nat) (levels : List Bool) (t : State) : Prop where
  now      : t.now = now
  dataLow  : (t.line d).dataLow = false
  send     : (t.line d).send = none
  sent     : (t.line d).sent = levels
  rows     : x.kept = none ∨ (s.line d).present = true →
    (x.fate = .alone → ack = true → (t.line d).queue = (s.line d).queue.tail ∧ (t.line d).attempts = 0) ∧
    (x.fate = .alone → ack = false → (s.line d).attempts < 2 →
      (t.line d).queue = (s.line d).queue ∧ (t.line d).attempts = (s.line d).attempts + 1) ∧
    (x.fate = .alone → ack = false → 2 ≤ (s.line d).attempts →
      (t.line d).queue = (s.line d).queue.tail ∧ (t.line d).attempts = 0 ∧ t.flag .door = true) ∧
    (x.fate ≠ .alone → (t.line d).queue = (s.line d).queue ∧ (t.line d).attempts = 0)
  freed    : x.kept = none ∨ (∃ w, x.kept = some w ∧ (oddOnes w.code w.parity = false ∨ w.stop = .low)) →
    t = { s with now := t.now, dl := { s.dl with lines := s.dl.lines.set d.val (t.line d) }, hl := { s.hl with flags := t.hl.flags } } ∧
    t.line d = { s.line d with activity := .listening, dataLow := false, clockLow := false, minimumAt := none, send := none,
                               freeSince := t.now, loss := (s.line d).loss.resume t.now, sendWait := (s.line d).sendWait || !ack,
                               errors := if x.kept = none then (s.line d).errors else bump 255 (s.line d).errors,
                               queue := (t.line d).queue, attempts := (t.line d).attempts, sent := (t.line d).sent } ∧
    (ack = true ∨ x.fate ≠ .alone ∨ (s.line d).attempts < 2 → t.hl = s.hl)
  held     : ∀ w, x.kept = some w → oddOnes w.code w.parity = true → w.stop ≠ .low →
    (t.line d).holding = some w.code ∧ (t.line d).activity = .held ∧ (t.line d).clockLow = true ∧
    (t.line d).minimumAt = some (t.now + 100) ∧ (t.line d).present = true ∧ (t.line d).sendWait = !ack ∧
    (t.line d).loss = .paused (250 * ms) ∧ (t.line d).errors = (s.line d).errors ∧
    (t.line d).door = (if (s.line d).prefixPending = true then (s.line d).door else reported w.code (s.line d).door) ∧
    ((s.line d).prefixPending = true → t.dt.prefixAt[d.val] = none ∧ t.rt = s.rt) ∧
    (∀ b : Door, b ≠ d → t.line b = s.line b) ∧ t.sp = s.sp ∧ t.mc = s.mc ∧ t.bc = s.bc ∧ t.js = s.js

/-- The queue's row and the flag, where the line's queue and attempt count stood to the outcome. -/
theorem settled_rows {u : State} (ack : Bool) (fate : SendFate) (l : Line) (queue : (u.line d).queue = l.queue)
    (attempts : (u.line d).attempts = l.attempts) :
    (fate = .alone → ack = true → ((settleAttempt d ack fate u).line d).queue = l.queue.tail ∧ ((settleAttempt d ack fate u).line d).attempts = 0) ∧
    (fate = .alone → ack = false → l.attempts < 2 → ((settleAttempt d ack fate u).line d).queue = l.queue ∧
      ((settleAttempt d ack fate u).line d).attempts = l.attempts + 1) ∧
    (fate = .alone → ack = false → 2 ≤ l.attempts → ((settleAttempt d ack fate u).line d).queue = l.queue.tail ∧
      ((settleAttempt d ack fate u).line d).attempts = 0 ∧ (settleAttempt d ack fate u).flag .door = true) ∧
    (fate ≠ .alone → ((settleAttempt d ack fate u).line d).queue = l.queue ∧ ((settleAttempt d ack fate u).line d).attempts = 0) := by
  obtain ⟨acked, again, dropped, other⟩ := attempted_rows ack fate (u.line d)
  rw [queue, attempts] at again dropped
  rw [queue] at acked other
  rw [settleAttempt_line, if_pos rfl]
  refine ⟨acked, again, fun alone silent many => ?_, other⟩
  obtain ⟨tail, zero⟩ := dropped alone silent many
  exact ⟨tail, zero, (settleAttempt_flags d ack fate u).1 (by rw [attempts, drops_alone]; exact ⟨alone, silent, many⟩)⟩

theorem settled_hl {u : State} {ack : Bool} {fate : SendFate} {n : Nat} (attempts : (u.line d).attempts = n)
    (keeps : ack = true ∨ fate ≠ .alone ∨ n < 2) : (settleAttempt d ack fate u).hl = u.hl := by
  refine (settleAttempt_flags d ack fate u).2 (Bool.eq_false_iff.mpr fun drop => ?_)
  rw [attempts, drops_alone] at drop
  obtain ⟨alone, silent, many⟩ := drop
  rcases keeps with acked | other | few
  · exact absurd (acked.symm.trans silent) nofun
  · exact other alone
  · omega

/-- A send's end at which no good word was kept frees both wires (R141, R148). -/
theorem attempt_freed {x : Send} {n e : Nat} {levels : List Bool} (ack : Bool) (count : e = if x.kept = none then (s.line d).errors else bump 255 (s.line d).errors)
    (bad : ∀ w, x.kept = some w → goodWord w.code w.parity w.stop = false) :
    AttemptEnded s d x ack n levels
      (settleAttempt d ack x.fate ((s.atTime n).withLine d { (s.line d).attemptOver n levels with errors := e })) := by
  have line : ((s.atTime n).withLine d { (s.line d).attemptOver n levels with errors := e }).line d = _ := (withLine_line (s.atTime n) d d _).trans (if_pos rfl)
  have after := (settleAttempt_line d d ack x.fate ((s.atTime n).withLine d { (s.line d).attemptOver n levels with errors := e })).trans (if_pos rfl)
  have whole := after
  rw [line, attempted_frame] at after
  have frame := settleAttempt_frame d ack x.fate ((s.atTime n).withLine d { (s.line d).attemptOver n levels with errors := e })
  have rows := settled_rows (d := d) ack x.fate (s.line d) (u := (s.atTime n).withLine d { (s.line d).attemptOver n levels with errors := e })
    (by rw [line]; rfl) (by rw [line]; rfl)
  have host := settled_hl (d := d) (ack := ack) (fate := x.fate) (n := (s.line d).attempts)
    (u := (s.atTime n).withLine d { (s.line d).attemptOver n levels with errors := e }) (by rw [line]; rfl)
  have now : (settleAttempt d ack x.fate ((s.atTime n).withLine d { (s.line d).attemptOver n levels with errors := e })).now = n := by rw [frame]; rfl
  generalize settleAttempt d ack x.fate ((s.atTime n).withLine d { (s.line d).attemptOver n levels with errors := e }) = t at after whole frame rows host now
  refine ⟨now, by rw [after]; rfl, by rw [after]; rfl, by rw [after]; rfl, fun _ => rows, fun _ => ⟨?_, ?_, host⟩, fun w kept odd high => ?_⟩
  · rw [now, whole]
    refine frame.trans ?_
    simp only [State.withLine, Vector.set_set]
    rfl
  · rw [after, now, count]
    rfl
  · exact absurd ((bad w kept).symm.trans (goodWord_true odd high)) nofun

/-- A send's end at which a good word was kept fills the holding word (R145). -/
theorem attempt_held {x : Send} {w : KeptWord} {n : Nat} {levels : List Bool} (ack : Bool) (kept : x.kept = some w)
    (good : oddOnes w.code w.parity = true ∧ w.stop ≠ .low) :
    AttemptEnded s d x ack n levels
      (settleAttempt d ack x.fate (acceptWord d w.code ((s.atTime n).withLine d ((s.line d).attemptOver n levels)))) := by
  have start : ((s.atTime n).withLine d ((s.line d).attemptOver n levels)).line d = _ := (withLine_line (s.atTime n) d d _).trans (if_pos rfl)
  have elsewhere (b : Door) (other : b ≠ d) : ((s.atTime n).withLine d ((s.line d).attemptOver n levels)).line b = s.line b :=
    (withLine_line (s.atTime n) d b _).trans (if_neg (Ne.symm other))
  have taken := acceptWord_taken (s := (s.atTime n).withLine d ((s.line d).attemptOver n levels)) d w.code (by rw [start]; rfl)
  generalize acceptWord d w.code ((s.atTime n).withLine d ((s.line d).attemptOver n levels)) = u at taken
  have line := taken.line
  have present := taken.present
  have idle := taken.idle
  have quiet := taken.quiet
  have dt := taken.dt
  rw [start] at line present idle quiet dt
  have after := (settleAttempt_line d d ack x.fate u).trans (if_pos rfl)
  have rows (there : (s.line d).present = true) := settled_rows (d := d) ack x.fate (s.line d) (u := u) (present there).1 (present there).2.1
  have frame := settleAttempt_frame d ack x.fate u
  have others (b : Door) (other : b ≠ d) : (settleAttempt d ack x.fate u).line b = s.line b := by
    rw [settleAttempt_line, if_neg (Ne.symm other), taken.others b other, elsewhere b other]
  generalize settleAttempt d ack x.fate u = t at after frame rows others
  rw [attempted_frame] at after
  have now : t.now = n := by rw [frame]; exact taken.now
  refine ⟨now, ?_, ?_, ?_, fun there => rows (there.resolve_left (by rw [kept]; nofun)), fun none' => ?_, fun v same _ _ => ?_⟩
  · rw [after, line]
    rfl
  · rw [after]
    exact idle rfl
  · rw [after, line]
    rfl
  · obtain none' | ⟨v, same, bad⟩ := none'
    · exact absurd (kept.symm.trans none') nofun
    · cases Option.some.inj (kept.symm.trans same)
      rcases bad with even | low
      · exact absurd (good.1.symm.trans even) nofun
      · exact absurd low good.2
  · cases Option.some.inj (kept.symm.trans same)
    rw [line] at after
    rw [now]
    refine ⟨(congrArg Line.holding after :), (congrArg Line.activity after :), (congrArg Line.clockLow after :), (congrArg Line.minimumAt after :),
      (congrArg Line.present after :), (congrArg Line.sendWait after :).trans (Bool.false_or _), (congrArg Line.loss after :),
      (congrArg Line.errors after :), (congrArg Line.door after :), fun pending => ⟨?_, ?_⟩, others, ?_, ?_, ?_, ?_⟩
    all_goals rw [frame]
    · show u.dt.prefixAt[d.val] = none
      rw [dt, if_pos (show ((s.line d).attemptOver n levels).prefixPending = true from pending)]
      exact upd_get_self ..
    · exact (quiet (.inl pending)).1
    · exact taken.sp
    · exact taken.mc
    · exact taken.bc
    · exact taken.js

theorem attempt_ended (d : Door) (x : Send) (n : Nat) (levels : List Bool) (ack : Bool) : AttemptEnded s d x ack n levels
    (settleAttempt d ack x.fate (judgeKept d x ((s.atTime n).withLine d ((s.line d).attemptOver n levels)))) := by
  unfold judgeKept
  cases kept : x.kept with
  | none => exact attempt_freed (e := (s.line d).errors) ack (if_pos kept).symm fun w some' => absurd (kept.symm.trans some') nofun
  | some w =>
    rw [Option.elim_some, judgeWord]
    cases good : goodWord w.code w.parity w.stop with
    | true =>
      rw [if_pos rfl]
      rw [goodWord, Bool.and_eq_true, bne_iff_ne] at good
      exact attempt_held ack kept good
    | false =>
      have discarded : discardWord d ((s.atTime n).withLine d ((s.line d).attemptOver n levels)) =
          (s.atTime n).withLine d { (s.line d).attemptOver n levels with errors := bump 255 (s.line d).errors } := by
        rw [discardWord, changeLine_eq, withLine_line, if_pos rfl]
        simp only [State.withLine, Vector.set_set]
        rfl
      rw [if_neg Bool.false_ne_true, discarded]
      exact attempt_freed ack (if_neg (by rw [kept]; nofun)).symm fun v same => by
        cases Option.some.inj (kept.symm.trans same)
        exact good

/-- Settles O47. -/
theorem sendAttemptEnds : Obligations.SendAttemptEnds := by
  intro s d l x c ack code live same sends released carries what
  subst same
  rcases what with rfl | ⟨rfl, rfl⟩
  · have ended := attempt_ended d x s.now x.command.levels ack (s := s)
    have run := exec_sendAttemptEnd (ack := ack) live sends released
    refine ⟨_, run, ended.now.trans (if_neg nofun).symm, ended.dataLow, ended.send, nofun, fun _ => ?_, ended.rows, ended.freed, ended.held⟩
    obtain ⟨p, odd, levels⟩ := levels_eq code carries
    exact ⟨p, odd, ended.sent.trans levels⟩
  · have ended := attempt_ended d x (max s.now x.timeoutAt) (s.line d).sent false (s := s)
    have run := exec_sendTimeout live sends released
    exact ⟨_, run, ended.now.trans (if_pos rfl).symm, ended.dataLow, ended.send, fun _ => ended.sent, fun other => absurd rfl other, ended.rows, ended.freed,
      ended.held⟩

/-! ### The loss of a line (R150) -/

/-- The part with a line LOST, before its door's state is told (R150). -/
def State.losing (s : State) (d : Door) (e : Nat) : State := stopPrefixTimer d (changeLine d Line.lost (atLeast e s))

/-- The ramp state goes with door 2's line. -/
def State.rampLost (s : State) (d : Door) : State := if d = 1 then setRamp .unknown s else s

theorem exec_lossTimerExpiry {e : Nat} (live : s.resetHeld = false) (runs : (s.line d).loss = .running e) :
    exec (.lossTimerExpiry d) s = .next ((setDoor d .unknown (s.losing d e)).rampLost d) := by
  refine (running_next (f := lossExpiry d) live).trans (congrArg Host.Outcome.next ?_)
  rw [lossExpiry, runs]
  rfl

theorem rampLost_table (s : State) (d : Door) :
    TableOnly { s with dl := { s.dl with ramp := if d = 1 then .unknown else s.dl.ramp } } (s.rampLost d) := by
  unfold State.rampLost
  split
  · exact setRamp_table .unknown s
  · exact .refl s

theorem losing_line (s : State) (d b : Door) (e : Nat) : (s.losing d e).line b = if d = b then (s.line d).lost else s.line b :=
  changeLine_line d b Line.lost (atLeast e s)

/-- A door that becomes UNKNOWN asserts the drive-inhibit line (R40, R41). -/
theorem setDoor_unknown_inhibits (live : s.resetHeld = false) (known : (s.line d).door ≠ .unknown) :
    (setDoor d .unknown s).InhibitCurrent := by
  rw [setDoor, if_neg known]
  exact doorEvent_inhibitCurrent d live

theorem State.InhibitCurrent.asserted (h : s.InhibitCurrent) (open' : (s.line d).door ≠ .locked) : s.eu.inhibit = true :=
  h.2.trans (inhibitCalled_of_not_locked d open' _ _)

/-- Settles O48. -/
theorem lineIsLost : Obligations.LineIsLost := by
  intro s d l e live same runs
  subst same
  have door := setDoor_table d .unknown (s.losing d e)
  have ramp := rampLost_table (setDoor d .unknown (s.losing d e)) d
  have both := (door.replace_dl _).trans ramp
  rw [door.dl] at both
  have mine : (s.losing d e).line d = (s.line d).lost := (losing_line s d d e).trans (if_pos rfl)
  have lines (b : Door) : ((setDoor d .unknown (s.losing d e)).rampLost d).line b =
      if d = b then { (s.line d).lost with door := .unknown } else s.line b := by
    refine (congrArg (fun x : DoorLines => x.lines[b.val]) both.dl).trans ?_
    refine (changeLine_line d b (fun l => { l with door := .unknown }) (s.losing d e)).trans ?_
    split
    · rw [mine]
    · rename_i other
      exact (losing_line s d b e).trans (if_neg other)
  refine ⟨_, exec_lossTimerExpiry live runs, both.now, ?_, fun b other => ?_, congrArg DoorLines.ramp both.dl, both.dt, fun known => ⟨?_, ?_⟩,
    fun unknown out => ?_, both.sp, both.mc, both.bc, both.js⟩
  · rw [lines, if_pos rfl]
    rfl
  · rw [lines, if_neg (Ne.symm other)]
  · have current := setDoor_unknown_inhibits (s := s.losing d e) (d := d) live (by rw [mine]; exact known)
    have after : ((setDoor d .unknown (s.losing d e)).rampLost d).InhibitCurrent := by
      unfold State.rampLost
      split
      · exact setRamp_inhibitCurrent _ current
      · exact current
    exact after.asserted (d := d) (by rw [lines, if_pos rfl]; nofun)
  · have set := setDoor_sets (s := s.losing d e) (d := d) (x := .unknown) (by rw [mine]; exact known)
    have stays : FlagsStay (setDoor d .unknown (s.losing d e)) ((setDoor d .unknown (s.losing d e)).rampLost d) := by
      unfold State.rampLost
      split
      · exact setRamp_flagsStay ..
      · exact .refl _
    exact stays.stays _ set
  · have still : setDoor d .unknown (s.losing d e) = s.losing d e := setDoor_stands (by rw [mine]; exact unknown)
    have rampStill : (s.losing d e).rampLost d = s.losing d e := by
      have after : (if d = 1 then .unknown else s.dl.ramp) = s.dl.ramp := (congrArg DoorLines.ramp both.dl).symm.trans out
      unfold State.rampLost
      split
      · rename_i second
        rw [if_pos second] at after
        exact setRamp_stands after.symm
      · rfl
    rw [still, rampStill]
    exact ⟨rfl, rfl, rfl⟩

end Sys2Proof.Machine
end

section
/-! PROOFS. WRITE_PARAM (O11; R177, R50, R52, R119): what a write stores, and what it does at once. -/

namespace Sys2Proof.Machine

variable {s t : State} {f : HostFrame} {o : HostOwner}

/-! ### The store -/

/-- What a write within `lo` to `hi` leaves: the value limited, stored at its number and index alone, and returned. -/
structure ParamStored (n i : Nat) (v lo hi : Int) (p : Params) (w : ParamWrite) : Prop where
  clamped : w.clamped = (decide (v < lo) || decide (hi < v))
  value   : w.stored = u16 (clamp v lo hi).toNat
  params  : ∀ m j, w.params.stored m j = if m = n ∧ j = i then some (clamp v lo hi).toNat else p.stored m j

theorem getElem?_set_at {α : Type} {n : Nat} (xs : Vector α n) (i : Fin n) (x : α) (j : Nat) :
    (xs.set i.val x)[j]? = if j = i.val then some x else xs[j]? := by
  rw [Vector.getElem?_set]
  simp only [eq_comm]

/-- A write that its range takes, of a store that changes at its number and index alone. -/
theorem ranged_stored {n i : Nat} {lo hi v : Int} {p : Params} {g : Nat → Params}
    (at' : ∀ x m j, (g x).stored m j = if m = n ∧ j = i then some x else p.stored m j) :
    ∃ w, ranged lo hi v g = some w ∧ ParamStored n i v lo hi p w := ⟨_, rfl, rfl, rfl, at' _⟩

theorem writeAxle_stored {n i : Nat} {lo hi v : Int} {p : Params} {g : Fin 3 → Nat → Params}
    (range : (if i < 3 then some ((0, 1000) : Int × Int) else none) = some (lo, hi))
    (at' : ∀ (a : Fin 3) x m j, (g a x).stored m j = if m = n ∧ j = a.val then some x else p.stored m j) :
    ∃ w, writeAxle v i g = some w ∧ ParamStored n i v lo hi p w := by
  split at range
  · next small =>
    cases range
    rw [writeAxle, dif_pos small]
    exact ranged_stored (at' ⟨i, small⟩)
  · cases range

theorem writeBand_stored {n i : Nat} {lo hi lo' hi' v : Int} {p : Params} {g : Band → Nat → Band}
    (range : (if i < 8 then some (lo', hi') else none) = some (lo, hi))
    (at' : ∀ (b : Fin 8) x m j, { p with bands := upd p.bands b fun y => g y x }.stored m j =
      if m = n ∧ j = b.val then some x else p.stored m j) :
    ∃ w, writeBand p lo' hi' v i g = some w ∧ ParamStored n i v lo hi p w := by
  split at range
  · next small =>
    cases range
    rw [writeBand, dif_pos small]
    exact ranged_stored (at' ⟨i, small⟩)
  · cases range

theorem writeParam_axle {n i : Nat} {lo hi : Int} (axle : n = 4 ∨ n = 5 ∨ n = 6 ∨ n = 7)
    (range : (if i < 3 then some ((0, 1000) : Int × Int) else none) = some (lo, hi)) (v : Int) (p : Params) :
    ∃ w, writeParam n i v p = some w ∧ ParamStored n i v lo hi p w := by
  obtain rfl | rfl | rfl | rfl := axle
  all_goals
    simp only [writeParam]
    refine writeAxle_stored range fun a x m j => ?_
    unfold Params.stored
    split
  all_goals grind [getElem?_set_at]

theorem writeParam_band {n i : Nat} {lo' hi' lo hi : Int} (band : (n, lo', hi') ∈ [(12, (0 : Int), (1024 : Int)), (13, 1, 600), (14, 1, 600), (15, 1, 255), (16, 0, 7)])
    (range : (if i < 8 then some (lo', hi') else none) = some (lo, hi)) (v : Int) (p : Params) :
    ∃ w, writeParam n i v p = some w ∧ ParamStored n i v lo hi p w := by
  simp only [List.mem_cons, Prod.mk.injEq, List.not_mem_nil, or_false] at band
  obtain ⟨rfl, rfl, rfl⟩ | ⟨rfl, rfl, rfl⟩ | ⟨rfl, rfl, rfl⟩ | ⟨rfl, rfl, rfl⟩ | ⟨rfl, rfl, rfl⟩ := band
  all_goals
    simp only [writeParam]
    refine writeBand_stored range fun a x m j => ?_
    unfold Params.stored
    split
  all_goals grind [upd, getElem?_set_at]

theorem writeParam_stored {n i : Nat} {lo hi : Int} (range : paramRange n i = some (lo, hi)) (v : Int) (p : Params) :
    ∃ w, writeParam n i v p = some w ∧ ParamStored n i v lo hi p w := by
  unfold paramRange at range
  split at range
  case h_3 | h_4 | h_5 | h_6 => exact writeParam_axle (by simp) range v p
  case h_15 | h_16 | h_17 | h_18 | h_19 => exact writeParam_band (by simp) range v p
  case h_20 => cases range
  all_goals
    cases range
    refine ⟨_, rfl, rfl, rfl, fun m j => ?_⟩
    unfold Params.stored
    split
  all_goals grind

theorem writeParam_refused {n i : Nat} {v : Int} {p : Params} (out : paramRange n i = none) (threshold : n = 3 → 3 ≤ i)
    (source : n = 11 → 18 ≤ i ∨ v < 0 ∨ 3 < v) : writeParam n i v p = none := by
  unfold writeParam
  split
  case h_3 | h_4 | h_5 => exact absurd (threshold rfl) (by decide)
  case h_18 =>
    split
    · next small =>
      have out' : v < 0 ∨ 3 < v := (source rfl).resolve_left (by omega)
      have unread : readSource v = none := by
        unfold readSource
        rw [if_neg (by omega), if_neg (by omega), if_neg (by omega), if_neg (by omega)]
      rw [unread]
      rfl
    · rfl
  all_goals grind [paramRange, writeAxle, writeBand]

/-- R50: a threshold stored, and the three put in order. -/
theorem writeThreshold_ordered {v : Int} {g : Nat → Params} {p : Params} {r₀ l₀ c r l : Nat}
    (stores : g (clamp v 0 1200).toNat = { p with reserve := r₀, low := l₀, critical := c }) (hl : l = max l₀ c) (hr : r = max r₀ l) :
    ∃ w, writeThreshold v g = some w ∧ (w.clamped = true ↔ v < 0 ∨ 1200 < v ∨ l ≠ l₀ ∨ r ≠ r₀) ∧
      w.stored = u16 r ++ u16 l ++ u16 c ∧ w.params = { p with reserve := r, low := l, critical := c } := by
  have ordered : orderThresholds (g (clamp v 0 1200).toNat) = { p with reserve := r, low := l, critical := c } := by
    rw [stores, hr, hl]
    rfl
  refine ⟨_, rfl, ?_, ?_, ordered⟩
  · dsimp only
    rw [ordered, stores]
    simp [or_assoc]
    tauto
  · dsimp only
    rw [ordered]

theorem writeParam_threshold {i : Byte} (small : i.toNat ≤ 2) (v : Int) (p : Params) {x r₀ l₀ c r l : Nat} (hx : x = (clamp v 0 1200).toNat)
    (hr₀ : r₀ = if i = 0 then x else p.reserve) (hl₀ : l₀ = if i = 1 then x else p.low) (hc : c = if i = 2 then x else p.critical)
    (hl : l = max l₀ c) (hr : r = max r₀ l) :
    ∃ w, writeParam 3 i.toNat v p = some w ∧ (w.clamped = true ↔ v < 0 ∨ 1200 < v ∨ l ≠ l₀ ∨ r ≠ r₀) ∧
      w.stored = u16 r ++ u16 l ++ u16 c ∧ w.params = { p with reserve := r, low := l, critical := c } := by
  obtain rfl | rfl | rfl : i = 0 ∨ i = 1 ∨ i = 2 := by bv_omega
  all_goals
    subst hx hr₀ hl₀ hc
    exact writeThreshold_ordered rfl hl hr

/-! ### What a write does at once -/

theorem paramWritten_wheel {n : Nat} (wheel : n = 1 ∨ n = 2) (old : Params) (s : State) : paramWritten n old s = wheelRewritten s := by
  obtain rfl | rfl := wheel
  all_goals rfl

theorem paramWritten_other {n : Nat} (one : n ≠ 1) (two : n ≠ 2) (three : n ≠ 3) (eleven : n ≠ 11) (old : Params) (s : State) :
    paramWritten n old s = s := by
  unfold paramWritten
  split
  case h_5 => rfl
  all_goals contradiction

theorem compare_eq (threshold v : Nat) (was : Level) : compare threshold v was = comparatorAfter threshold v was := by
  unfold comparatorAfter
  cases was
  all_goals simp [compare]

/-- R51: AIR is set at a change of a comparator. -/
theorem setComparators_air (r l c : Level) (s : State) :
    (setComparators r l c s).flag .air = true ↔ s.flag .air = true ∨ (r ≠ s.sp.reserve ∨ l ≠ s.sp.low ∨ c ≠ s.sp.critical) := by
  have told (y : State) : RecordFlag y (if r = s.sp.reserve then y else reserveEvent r y) := by
    split
    · exact .refl y
    · exact (reserveEvent_only r y).recordFlag
  have watched (y : State) : RecordFlag y (if c = s.sp.critical then y else watchCritical y) := by
    split
    · exact .refl y
    · exact recordFlag_frame.watchCritical y
  have air (y : State) : (setComparators r l c s).flag .air =
      (setFlagIf (r != s.sp.reserve || l != s.sp.low || c != s.sp.critical) .air
        { s with sp := { s.sp with reserve := r, low := l, critical := c } }).flag .air :=
    ((told _).trans (watched _)).others .air nofun
  rw [air s, setFlagIf_flag]
  simp [State.flag, or_assoc]

theorem comparators_ne (x : SensePort) (r l c : Level) :
    ({ x with reserve := r, low := l, critical := c } : SensePort) ≠ x ↔ r ≠ x.reserve ∨ l ≠ x.low ∨ c ≠ x.critical := by
  cases x
  simp
  tauto

/-! ### The request -/

theorem exec_writeParam (live : s.resetHeld = false) (owner : FrameOwner f o) {n i a b : Byte} (payload : f.payload = [n, i, a, b]) :
    exec (.writeParam f) s = .next (bodyWriteParam o [n, i, a, b] (s.taking f)) := by
  have fits : f.payload.length ≤ 26 := by simp [payload]
  rw [← payload]
  exact exec_taken (c := .writeParam f) rfl rfl live fits owner rfl

theorem bodyWriteParam_locked {n i a b : Byte} (locked : s.configurable = false) : bodyWriteParam o [n, i, a, b] s = refuse 0x30 .badState s := by
  unfold bodyWriteParam
  dsimp only
  rw [locked]
  rfl

theorem bodyWriteParam_refused {n i a b : Byte} (open' : s.configurable = true)
    (out : writeParam n.toNat i.toNat (readS16 a b) s.hl.params = none) : bodyWriteParam o [n, i, a, b] s = refuse 0x30 .badField s := by
  unfold bodyWriteParam
  dsimp only
  rw [open', out]
  rfl

theorem bodyWriteParam_taken {n i a b : Byte} {w : ParamWrite} (open' : s.configurable = true)
    (takes : writeParam n.toNat i.toNat (readS16 a b) s.hl.params = some w) :
    bodyWriteParam o [n, i, a, b] s = answer 0x30 (if w.clamped then .clamped else .ok) w.stored
      (paramWritten n.toNat s.hl.params { s with hl := { s.hl with params := w.params } }) := by
  unfold bodyWriteParam
  dsimp only
  rw [open', takes]
  rfl

/-- R177: what a write of a parameter of the table leaves. -/
theorem bodyWriteParam_ranged {n i a b : Byte} {v lo hi : Int} {x : Nat} (open' : s.configurable = true) (value : v = readS16 a b)
    (range : paramRange n.toNat i.toNat = some (lo, hi)) (hx : x = (clamp v lo hi).toNat) :
    ∃ p : Params, bodyWriteParam o [n, i, a, b] s = answer 0x30 (if v < lo ∨ hi < v then .clamped else .ok) (u16 x)
        { s with hl := { s.hl with params := p }
                 mc := if n = 1 ∨ n = 2 then { s.mc with remainder := 0, revs := #v[0, 0, 0] } else s.mc } ∧
      ∀ m j, p.stored m j = if m = n.toNat ∧ j = i.toNat then some x else s.hl.params.stored m j := by
  obtain ⟨w, takes, clamped, stored, params⟩ := writeParam_stored range v s.hl.params
  subst hx
  refine ⟨w.params, ?_, params⟩
  rw [bodyWriteParam_taken open' (value ▸ takes), clamped, stored]
  have status : (if (decide (v < lo) || decide (hi < v)) = true then Status.clamped else .ok) = if v < lo ∨ hi < v then .clamped else .ok := by
    simp
  rw [status]
  by_cases wheel : n = 1 ∨ n = 2
  · rw [if_pos wheel, paramWritten_wheel (by obtain rfl | rfl := wheel <;> decide)]
    rfl
  · have ne (k : Nat) (small : k < 256) (other : n ≠ BitVec.ofNat 8 k) : n.toNat ≠ k := by
      rintro rfl
      exact other (by simp)
    have three : n ≠ 3 := by rintro rfl; cases range
    have eleven : n ≠ 11 := by rintro rfl; cases range
    rw [if_neg wheel, paramWritten_other (ne 1 (by decide) (fun h => wheel (.inl h))) (ne 2 (by decide) (fun h => wheel (.inr h)))
      (ne 3 (by decide) three) (ne 11 (by decide) eleven)]

theorem thresholdsRewritten_sense (old : Params) (s : State) : SenseOnly s (thresholdsRewritten old s) := by
  unfold thresholdsRewritten
  dsimp only
  split
  · exact .refl s
  · split
    · exact setComparators_sense ..
    · exact .refl s

/-- R50: without a VALID reservoir value, or with no threshold changed, nothing is compared. -/
theorem thresholdsRewritten_still {old : Params} (still : (s.sample 20).state ≠ .valid ∨ s.hl.params = old) : thresholdsRewritten old s = s := by
  unfold thresholdsRewritten
  dsimp only
  split
  · rfl
  · next differs =>
    have invalid : (s.sample 20).state ≠ .valid := still.resolve_right fun same => differs (by rw [same]; exact ⟨rfl, rfl, rfl⟩)
    rw [if_neg invalid]

/-- R50: a change is compared at once with a VALID reservoir value. -/
theorem thresholdsRewritten_compares {old : Params} (valid : (s.sample 20).state = .valid)
    (differs : ¬ (s.hl.params.reserve = old.reserve ∧ s.hl.params.low = old.low ∧ s.hl.params.critical = old.critical)) :
    thresholdsRewritten old s = setComparators (comparatorAfter s.hl.params.reserve (s.sample 20).value s.sp.reserve)
      (comparatorAfter s.hl.params.low (s.sample 20).value s.sp.low)
      (comparatorAfter s.hl.params.critical (s.sample 20).value s.sp.critical) s := by
  unfold thresholdsRewritten
  dsimp only
  rw [if_neg differs, if_pos valid, evalComparators]
  simp only [compare_eq]

theorem sourceRewritten_eq (s : State) : sourceRewritten s = if s.inReset .level then s else s.inContext s.lc.context := by
  rw [← refreshSources_eq]
  rfl

theorem inContext_corner (x : LevelContext) (c : Corner) (s : State) :
    (s.inContext x).corner c = (s.corner c).refreshed s.now (sourceFor s c x) := by
  simp [State.corner, State.inContext]

theorem readSource_small {v : Int} (low : 0 ≤ v) (high : v ≤ 3) :
    readSource v = some (if v = 0 then .timer50 else if v = 1 then .timer1000 else if v = 2 then .axleRev16 else .none) ∧
    (if v = 0 then Source.timer50 else if v = 1 then .timer1000 else if v = 2 then .axleRev16 else .none).code = v.toNat := by
  obtain rfl | rfl | rfl | rfl : v = 0 ∨ v = 1 ∨ v = 2 ∨ v = 3 := by omega
  all_goals exact ⟨rfl, rfl⟩

theorem writeParam_source {j : Fin 18} {v : Int} (low : 0 ≤ v) (high : v ≤ 3) (p : Params) {x : Source}
    (hx : x = if v = 0 then Source.timer50 else if v = 1 then .timer1000 else if v = 2 then .axleRev16 else .none) :
    writeParam 11 j.val v p = some ⟨{ p with sources := p.sources.set j.val x }, false, u16 v.toNat⟩ := by
  obtain ⟨reads, code⟩ := readSource_small low high
  subst hx
  simp only [writeParam, dif_pos j.isLt, reads, Option.map_some, code]

/-- R50: what a write of a threshold leaves. -/
theorem thresholdsRewritten_left {q : Params} {r l c : Nat} {t : State}
    (is : t = thresholdsRewritten q { s with hl := { s.hl with params := { q with reserve := r, low := l, critical := c } } }) :
    t.hl.params = { q with reserve := r, low := l, critical := c } ∧
    (t.mc = s.mc ∧ t.bc = s.bc ∧ t.js = s.js ∧ t.dl = s.dl ∧ t.dt = s.dt) ∧
    ((s.sample 20).state ≠ .valid ∨ t.hl.params = q → t.sp = s.sp ∧ t.rt = s.rt ∧ t.lc = s.lc ∧ t.hl.flags = s.hl.flags) ∧
    ((s.sample 20).state = .valid → t.hl.params ≠ q →
      t.sp = { s.sp with reserve := comparatorAfter r (s.sample 20).value s.sp.reserve
                         low := comparatorAfter l (s.sample 20).value s.sp.low
                         critical := comparatorAfter c (s.sample 20).value s.sp.critical } ∧
      (t.flag .air = true ↔ s.flag .air = true ∨ t.sp ≠ s.sp)) := by
  have frame := is ▸ thresholdsRewritten_sense q { s with hl := { s.hl with params := { q with reserve := r, low := l, critical := c } } }
  have params : t.hl.params = { q with reserve := r, low := l, critical := c } := by rw [frame.hl]
  refine ⟨params, ⟨frame.mc, frame.bc, frame.js, frame.dl, frame.dt⟩, fun still => ?_, fun valid differs => ?_⟩
  · rw [params] at still
    rw [is, thresholdsRewritten_still still]
    exact ⟨rfl, rfl, rfl, rfl⟩
  · have changed : ¬ (r = q.reserve ∧ l = q.low ∧ c = q.critical) := by
      rintro ⟨rfl, rfl, rfl⟩
      exact differs params
    have compared := is.trans (thresholdsRewritten_compares valid changed)
    have sp := compared ▸ setComparators_sp _ _ _ _
    refine ⟨sp, ?_⟩
    rw [sp, comparators_ne, compared]
    exact setComparators_air ..

/-- R119: what a write of an entry of the source table leaves. -/
theorem sourceRewritten_left {t : State} (is : t = sourceRewritten s) :
    t = { s with lc := { s.lc with corners := t.lc.corners } } ∧ (s.inReset .level = true → t.lc = s.lc) ∧
    (s.inReset .level = false → ∀ c : Corner, t.corner c = (s.corner c).refreshed s.now (sourceFor s c s.lc.context)) := by
  subst is
  rw [sourceRewritten_eq]
  cases reset : s.inReset .level with
  | true => exact ⟨rfl, fun _ => rfl, nofun⟩
  | false =>
    rw [if_neg Bool.false_ne_true]
    exact ⟨rfl, nofun, fun _ c => inContext_corner ..⟩

theorem bodyWriteParam_source {i a b : Byte} {v : Int} {j : Fin 18} {x : Source} (open' : s.configurable = true) (value : readS16 a b = v)
    (index : i.toNat = j.val) (low : 0 ≤ v) (high : v ≤ 3)
    (hx : x = if v = 0 then Source.timer50 else if v = 1 then .timer1000 else if v = 2 then .axleRev16 else .none) :
    bodyWriteParam o [11, i, a, b] s = answer 0x30 .ok (u16 v.toNat)
      (sourceRewritten { s with hl := { s.hl with params := { s.hl.params with sources := s.hl.params.sources.set j.val x } } }) := by
  subst value
  have takes : writeParam (11 : Byte).toNat i.toNat (readS16 a b) s.hl.params =
      some ⟨{ s.hl.params with sources := s.hl.params.sources.set j.val x }, false, u16 (readS16 a b).toNat⟩ := by
    rw [index]
    exact writeParam_source low high s.hl.params hx
  rw [bodyWriteParam_taken open' takes]
  rfl

/-- Settles O11. -/
theorem parameterWrites : Obligations.ParameterWrites := by
  intro s f o n i a b v live owner payload value
  have run := exec_writeParam live owner payload
  have may : (s.taking f).configurable = (!s.hl.configured || s.hl.service) := configurable_eq _
  refine ⟨fun configured running => ?_, fun opened => ?_⟩
  · rw [run, bodyWriteParam_locked (by rw [may, configured, running]; rfl)]
    rfl
  have open' : (s.taking f).configurable = true := by
    rw [may]
    obtain off | service := opened
    · rw [off]; rfl
    · rw [service, Bool.or_true]
  refine ⟨fun lo hi x range hx => ?_, fun out threshold source => ?_, fun x r₀ l₀ c r l three small hx hr₀ hl₀ hc hl hr => ?_,
    fun j eleven index low high => ?_⟩
  · obtain ⟨p, body, stored⟩ := bodyWriteParam_ranged (o := o) (s := s.taking f) open' value range hx
    exact ⟨_, run.trans (congrArg _ body), rfl, stored⟩
  · have refused : writeParam n.toNat i.toNat (readS16 a b) (s.taking f).hl.params = none :=
      writeParam_refused out (fun h => threshold (BitVec.eq_of_toNat_eq h)) (fun h => value ▸ source (BitVec.eq_of_toNat_eq h))
    rw [run, bodyWriteParam_refused open' refused]
    rfl
  · subst three
    obtain ⟨w, takes, clamped, stored, params⟩ := writeParam_threshold small v s.hl.params hx hr₀ hl₀ hc hl hr
    have body := bodyWriteParam_taken (o := o) (s := s.taking f) (n := 3) open' (value ▸ takes)
    obtain ⟨kept, ⟨mc, bc, js, dl, dt⟩, still, compared⟩ := thresholdsRewritten_left (s := s.taking f) (q := s.hl.params) (r := r) (l := l) (c := c) rfl
    rw [stored, params] at body
    simp only [clamped] at body
    refine ⟨_, run.trans (congrArg _ body), rfl, kept, mc, bc, js, dl, dt, still, compared⟩
  · subst eleven
    obtain ⟨x, hx⟩ : ∃ x, x = if v = 0 then Source.timer50 else if v = 1 then .timer1000 else if v = 2 then .axleRev16 else .none := ⟨_, rfl⟩
    rw [bodyWriteParam_source open' value.symm index low high hx] at run
    generalize rewritten : sourceRewritten _ = t at run
    obtain ⟨frame, held, taken⟩ := sourceRewritten_left rewritten.symm
    refine ⟨_, x, run, hx, congrArg (answer 0x30 .ok (u16 v.toNat)) frame, held, fun live' c y hy => ?_⟩
    have hl := congrArg State.hl frame
    have entry : y = t.hl.params.sources[c.val * 3 + s.lc.context.index.val]'(by have := c.isLt; have := s.lc.context.index.isLt; omega) := hy
    simp only [hl] at entry
    have corner : t.corner c = (s.corner c).refreshed s.now y := entry ▸ taken live' c
    exact corner

end Sys2Proof.Machine
end

section
/-! PROOFS. What the table's operations and the valve commands leave of the corners: the context, the sources, the accumulators, the last
heights and the sensor checks (R30, R109 to R112); and the stationary timer (O33), the check timers (O40). -/

namespace Sys2Proof.Machine

variable {s t : State} {c d : Corner} {i : Slot}

/-! ### What stands of the corners -/

/-- A corner's record but for its phase, offset, outcome and entry in the waiting set, which follow the envelope and the commands. -/
structure CornerRecord.Stands (r q : CornerRecord) : Prop where
  eq : q = { r with phase := q.phase, offset := q.offset, outcome := q.outcome, waiting := q.waiting }

/-- The context, RESERVE, the strays and the corners' records stand, but for what follows the envelope and the commands. -/
structure CornersStand (s t : State) : Prop where
  context : t.lc.context = s.lc.context
  reserve : t.lc.reserve = s.lc.reserve
  strays  : t.lc.strays = s.lc.strays
  corner  : ∀ d : Corner, (s.corner d).Stands (t.corner d)

theorem CornerRecord.Stands.refl (r : CornerRecord) : r.Stands r := ⟨rfl⟩

theorem CornerRecord.Stands.trans {r q p : CornerRecord} (h : r.Stands q) (k : q.Stands p) : r.Stands p :=
  ⟨by rw [k.eq, h.eq]⟩

theorem CornersStand.refl (s : State) : CornersStand s s := ⟨rfl, rfl, rfl, fun _ => .refl _⟩

theorem CornersStand.trans {u : State} (h : CornersStand s t) (k : CornersStand t u) : CornersStand s u :=
  ⟨k.context.trans h.context, k.reserve.trans h.reserve, k.strays.trans h.strays, fun d => (h.corner d).trans (k.corner d)⟩

theorem CornersStand.of_lc (same : t.lc = s.lc) : CornersStand s t := by
  refine ⟨by rw [same], by rw [same], by rw [same], fun d => ?_⟩
  rw [State.corner, State.corner, same]
  exact .refl _

/-- The controller's parts that are not the corners' records: the grants, the halt timer, a pending resume, the rising list. -/
theorem cornersStand_rest (s : State) (grants : Vector (Option Corner) 2) (halt : Option Nat) (resume : Bool) (rising : List RisingEntry) :
    CornersStand s { s with lc := { s.lc with grants := grants, haltAt := halt, resumePending := resume, rising := rising } } :=
  ⟨rfl, rfl, rfl, fun _ => .refl _⟩

theorem changeCorner_stands (c : Corner) {f : CornerRecord → CornerRecord} (stands : ∀ r : CornerRecord, r.Stands (f r)) (s : State) :
    CornersStand s (changeCorner c f s) := by
  refine ⟨rfl, rfl, rfl, fun d => ?_⟩
  by_cases here : c = d
  · subst here
    rw [changeCorner_corner_self]
    exact stands _
  · rw [changeCorner_corner_ne _ _ here]
    exact .refl _

theorem forAll_stands {n : Nat} {f : Fin n → State → State} (h : ∀ i x, CornersStand x (f i x)) (s : State) : CornersStand s (forAll n f s) :=
  foldl_rel CornersStand CornersStand.refl CornersStand.trans (fun x i => f i x) (fun x i => h i x) _ s

/-! ### What a command of the valves leaves of the controller (R107 to R110) -/

/-- Commands of the valves: of the controller only the grants and the corners' records differ, of these only the entries in the waiting set
and the outcomes of the corners for which `P` holds. -/
structure Commands (P : Corner → Prop) (s t : State) : Prop where
  lc     : t.lc = { s.lc with corners := t.lc.corners, grants := t.lc.grants }
  corner : ∀ d : Corner, t.corner d = { s.corner d with outcome := (t.corner d).outcome, waiting := (t.corner d).waiting }
  other  : ∀ d : Corner, ¬ P d → (t.corner d).outcome = (s.corner d).outcome

variable {P : Corner → Prop}

theorem Commands.refl (P : Corner → Prop) (s : State) : Commands P s s := ⟨rfl, fun _ => rfl, fun _ _ => rfl⟩

theorem Commands.trans {u : State} (h : Commands P s t) (k : Commands P t u) : Commands P s u :=
  ⟨by rw [k.lc, h.lc], fun d => by rw [k.corner, h.corner], fun d other => (k.other d other).trans (h.other d other)⟩

theorem Commands.mono {Q : Corner → Prop} (h : Commands P s t) (le : ∀ d, P d → Q d) : Commands Q s t :=
  ⟨h.lc, h.corner, fun d out => h.other d (fun p => out (le d p))⟩

theorem Commands.of_lc (same : t.lc = s.lc) : Commands P s t := by
  refine ⟨by rw [same], fun d => ?_, fun d _ => ?_⟩
  all_goals rw [State.corner, State.corner, same]

theorem Commands.stands (h : Commands P s t) : CornersStand s t :=
  ⟨by rw [h.lc], by rw [h.lc], by rw [h.lc], fun d => ⟨by rw [h.corner]⟩⟩

theorem commands_grants (P : Corner → Prop) (s : State) (grants : Vector (Option Corner) 2) : Commands P s { s with lc := { s.lc with grants := grants } } :=
  ⟨rfl, fun _ => rfl, fun _ _ => rfl⟩

theorem setWaiting_commands (P : Corner → Prop) (d : Corner) (x : Option WaitEntry) (s : State) :
    Commands P s (changeCorner d (fun r => { r with waiting := x }) s) := by
  have corner (k : Corner) : (changeCorner d (fun r => { r with waiting := x }) s).corner k =
      if d = k then { s.corner k with waiting := x } else s.corner k := by
    split
    · next here =>
      subst here
      exact changeCorner_corner_self _ d _
    · next other => exact changeCorner_corner_ne _ _ other
  refine ⟨rfl, fun k => ?_, fun k _ => ?_⟩
  all_goals
    rw [corner]
    split
    all_goals rfl

theorem leaveWaiting_commands (P : Corner → Prop) (d : Corner) (s : State) : Commands P s (leaveWaiting d s) := setWaiting_commands P d none s

theorem changeCorner_commands (c : Corner) {f : CornerRecord → CornerRecord}
    (works : ∀ r : CornerRecord, f r = { r with outcome := (f r).outcome, waiting := (f r).waiting }) (s : State) :
    Commands (· = c) s (changeCorner c f s) := by
  refine ⟨rfl, fun d => ?_, fun d other => by rw [changeCorner_corner_ne _ _ (Ne.symm other)]⟩
  by_cases here : c = d
  · subst here
    rw [changeCorner_corner_self]
    exact works _
  · rw [changeCorner_corner_ne _ _ here]

theorem takeLevel_commands (P : Corner → Prop) (d : Corner) (side : Side) (p : Program) (s : State) : Commands P s (takeLevel d side p s) := .of_lc (takeLevel_lc ..)

theorem giveGrant_commands (P : Corner → Prop) (d : Corner) (w : WaitEntry) (s : State) : Commands P s (giveGrant d w s) :=
  ((leaveWaiting_commands P d s).trans (commands_grants _ _ _)).trans (takeLevel_commands ..)

theorem arbitrate_commands (P : Corner → Prop) (s : State) : Commands P s (arbitrate s) := by
  have once (x : State) : Commands P x (arbitrateOnce x) := by
    rcases arbitrateOnce_cases x with ⟨same, _⟩ | ⟨c, w, _, _, _, _, given⟩
    · rw [same]
      exact .refl _ x
    · rw [given]
      exact giveGrant_commands ..
  exact (once s).trans (once _)

theorem returnGrant_commands (P : Corner → Prop) (d : Corner) (s : State) : Commands P s (returnGrant d s) :=
  (commands_grants P s _).trans (arbitrate_commands P (s.ungrant d))

theorem handLevel_commands (P : Corner → Prop) (d : Corner) (side : Side) (p : Program) (s : State) : Commands P s (handLevel d side p s) := by
  unfold handLevel
  split
  · exact (takeLevel_commands ..).trans (returnGrant_commands ..)
  · exact takeLevel_commands ..

theorem stopLevel_commands (P : Corner → Prop) (d : Corner) (side : Side) (s : State) : Commands P s (stopLevel d side s) := by
  unfold stopLevel
  split
  · exact handLevel_commands ..
  · exact .refl P s

theorem commandHold_commands (P : Corner → Prop) (c : Corner) (s : State) : Commands P s (commandHold c s) :=
  ((leaveWaiting_commands _ c s).trans (stopLevel_commands ..)).trans (stopLevel_commands ..)

theorem commandExhaust_commands (P : Corner → Prop) (afresh : Bool) (c : Corner) (p : Program) (s : State) : Commands P s (commandExhaust afresh c p s) := by
  unfold commandExhaust
  dsimp only
  split
  · exact leaveWaiting_commands _ c s
  · exact (leaveWaiting_commands _ c s).trans (handLevel_commands ..)

/-- A corner joins the waiting set, or its entry there is refreshed (R109). -/
def joinWaiting (c : Corner) (w : WaitEntry) (s : State) : State := changeCorner c (fun r => { r with waiting := some w }) s

theorem joinWaiting_commands (P : Corner → Prop) (c : Corner) (w : WaitEntry) (s : State) : Commands P s (joinWaiting c w s) :=
  setWaiting_commands P c (some w) s

theorem commandFill_eq (afresh : Bool) (c : Corner) (e : Int) (p : Program) (s : State) : commandFill afresh c e p s =
    if s.granted c then if afresh then handLevel c .first p s else s
    else arbitrate (joinWaiting c ⟨e, p⟩ (stopLevel c .second s)) := rfl

theorem commandFill_commands (P : Corner → Prop) (afresh : Bool) (c : Corner) (e : Int) (p : Program) (s : State) : Commands P s (commandFill afresh c e p s) := by
  rw [commandFill_eq]
  split
  · split
    · exact handLevel_commands ..
    · exact .refl _ s
  · exact ((stopLevel_commands ..).trans (joinWaiting_commands ..)).trans (arbitrate_commands ..)

/-- A corner's outcome is kept (R105). -/
def keepOutcome (c : Corner) (o : LevelOutcome) (s : State) : State := changeCorner c (fun r => { r with outcome := some o }) s

theorem keepOutcome_commands (c : Corner) (o : LevelOutcome) (s : State) : Commands (· = c) s (keepOutcome c o s) :=
  changeCorner_commands c (fun _ => rfl) s

/-- The error of a corner at a height (R104). -/
def State.errorAt (s : State) (c : Corner) (height : Nat) : Int := targetOf s c - (height : Int)

/-- The outcome of a corner at a height (R105). -/
def State.outcomeAt (s : State) (c : Corner) (height : Nat) : LevelOutcome := outcomeOf (s.errorAt c height) (bandNow s)

/-- The program of a corner at a height (R106). -/
def State.programAt (s : State) (c : Corner) (height : Nat) : Program :=
  programFor (s.corner c) (s.errorAt c height) (s.outcomeAt c height)

theorem judge_hold {height : Nat} (hold : s.outcomeAt c height = .hold) (afresh : Bool) :
    judge afresh c height s = commandHold c (keepOutcome c .hold s) := by
  unfold State.outcomeAt State.errorAt at hold
  unfold judge
  dsimp only
  rw [hold]
  rfl

theorem judge_exhaust {height : Nat} (exhaust : s.outcomeAt c height = .exhaust) (afresh : Bool) :
    judge afresh c height s = commandExhaust afresh c (s.programAt c height) (keepOutcome c .exhaust s) := by
  unfold State.programAt
  unfold State.outcomeAt State.errorAt at *
  unfold judge
  dsimp only
  rw [exhaust]
  rfl

theorem judge_fill {height : Nat} (fill : s.outcomeAt c height = .fill) (afresh : Bool) :
    judge afresh c height s = commandFill afresh c (s.errorAt c height) (s.programAt c height) (keepOutcome c .fill s) := by
  unfold State.programAt
  unfold State.outcomeAt State.errorAt at *
  unfold judge
  dsimp only
  rw [fill]
  rfl

theorem judge_commands (afresh : Bool) (c : Corner) (height : Nat) (s : State) : Commands (· = c) s (judge afresh c height s) := by
  cases outcome : s.outcomeAt c height with
  | hold =>
    rw [judge_hold outcome]
    exact (keepOutcome_commands ..).trans (commandHold_commands ..)
  | exhaust =>
    rw [judge_exhaust outcome]
    exact (keepOutcome_commands ..).trans (commandExhaust_commands ..)
  | fill =>
    rw [judge_fill outcome]
    exact (keepOutcome_commands ..).trans (commandFill_commands ..)

theorem commandFromLast_commands (c : Corner) (s : State) : Commands (· = c) s (commandFromLast c s) := by
  unfold commandFromLast
  dsimp only
  split
  · split
    · exact judge_commands ..
    · exact .refl _ s
  · exact .refl _ s

theorem dropHalt_stands (was : Bool) (s : State) : CornersStand s (dropHalt was s) := by
  unfold dropHalt
  split
  · exact cornersStand_rest s s.lc.grants none false s.lc.rising
  · exact .refl s

theorem offsetEvent_stands (c : Corner) (x : Int) (s : State) : CornersStand s (offsetEvent c x s) := by
  unfold offsetEvent
  split
  · exact changeCorner_stands c (fun _ => ⟨rfl⟩) s
  · have moved := changeCorner_stands c (f := fun r => { r with offset := x, phase := r.phase.afterOffset x }) (fun _ => ⟨rfl⟩) s
    exact (moved.trans (dropHalt_stands ..)).trans (commandFromLast_commands ..).stands

theorem sendOffsets_stands (old new : Vector Int 6) (s : State) : CornersStand s (forAll 6 (sendOffset old new) s) := by
  refine forAll_stands (fun c y => ?_) s
  unfold sendOffset
  split
  · exact .refl y
  · exact offsetEvent_stands ..

/-- The part as the forming of the envelope leaves it before the corners are told (R30, R38, R41). -/
def State.enveloped (s : State) : State :=
  if (envelopeOf s.rt.slots).ceiling = s.eu.env.ceiling then storeEnvelope (envelopeOf s.rt.slots) s
  else evalInhibit (storeEnvelope (envelopeOf s.rt.slots) s)

theorem formEnvelope_eq (s : State) :
    formEnvelope s = forAll 6 (sendOffset s.eu.env.offsets (envelopeOf s.rt.slots).offsets) s.enveloped := rfl

theorem enveloped_eq (s : State) : s.enveloped = { s with eu := s.enveloped.eu } := by
  unfold State.enveloped
  split
  · rfl
  · rfl

theorem formEnvelope_stands (s : State) : CornersStand s (formEnvelope s) := by
  rw [formEnvelope_eq]
  exact (CornersStand.of_lc (by rw [enveloped_eq])).trans (sendOffsets_stands ..)

theorem cornersStand_frame : TableFrame CornersStand where
  refl := .refl
  trans := .trans
  records _ _ := .of_lc rfl
  form := formEnvelope_stands
  rising s _ := cornersStand_rest s s.lc.grants s.lc.haltAt s.lc.resumePending _
  flag _ := .of_lc rfl
  service _ := .of_lc rfl
  degraded _ _ := .of_lc rfl
  doors s := .of_lc (by rw [emptyReleaseSet, setReleaseSet_eq]; rfl)

end Sys2Proof.Machine
end

section
/-! PROOFS. What an evaluation leaves of the records it is not for (R12 to R19), the stationary timer (O33) and the sensor checks' timers
(O40). -/

namespace Sys2Proof.Machine

variable {s t : State} {i j : Slot} {r : Record}

/-! ### A slot under the operations of the table on another -/

theorem changeRecord_slot_ne (f : Record → Record) (other : i ≠ j) (s : State) : (changeRecord i f s).rt.slots[j.val] = s.rt.slots[j.val] :=
  upd_get_ne _ _ other

theorem markRisen_slot_ne (other : i ≠ j) (s : State) : (markRisen i s).rt.slots[j.val] = s.rt.slots[j.val] := changeRecord_slot_ne _ other s

theorem noticeRising_slot_ne (other : i ≠ j) (r : Record) (s : State) : (noticeRising i r s).rt.slots[j.val] = s.rt.slots[j.val] := by
  unfold noticeRising
  split
  · rfl
  · split
    · exact markRisen_slot_ne other (leaveRising _ s)
    · unfold enterRising
      dsimp only
      split
      · exact markRisen_slot_ne other (leaveRising _ s)
      · rfl

theorem enterReleasing_slot_ne (other : i ≠ j) (r : Record) (s : State) : (enterReleasing i r s).rt.slots[j.val] = s.rt.slots[j.val] := by
  rw [enterReleasing, noticeRising_slot_ne other, formEnvelope_rt, changeRecord_slot_ne _ other]

theorem returnActive_slot_ne (other : i ≠ j) (s : State) : (returnActive i s).rt.slots[j.val] = s.rt.slots[j.val] := by
  have formed : (returnActive i s).rt = (formEnvelope (changeRecord i Record.reactivate s)).rt := rfl
  rw [formed, formEnvelope_rt, changeRecord_slot_ne _ other]

theorem freeSlot_slot_ne (other : i ≠ j) (r : Record) (s : State) : (freeSlot i r s).rt.slots[j.val] = s.rt.slots[j.val] := by
  have rt : (freeSlot i r s).rt = (vacate i s).rt := by
    rw [freeSlot, formEnvelope_rt, endService_rt]
    rfl
  rw [rt]
  exact upd_get_ne _ _ other

/-- A property that the operations on the slots but those of `mine` keep, and that the evaluations of `mine` keep, every evaluation keeps. -/
theorem evaluate_keeps {P : State → Prop} {mine : Slot → Prop} (enter : ∀ j r x, ¬ mine j → P x → P (enterReleasing j r x))
    (free : ∀ j r x, ¬ mine j → P x → P (freeSlot j r x)) (back : ∀ j x, ¬ mine j → P x → P (returnActive j x)) (forced : List Slot)
    (own : ∀ n j x, mine j → P x → P (evaluate forced n j x)) : ∀ (n : Nat) (j : Slot) (x : State), P x → P (evaluate forced n j x)
  | 0, _, _, h => h
  | n + 1, j, x, h => by
    have chain (xs : List Slot) (y : State) (hy : P y) : P (xs.foldl (fun s j => evaluate forced n j s) y) :=
      foldl_rel (fun y z : State => P y → P z) (fun _ => id) (fun h k => k ∘ h) _
        (fun y j hy => evaluate_keeps enter free back forced own n j y hy) xs y hy
    by_cases here : mine j
    · exact own (n + 1) j x here h
    unfold evaluate
    split
    · exact h
    · next r _ =>
      split
      · exact h
      · split
        · extract_lets y z
          have hy : P y := enter j r x here h
          have hz : P z := by
            unfold z
            split
            · exact chain _ y hy
            · exact hy
          split
          · next q _ =>
            split
            · exact chain _ _ (free j q z here hz)
            · exact hz
          · exact hz
        · exact h
      · split
        · exact back j x here h
        · exact h

/-- What every evaluation of a record keeps of its slot, every evaluation keeps, whatever record it is for. -/
theorem evaluate_keeps_record {Q : Option Record → Prop} (forced : List Slot)
    (own : ∀ n x, TableOnly s x → Q (x.recordAt i) → Q ((evaluate forced n i x).recordAt i)) (n : Nat) (j : Slot) (x : State)
    (table : TableOnly s x) (h : Q (x.recordAt i)) : Q ((evaluate forced n j x).recordAt i) := by
  have of_slot {x y : State} (same : y.rt.slots[i.val] = x.rt.slots[i.val]) (k : Q (x.recordAt i)) : Q (y.recordAt i) := by
    have record : y.recordAt i = x.recordAt i := congrArg SlotEntry.record same
    rwa [record]
  exact (evaluate_keeps (P := fun x => TableOnly s x ∧ Q (x.recordAt i)) (mine := (· = i))
    (fun j r x other k => ⟨k.1.trans (enterReleasing_table j r x), of_slot (enterReleasing_slot_ne other r x) k.2⟩)
    (fun j r x other k => ⟨k.1.trans (freeSlot_table j r x), of_slot (freeSlot_slot_ne other r x) k.2⟩)
    (fun j x other k => ⟨k.1.trans (returnActive_table j x), of_slot (returnActive_slot_ne other x) k.2⟩) forced
    (fun n j x here k => by
      subst here
      exact ⟨k.1.trans (evaluate_table forced n j x), own n x k.1 k.2⟩) n j x ⟨table, h⟩).2

theorem foldl_evaluate_keeps_record {Q : Option Record → Prop} (own : ∀ n x, TableOnly s x → Q (x.recordAt i) → Q ((evaluate [] n i x).recordAt i))
    {x : State} (table : TableOnly s x) (h : Q (x.recordAt i)) (xs : List Slot) : Q ((xs.foldl (fun s j => evalRecord j s) x).recordAt i) :=
  (foldl_rel (fun y z : State => TableOnly s y ∧ Q (y.recordAt i) → TableOnly s z ∧ Q (z.recordAt i)) (fun _ => id) (fun h k => k ∘ h) _
    (fun y j hy => ⟨hy.1.trans (evalRecord_table j y), evaluate_keeps_record [] own evalDepth j y hy.1 hy.2⟩) xs x ⟨table, h⟩).2

/-- R12: a record that is not RELEASING and waits for its owner is left as it is by every evaluation. -/
theorem evaluate_keeps_waiting (still : r.state ≠ .releasing) (lists : Cond.ownerRelease ∈ r.conds) (waits : r.ownerRelease = false)
    (forced : List Slot) (n : Nat) (j : Slot) (s : State) (h : s.recordAt i = some r) : (evaluate forced n j s).recordAt i = some r := by
  refine evaluate_keeps_record (Q := (· = some r)) forced (fun n x _ h => ?_) n j s (.refl s) h
  cases n with
  | zero => exact h
  | succ n =>
    cases state : r.state with
    | armed => simp [evaluate, h, state]
    | active => rw [evaluate_of_waits h state lists waits, h]
    | releasing => exact absurd state still

theorem evalListing_keeps_waiting (still : r.state ≠ .releasing) (lists : Cond.ownerRelease ∈ r.conds) (waits : r.ownerRelease = false)
    (p : Cond → Bool) (h : s.recordAt i = some r) : (evalListing p s).recordAt i = some r :=
  foldl_rel (fun x y : State => x.recordAt i = some r → y.recordAt i = some r) (fun _ => id) (fun h k => k ∘ h) _
    (fun x j => evaluate_keeps_waiting still lists waits [] evalDepth j x) (listing s p) s h

theorem kneelChanged_keeps_waiting (still : r.state ≠ .releasing) (lists : Cond.ownerRelease ∈ r.conds) (waits : r.ownerRelease = false)
    (k : Kind) (h : s.recordAt i = some r) : (kneelChanged k s).recordAt i = some r := by
  unfold kneelChanged
  split
  · exact evalListing_keeps_waiting still lists waits _ h
  · exact h

/-! ### No ARMED record is left (R10) -/

/-- No ARMED record stands in the slot. -/
def State.Unarmed (j : Slot) (s : State) : Prop := ∀ r, s.recordAt j = some r → r.state ≠ .armed

theorem unarmed_of_eq (same : t.recordAt j = s.recordAt j) (h : s.Unarmed j) : t.Unarmed j := by
  unfold State.Unarmed
  rw [same]
  exact h

theorem changeRecord_unarmed (i : Slot) {f : Record → Record} (leaves : ∀ r, (f r).state = .armed → r.state = .armed) (h : s.Unarmed j) :
    (changeRecord i f s).Unarmed j := by
  intro r stands
  rw [changeRecord_recordAt] at stands
  split at stands
  · obtain ⟨q, was, rfl⟩ := Option.map_eq_some_iff.mp stands
    exact fun armed => h q was (leaves q armed)
  · exact h r stands

theorem formEnvelope_unarmed (h : s.Unarmed j) : (formEnvelope s).Unarmed j := unarmed_of_eq (formEnvelope_recordAt j s) h

theorem markRisen_unarmed (i : Slot) (h : s.Unarmed j) : (markRisen i s).Unarmed j := changeRecord_unarmed i (fun _ armed => armed) h

theorem noticeRising_unarmed (i : Slot) (r : Record) (h : s.Unarmed j) : (noticeRising i r s).Unarmed j := by
  unfold noticeRising
  split
  · exact h
  · split
    · exact markRisen_unarmed (s := leaveRising _ s) i h
    · unfold enterRising
      dsimp only
      split
      · exact markRisen_unarmed (s := leaveRising _ s) i h
      · exact h

theorem evaluate_unarmed (forced : List Slot) (n : Nat) (i : Slot) (h : s.Unarmed j) : (evaluate forced n i s).Unarmed j :=
  evaluate_invariant (P := State.Unarmed j)
    (fun i r _ hx => noticeRising_unarmed i r (formEnvelope_unarmed (changeRecord_unarmed i (fun _ armed => nomatch armed) hx)))
    (fun i r x hx => by
      intro q stands
      rw [freeSlot_recordAt, vacate_recordAt] at stands
      split at stands
      · cases stands
      · exact hx q stands)
    (fun i _ hx => formEnvelope_unarmed (changeRecord_unarmed i (f := Record.reactivate) (fun _ armed => nomatch armed) hx)) forced n i s h

theorem kneelChanged_unarmed (k : Kind) (h : s.Unarmed j) : (kneelChanged k s).Unarmed j := by
  unfold kneelChanged
  split
  · exact foldl_rel (fun x y : State => x.Unarmed j → y.Unarmed j) (fun _ => id) (fun h k => k ∘ h) _
      (fun x i => evaluate_unarmed (s := x) [] evalDepth i) _ s h
  · exact h

/-- A record armed (R10). -/
def Record.armed (r : Record) : Record := { r with state := .active, armAt := none }

theorem armRecord_of_armed (stands : s.recordAt i = some r) (armed : r.state = .armed) :
    armRecord i s = evalRecord i (kneelChanged r.kind (formEnvelope (changeRecord i Record.armed s))) := by
  unfold armRecord
  rw [stands]
  exact if_pos armed

theorem armRecord_of_unarmed (h : s.Unarmed i) : armRecord i s = s := by
  unfold armRecord
  split
  · next r stands => exact if_neg (h r stands)
  · rfl

theorem unarmed_or (i : Slot) (s : State) : s.Unarmed i ∨ ∃ r, s.recordAt i = some r ∧ r.state = .armed := by
  by_cases un : ∃ r, s.recordAt i = some r ∧ r.state = .armed
  · exact .inr un
  · exact .inl fun r stands armed => un ⟨r, stands, armed⟩

theorem armRecord_unarmed (i : Slot) (h : s.Unarmed j) : (armRecord i s).Unarmed j := by
  obtain un | ⟨r, stands, armed⟩ := unarmed_or i s
  · rw [armRecord_of_unarmed un]
    exact h
  · rw [armRecord_of_armed stands armed]
    exact evaluate_unarmed _ _ _ (kneelChanged_unarmed _ (formEnvelope_unarmed (changeRecord_unarmed i (f := Record.armed) (fun _ armed => nomatch armed) h)))

/-- R10: arming leaves no ARMED record. -/
theorem armRecord_unarmed_self (i : Slot) (s : State) : (armRecord i s).Unarmed i := by
  obtain un | ⟨r, stands, armed⟩ := unarmed_or i s
  · rw [armRecord_of_unarmed un]
    exact un
  · rw [armRecord_of_armed stands armed]
    refine evaluate_unarmed _ _ _ (kneelChanged_unarmed _ (formEnvelope_unarmed ?_))
    intro q now'
    rw [changeRecord_recordAt_self, stands] at now'
    cases now'
    exact nofun

theorem armRecords_unarmed (s : State) (j : Slot) : (armRecords s).Unarmed j :=
  (forAll_each (n := 32) (I := fun _ => True) (Q := fun j x => State.Unarmed j x) (fun _ _ _ => trivial) (fun i _ _ => armRecord_unarmed_self i _)
    (fun i _ _ _ h => armRecord_unarmed i h) trivial).2 j

/-- R10, R12: an ARMED record that waits for its owner is left to its own arming. -/
theorem armRecord_keeps_waiting (still : r.state ≠ .releasing) (lists : Cond.ownerRelease ∈ r.conds) (waits : r.ownerRelease = false)
    (apart : j ≠ i ∨ r.state ≠ .armed) (stands : s.recordAt i = some r) : (armRecord j s).recordAt i = some r := by
  obtain un | ⟨q, held, armed⟩ := unarmed_or j s
  · rw [armRecord_of_unarmed un, stands]
  · have other : j ≠ i := by
      rintro rfl
      cases stands.symm.trans held
      exact apart.elim (fun h => h rfl) (fun h => h armed)
    rw [armRecord_of_armed held armed]
    refine evaluate_keeps_waiting still lists waits [] _ j _ (kneelChanged_keeps_waiting still lists waits _ ?_)
    rw [formEnvelope_recordAt, changeRecord_recordAt_ne _ _ other, stands]

theorem armRecord_waiting (armed : r.state = .armed) (lists : Cond.ownerRelease ∈ r.conds) (waits : r.ownerRelease = false)
    (stands : s.recordAt i = some r) : (armRecord i s).recordAt i = some r.armed := by
  have still : r.armed.state ≠ .releasing := nofun
  rw [armRecord_of_armed stands armed]
  refine evaluate_keeps_waiting still lists waits [] _ i _ (kneelChanged_keeps_waiting still lists waits _ ?_)
  rw [formEnvelope_recordAt, changeRecord_recordAt_self, stands]
  rfl

theorem armRecords_waiting (armed : r.state = .armed) (lists : Cond.ownerRelease ∈ r.conds) (waits : r.ownerRelease = false)
    (stands : s.recordAt i = some r) : (armRecords s).recordAt i = some r.armed := by
  have keeps (x : State) (j : Slot) (h : x.recordAt i = some r.armed) : (armRecord j x).recordAt i = some r.armed :=
    armRecord_keeps_waiting (r := r.armed) nofun lists waits (.inr nofun) h
  have sets (x : State) (h : x.recordAt i = some r ∨ x.recordAt i = some r.armed) : (armRecord i x).recordAt i = some r.armed :=
    h.elim (armRecord_waiting armed lists waits) (keeps x i)
  refine foldl_establishes (I := fun x : State => x.recordAt i = some r ∨ x.recordAt i = some r.armed) (P := fun x : State => x.recordAt i = some r.armed)
    (f := fun x j => armRecord j x) (fun x j h => ?_) keeps sets (List.finRange 32) s (.inl stands) (List.mem_finRange i)
  by_cases here : j = i
  · subst here
    exact .inr (sets x h)
  · refine h.imp (fun h => ?_) (keeps x j)
    exact armRecord_keeps_waiting (by rw [armed]; nofun) lists waits (.inl here) h

/-! ### The stationary timer (R54) -/

/-- The part at the end of the stationary timer, with the flag set (R54). -/
def State.stood (s : State) (e : Nat) : State :=
  { atLeast e s with mc := { s.mc with stationary := true, stationaryAt := none } }

theorem exec_stationaryTimerExpiry {e : Nat} (live : s.resetHeld = false) (runs : s.mc.stationaryAt = some e) (clear : s.mc.stationary = false) :
    exec .stationaryTimerExpiry s = .next (formContext (armRecords (s.stood e))) := by
  refine (running_next (f := stationaryExpiry) live).trans (congrArg Host.Outcome.next ?_)
  unfold stationaryExpiry
  rw [runs]
  dsimp only
  unfold setStationary
  rw [if_neg (by rw [show (atLeast e s).mc.stationary = false from clear]; nofun)]
  rfl

theorem CornersStand.source (h : CornersStand s t) (c : Corner) : (t.corner c).source = (s.corner c).source := by rw [(h.corner c).eq]

/-- R100, R101: what the forming of the context leaves of a corner's source. -/
theorem formContext_sources {u : State} (stands : CornersStand s u) (stationary : u.mc.stationary = true) (params : u.hl.params = s.hl.params)
    (reset : u.inReset .level = s.inReset .level) (c : Corner) :
    (formContext u).lc.context = (if s.inReset .level then s.lc.context else .stationary) ∧
    (if s.inReset .level = true ∨ s.lc.context = .stationary ∨ sourceFor s c .stationary = (s.corner c).source then s.corner c
      else (s.corner c).taking u.now (sourceFor s c .stationary)).Stands ((formContext u).corner c) := by
  have formed : u.formedContext = .stationary := by
    unfold State.formedContext
    rw [stationary]
  have entry : sourceFor u c .stationary = sourceFor s c .stationary := by
    unfold sourceFor
    rw [params]
  cases level : s.inReset .level with
  | true =>
    rw [formContext_reset (reset.trans level), if_pos rfl, if_pos (.inl rfl)]
    exact ⟨stands.context, stands.corner c⟩
  | false =>
    obtain ⟨lc, corner⟩ := formContext_live (reset.trans level)
    refine ⟨?_, ?_⟩
    · rw [lc, if_neg Bool.false_ne_true]
      exact formed
    · rw [corner c, formed, entry, stands.context, stands.source]
      simp only [Bool.false_eq_true, false_or, eq_comm (a := LevelContext.stationary)]
      split
      · exact stands.corner c
      · have eq := (stands.corner c).eq
        exact ⟨by rw [eq]; rfl⟩

/-- Settles O33. -/
theorem stationaryTimerExpires : Obligations.StationaryTimerExpires := by
  intro s e live runs clear
  have run := exec_stationaryTimerExpiry live runs clear
  have law (h : s.EnvelopeLaw) := Moves.envelopeLaw h (exec_moves _ run)
  have armed := armRecords_table (s.stood e)
  have corners : CornersStand s (armRecords (s.stood e)) := (CornersStand.of_lc (s := s) (t := s.stood e) rfl).trans (cornersStand_frame.armRecords _)
  have left := armRecords_unarmed (s.stood e)
  have waiting (i : Slot) (r : Record) := armRecords_waiting (s := s.stood e) (i := i) (r := r)
  generalize armRecords (s.stood e) = u at run law armed corners left waiting
  have formed := formContext_only u
  have records (i : Slot) : (formContext u).recordAt i = u.recordAt i := by rw [State.recordAt, State.recordAt, formed.rt]
  have stationary : u.mc.stationary = true := by rw [armed.mc]; rfl
  have params : u.hl.params = s.hl.params := by rw [armed.hl]; rfl
  have reset : u.inReset .level = s.inReset .level := armed.inReset .level
  have source := formContext_sources corners stationary params reset
  have now' : (formContext u).now = u.now := formed.now
  refine ⟨_, run, formed.now.trans armed.now, formed.mc.trans armed.mc, fun i r stands => left i r ((records i).symm.trans stands),
    fun i r stands was waits lists => (records i).trans (waiting i r was lists waits stands), (source 0).1, ?_, law, formed.sp.trans armed.sp,
    formed.bc.trans armed.bc, formed.js.trans armed.js, formed.dl.trans armed.dl, formed.dt.trans armed.dt⟩
  rintro c y r rfl rfl
  rw [now', (source c).2.eq]
  exact ⟨rfl, rfl, rfl⟩

/-! ### The resume (R115) and the timers of the corners (R117, R118) -/

/-- A HALTED corner becomes LOWERING (R115). -/
def CornerRecord.resumed (r : CornerRecord) : CornerRecord := if r.phase = .halted then { r with phase := .lowering } else r

/-- The part with its HALTED corners LOWERING, before their commands are formed (R115). -/
def State.resumed (s : State) : State :=
  { s with lc := { s.lc with corners := mapAll s.lc.corners fun _ r => r.resumed, resumePending := false } }

/-- The HALTED corners, in rising corner index. -/
def State.haltedCorners (s : State) : List Corner := (List.finRange 6).filter fun c => (s.corner c).phase == .halted

theorem mem_haltedCorners {c : Corner} : c ∈ s.haltedCorners ↔ (s.corner c).phase = .halted := by
  simp [State.haltedCorners]

theorem resumeNow_eq (s : State) : resumeNow s = s.haltedCorners.foldl (fun s c => commandFromLast c s) s.resumed := by
  have lowered : s.haltedCorners.foldl (fun s c => changeCorner c (fun r => { r with phase := .lowering }) s)
      { s with lc := { s.lc with resumePending := false } } = s.resumed := by
    have own : (mapAll s.lc.corners fun c r => if (s.corner c).phase = .halted then { r with phase := .lowering } else r) =
        mapAll s.lc.corners fun _ r => r.resumed := mapAll_congr fun _ => rfl
    rw [State.haltedCorners, List.foldl_filter, State.resumed, ← own]
    refine forAll_put (fun corners => ({ s with lc := { s.lc with corners := corners, resumePending := false } } : State))
      (fun c r => if (s.corner c).phase = .halted then { r with phase := .lowering } else r)
      (g := fun c x => if (s.corner c).phase == .halted then changeCorner c (fun r => { r with phase := .lowering }) x else x)
      (fun c corners => ?_) s.lc.corners
    by_cases halted : (s.corner c).phase = .halted
    · simp only [halted, beq_self_eq_true, if_true]
      rfl
    · simp only [halted, beq_eq_false_iff_ne.mpr halted, Bool.false_eq_true, if_false]
      rw [upd_fixed rfl]
  rw [← lowered]
  rfl

theorem foldl_commandFromLast (xs : List Corner) (s : State) : Commands (· ∈ xs) s (xs.foldl (fun s c => commandFromLast c s) s) := by
  induction xs generalizing s with
  | nil => exact .refl _ s
  | cons c xs ih =>
    have first := (commandFromLast_commands c s).mono (Q := (· ∈ c :: xs)) fun d here => here ▸ List.mem_cons_self
    exact first.trans ((ih (commandFromLast c s)).mono fun d later => List.mem_cons_of_mem c later)

theorem resumed_corner (c : Corner) (s : State) : s.resumed.corner c = (s.corner c).resumed := mapAll_get s.lc.corners (fun _ r => r.resumed) c

/-- R115: what a resume that acts leaves of the controller. -/
theorem resumeNow_commands (s : State) : Commands (fun c => (s.corner c).phase = .halted) s.resumed (resumeNow s) := by
  rw [resumeNow_eq]
  exact (foldl_commandFromLast _ _).mono fun _ => mem_haltedCorners.mp

theorem resumeNow_phase (c : Corner) (s : State) :
    ((resumeNow s).corner c).phase = if (s.corner c).phase = .halted then .lowering else (s.corner c).phase := by
  rw [(resumeNow_commands s).corner, resumed_corner]
  unfold CornerRecord.resumed
  split
  · rfl
  · rfl

theorem exec_strobeTimerExpiry {c : Corner} {e : Nat} (live : s.resetHeld = false) (check : (s.corner c).check = .strobe)
    (runs : (s.corner c).checkAt = some e) : exec (.strobeTimerExpiry c) s = .next ((s.atTime (max s.now e)).withCorner c
      { s.corner c with check := .wait, strobe := false, checkAt := some (max s.now e + 100 * ms) }) := by
  refine (running_next (f := strobeExpiry c) live).trans (congrArg Host.Outcome.next ?_)
  unfold strobeExpiry
  rw [check, runs]
  rfl

/-- What the end of the wait leaves of its corner, before PLAUS looks at it (R118). -/
def State.waited (s : State) (c : Corner) : State :=
  if s.heightRecord c = .valid then recoverCorner c s else changeCorner c (fun r => { r with check := .degraded, checkAt := none }) s

theorem exec_waitTimerExpiry {c : Corner} {e : Nat} (live : s.resetHeld = false) (check : (s.corner c).check = .wait)
    (runs : (s.corner c).checkAt = some e) : exec (.waitTimerExpiry c) s = .next (watchDegraded ((atLeast e s).waited c)) := by
  refine (running_next (f := waitExpiry c) live).trans (congrArg Host.Outcome.next ?_)
  unfold waitExpiry State.waited
  rw [check, runs]
  dsimp only
  cases height : (atLeast e s).heightRecord c with
  | valid => rfl
  | stale => rfl
  | fault => rfl

theorem waited_table (c : Corner) (s : State) : TableOnly s (s.waited c) := by
  unfold State.waited
  split
  · exact recoverCorner_table c s
  · exact (changeCorner_only c _ s).table

/-- R118: a corner that returns to NORMAL. -/
theorem recoverCorner_corner (c : Corner) (s : State) : (recoverCorner c s).corner c =
    { s.corner c with check := .normal, checkAt := none, recoveryAt := some (s.now + 60000 * ms) } := changeCorner_corner_self s c _

theorem recoverCorner_sensor (c : Corner) (s : State) : (recoverCorner c s).flag .sensor = true := by
  rw [recoverCorner, setFlag_flag]
  rfl

theorem waited_valid {c : Corner} (valid : s.heightRecord c = .valid) : s.waited c = recoverCorner c s := if_pos valid

theorem waited_invalid {c : Corner} (other : s.heightRecord c ≠ .valid) :
    (s.waited c).corner c = { s.corner c with check := .degraded, checkAt := none } := by
  rw [State.waited, if_neg other]
  exact changeCorner_corner_self s c _

theorem exec_recoveryWindowExpiry {c : Corner} {e : Nat} (live : s.resetHeld = false) (runs : (s.corner c).recoveryAt = some e) :
    exec (.recoveryWindowExpiry c) s = .next ((s.atTime (max s.now e)).withCorner c { s.corner c with recoveryAt := none }) := by
  refine (running_next (f := recoveryExpiry c) live).trans (congrArg Host.Outcome.next ?_)
  unfold recoveryExpiry
  rw [runs]
  rfl

/-- The part at the end of its halt timer (R115). -/
def State.unhalted (s : State) (e : Nat) : State := { s with now := max s.now e, lc := { s.lc with haltAt := none } }

theorem exec_haltTimerExpiry {e : Nat} (live : s.resetHeld = false) (runs : s.lc.haltAt = some e) :
    exec .haltTimerExpiry s = .next (if s.lc.resumePending then resumeNow (s.unhalted e) else s.unhalted e) := by
  refine (running_next (f := haltExpiry) live).trans (congrArg Host.Outcome.next ?_)
  unfold haltExpiry
  rw [runs]
  rfl

/-- Settles O40. -/
theorem cornerCheckTimers : Obligations.CornerCheckTimers := by
  intro s c e live
  refine ⟨exec_strobeTimerExpiry live, fun check runs => ?_, exec_recoveryWindowExpiry live, fun runs => ?_⟩
  · have run := exec_waitTimerExpiry live check runs
    have table := waited_table c (atLeast e s)
    have stands := cornersStand_frame.watchDegraded ((atLeast e s).waited c)
    obtain ⟨x, watched⟩ := watchDegraded_table ((atLeast e s).waited c)
    have corner := (stands.corner c).eq
    have now' := watched.now.trans table.now
    have checked : ((watchDegraded ((atLeast e s).waited c)).corner c).checkAt = none := by
      rw [corner]
      by_cases valid : s.heightRecord c = .valid
      · rw [waited_valid (s := atLeast e s) valid, recoverCorner_corner]
      · rw [waited_invalid (s := atLeast e s) valid]
    refine ⟨_, run, now', checked, fun valid => ?_, fun other => ?_, watched.sp.trans table.sp, watched.mc.trans table.mc,
      watched.bc.trans table.bc, watched.js.trans table.js, watched.dl.trans table.dl, watched.dt.trans table.dt⟩
    · rw [now', corner, waited_valid (s := atLeast e s) valid, recoverCorner_corner]
      exact ⟨rfl, rfl, recordFlag_frame.watchDegraded _ |>.stays _ (recoverCorner_sensor ..)⟩
    · rw [corner, waited_invalid (s := atLeast e s) other]
      exact ⟨rfl, rfl⟩
  · have run := exec_haltTimerExpiry live runs
    refine ⟨fun none' => ?_, fun pending => ?_⟩
    · rw [run, none']
      rfl
    · rw [pending, if_pos rfl] at run
      have only := resumeNow_only (s.unhalted e)
      have commands := resumeNow_commands (s.unhalted e)
      exact ⟨_, run, only.now, by rw [commands.lc]; rfl, by rw [commands.lc]; rfl, fun d => resumeNow_phase d (s.unhalted e), only.rt, only.eu,
        only.sp, only.mc, only.bc, only.js, only.dl, only.dt⟩

end Sys2Proof.Machine
end

section
/-! PROOFS. What the commands of a corner's valves leave of its pair, its grant and its entry in the waiting set, and of every other corner's
(R106 to R112); halts and resumes (O42). -/

namespace Sys2Proof.Machine

variable {s t u : State} {c d : Corner} {side : Side} {p : Program}

/-! ### Corners that are not commanded -/

/-- From `s` to `t` corner `d` is as it was, or has been given a grant that it waited for, with its program (R110). -/
def State.Awaits (s t : State) (d : Corner) : Prop :=
  s.FillKept t d ∨ ∃ w, (s.corner d).waiting = some w ∧ t.granted d = true ∧ (t.corner d).waiting = none ∧
    t.valves.level[d.val] = (s.valves.level[d.val]).hand s.now .first w.prog

theorem State.Awaits.refl (s : State) (d : Corner) : s.Awaits s d := .inl (.refl s d)

theorem State.FillKept.awaits (h : s.FillKept t d) : s.Awaits t d := .inl h

theorem State.Awaits.trans (h : s.Awaits t d) (k : t.Awaits u d) (now : t.now = s.now) : s.Awaits u d := by
  rcases h with kept | ⟨w, waits, granted, done, level⟩
  · rcases k with kept' | ⟨v, waits', granted', done', level'⟩
    · exact .inl (kept.trans kept')
    · refine .inr ⟨v, kept.1 ▸ waits', granted', done', ?_⟩
      rw [level', now, kept.2.2]
  · rcases k with kept' | ⟨v, waits', _⟩
    · exact .inr ⟨w, waits, kept'.2.1.trans granted, kept'.1.trans done, kept'.2.2.trans level⟩
    · cases done.symm.trans waits'

/-- A corner that does not wait is as it was. -/
theorem State.Awaits.kept (h : s.Awaits t d) (out : (s.corner d).waiting = none) : s.FillKept t d :=
  h.resolve_right fun ⟨_, waits, _⟩ => by cases out.symm.trans waits

/-- A corner that waits holds its program under a grant, or waits on as it was. -/
theorem State.Awaits.waited {w : WaitEntry} (h : s.Awaits t d) (waits : (s.corner d).waiting = some w) (opens : w.prog.inRange ≠ .idle) :
    t.FillsWith d w.prog.inRange ∨ s.FillKept t d := by
  rcases h with kept | ⟨v, waits', granted, done, level⟩
  · exact .inr kept
  · cases waits.symm.trans waits'
    refine .inl ⟨granted, done, ?_, ?_⟩
    · exact (congrArg (fun x : Pair => x.first.prog) level).trans (Pair.hand_prog s.now .first w.prog _)
    · have partner := Pair.hand_other s.now .first w.prog s.valves.level[d.val]
      rw [if_neg opens] at partner
      exact (congrArg (fun x : Pair => x.second.prog) level).trans (congrArg Generator.prog partner)

theorem giveGrant_awaits {w : WaitEntry} (live : s.inReset .level = false) (free : s.GrantFree) (waits : (s.corner c).waiting = some w)
    (d : Corner) : s.Awaits (giveGrant c w s) d := by
  by_cases here : c = d
  · subst here
    refine .inr ⟨w, waits, (giveGrant_granted free c c w).mpr (.inr rfl), ?_, ?_⟩
    · rw [giveGrant_corner, if_pos rfl]
    · rw [giveGrant_level live, if_pos rfl]
  · exact .inl (giveGrant_fillKept live free here)

theorem arbitrate_awaits (live : s.inReset .level = false) (d : Corner) : s.Awaits (arbitrate s) d := by
  have once {x : State} (live : x.inReset .level = false) : x.Awaits (arbitrateOnce x) d := by
    rcases arbitrateOnce_cases x with ⟨same, _⟩ | ⟨c, w, _, free, waits, _, given⟩
    · rw [same]
      exact .refl x d
    · rw [given]
      exact giveGrant_awaits live free waits d
  have first := arbitrateOnce_only s
  exact (once live).trans (once ((first.inReset .level).trans live)) first.now

theorem ungrant_kept (other : d ≠ c) (s : State) : s.FillKept (s.ungrant c) d := by
  refine ⟨rfl, ?_, rfl⟩
  rw [Bool.eq_iff_iff, ungrant_granted]
  simp [other]

theorem returnGrant_awaits (live : s.inReset .level = false) (other : d ≠ c) : s.Awaits (returnGrant c s) d :=
  (ungrant_kept other s).awaits.trans (arbitrate_awaits (s := s.ungrant c) live d) rfl

/-! ### A member handed a program -/

theorem handLevel_uncut (live : s.inReset .level = false) (uncut : s.valves.level[c.val].cuts side .first p = false) :
    handLevel c side p s = { s with valves := s.handed c side p } := by
  unfold handLevel
  rw [if_neg (by rw [uncut]; simp), takeLevel_live live]

theorem handLevel_cut (live : s.inReset .level = false) (cuts : s.valves.level[c.val].cuts side .first p = true) :
    handLevel c side p s = returnGrant c { s with valves := s.handed c side p } := by
  unfold handLevel
  rw [if_pos (by rw [live, cuts]; rfl), takeLevel_live live]

theorem handed_kept (other : d ≠ c) (side : Side) (p : Program) (s : State) : s.FillKept { s with valves := s.handed c side p } d :=
  ⟨rfl, rfl, (handed_level c d side p).trans (if_neg (Ne.symm other))⟩

theorem handLevel_awaits (live : s.inReset .level = false) (other : d ≠ c) (side : Side) (p : Program) : s.Awaits (handLevel c side p s) d := by
  by_cases cuts : s.valves.level[c.val].cuts side .first p = true
  · rw [handLevel_cut live cuts]
    exact (handed_kept other side p s).awaits.trans (returnGrant_awaits live other) rfl
  · rw [handLevel_uncut live (by simpa using cuts)]
    exact (handed_kept other side p s).awaits

/-- The pair of a corner that is handed a program and does not wait. -/
theorem handLevel_pair (live : s.inReset .level = false) (out : (s.corner c).waiting = none) (side : Side) (p : Program) :
    (handLevel c side p s).valves.level[c.val] = (s.valves.level[c.val]).hand s.now side p ∧ ((handLevel c side p s).corner c).waiting = none := by
  have handed : ({ s with valves := s.handed c side p } : State).valves.level[c.val] = (s.valves.level[c.val]).hand s.now side p :=
    (handed_level c c side p).trans (if_pos rfl)
  by_cases cuts : s.valves.level[c.val].cuts side .first p = true
  · rw [handLevel_cut live cuts]
    obtain ⟨waiting, _, level⟩ :=
      (arbitrate_awaits (s := State.ungrant { s with valves := s.handed c side p } c) live c).kept out
    exact ⟨level.trans handed, waiting.trans out⟩
  · rw [handLevel_uncut live (by simpa using cuts)]
    exact ⟨handed, out⟩

theorem stopLevel_awaits (live : s.inReset .level = false) (other : d ≠ c) (side : Side) : s.Awaits (stopLevel c side s) d := by
  unfold stopLevel
  split
  · exact handLevel_awaits live other ..
  · exact .refl s d

/-- The pair with its member on a side IDLE. -/
def Pair.stopped (now : Nat) (side : Side) (x : Pair) : Pair := if (x.at side).holds then x.hand now side .idle else x

theorem Pair.stopped_prog (now : Nat) (side : Side) (x : Pair) : ((x.stopped now side).at side).prog = .idle := by
  unfold Pair.stopped
  split
  · exact Pair.hand_prog now side .idle x
  · next idle => simpa [Generator.holds] using idle

theorem Pair.stopped_other (now : Nat) (side : Side) (x : Pair) : (x.stopped now side).at side.other = x.at side.other := by
  unfold Pair.stopped
  split
  · exact Pair.hand_other now side .idle x
  · rfl

theorem stopLevel_pair (live : s.inReset .level = false) (out : (s.corner c).waiting = none) (side : Side) :
    (stopLevel c side s).valves.level[c.val] = (s.valves.level[c.val]).stopped s.now side ∧ ((stopLevel c side s).corner c).waiting = none := by
  unfold stopLevel Pair.stopped
  split
  · exact handLevel_pair live out side .idle
  · exact ⟨rfl, out⟩

/-- IDLE to the exhaust cuts no fill. -/
theorem stopExhaust_eq (live : s.inReset .level = false) (c : Corner) : stopLevel c .second s =
    { s with valves := { s.valves with level := upd s.valves.level c (Pair.stopped s.now .second) } } := by
  unfold stopLevel
  split
  · next holds =>
    rw [handLevel_uncut live rfl, State.handed, upd_congr (f := Pair.hand s.now .second .idle) (g := Pair.stopped s.now .second)]
    exact (if_pos holds).symm
  · next idle => rw [upd_fixed (f := Pair.stopped s.now .second) (if_neg idle)]

/-! ### Commands -/

theorem leaveWaiting_kept (other : d ≠ c) (s : State) : s.FillKept (leaveWaiting c s) d :=
  ⟨by rw [leaveWaiting, changeCorner_corner_ne _ _ (Ne.symm other)], rfl, rfl⟩

theorem leaveWaiting_out (c : Corner) (s : State) : ((leaveWaiting c s).corner c).waiting = none := by
  rw [leaveWaiting, changeCorner_corner_self]

theorem commandHold_awaits (live : s.inReset .level = false) (other : d ≠ c) : s.Awaits (commandHold c s) d := by
  have first := stopLevel_only c .first (leaveWaiting c s)
  exact ((leaveWaiting_kept other s).awaits.trans (stopLevel_awaits (s := leaveWaiting c s) live other .first) rfl).trans
    (stopLevel_awaits ((first.inReset .level).trans live) other .second) first.now

/-- R107: HOLD leaves both valves IDLE and the corner out of the waiting set. -/
theorem commandHold_left (live : s.inReset .level = false) (c : Corner) : ((commandHold c s).corner c).waiting = none ∧
    (commandHold c s).valves.level[c.val].first.prog = .idle ∧ (commandHold c s).valves.level[c.val].second.prog = .idle := by
  have first := stopLevel_only c .first (leaveWaiting c s)
  obtain ⟨fill, out⟩ := stopLevel_pair (s := leaveWaiting c s) live (leaveWaiting_out c s) .first
  obtain ⟨exhaust, out'⟩ := stopLevel_pair ((first.inReset .level).trans live) out .second
  have idle := Pair.stopped_prog (stopLevel c .first (leaveWaiting c s)).now .second (stopLevel c .first (leaveWaiting c s)).valves.level[c.val]
  have other := Pair.stopped_other (stopLevel c .first (leaveWaiting c s)).now .second (stopLevel c .first (leaveWaiting c s)).valves.level[c.val]
  refine ⟨out', ?_, ?_⟩
  · refine (congrArg (fun x : Pair => x.first.prog) exhaust).trans ((congrArg Generator.prog other).trans ?_)
    exact (congrArg (fun x : Pair => x.first.prog) fill).trans (Pair.stopped_prog s.now .first _)
  · exact (congrArg (fun x : Pair => x.second.prog) exhaust).trans idle

/-- R107: EXHAUST keeps a program that runs. -/
theorem commandExhaust_keeps (runs : (s.gen (.cornerExhaust c)).prog ≠ .idle) (p : Program) : commandExhaust false c p s = leaveWaiting c s := by
  have holds : (s.valves.level[c.val].second.holds && !false) = true := by
    have runs' : s.valves.level[c.val].second.prog ≠ .idle := runs
    simpa [Generator.holds] using runs'
  exact if_pos holds

/-- R107, R108: else it hands the exhaust a new one. -/
theorem commandExhaust_hands {afresh : Bool} (fresh : afresh = true ∨ (s.gen (.cornerExhaust c)).prog = .idle) (p : Program) :
    commandExhaust afresh c p s = handLevel c .second p (leaveWaiting c s) := by
  refine if_neg ?_
  rcases fresh with rfl | idle
  · rw [Bool.not_true, Bool.and_false]
    nofun
  · have empty : s.valves.level[c.val].second.holds = false := by
      have idle' : s.valves.level[c.val].second.prog = .idle := idle
      simp [Generator.holds, idle']
    have empty' : (leaveWaiting c s).valves.level[c.val].second.holds = false := empty
    rw [empty', Bool.false_and]
    nofun

theorem commandExhaust_awaits (live : s.inReset .level = false) (other : d ≠ c) (afresh : Bool) (p : Program) :
    s.Awaits (commandExhaust afresh c p s) d := by
  have left := (leaveWaiting_kept other s).awaits
  unfold commandExhaust
  dsimp only
  split
  · exact left
  · exact left.trans (handLevel_awaits (s := leaveWaiting c s) live other ..) rfl

theorem commandExhaust_out (live : s.inReset .level = false) (afresh : Bool) (c : Corner) (p : Program) :
    ((commandExhaust afresh c p s).corner c).waiting = none := by
  unfold commandExhaust
  dsimp only
  split
  · exact leaveWaiting_out c s
  · exact (handLevel_pair (s := leaveWaiting c s) live (leaveWaiting_out c s) .second p).2

/-- A new program of the exhaust forces the fill IDLE (R72). -/
theorem commandExhaust_left {afresh : Bool} (live : s.inReset .level = false) (opens : p.inRange ≠ .idle)
    (fresh : afresh = true ∨ (s.gen (.cornerExhaust c)).prog = .idle) :
    ((commandExhaust afresh c p s).gen (.cornerExhaust c)).prog = p.inRange ∧ ((commandExhaust afresh c p s).gen (.fill c)).prog = .idle := by
  rw [commandExhaust_hands fresh]
  obtain ⟨pair, _⟩ := handLevel_pair (s := leaveWaiting c s) live (leaveWaiting_out c s) .second p
  have partner := Pair.hand_other s.now .second p s.valves.level[c.val]
  rw [if_neg opens] at partner
  refine ⟨?_, ?_⟩
  · exact (congrArg (fun x : Pair => x.second.prog) pair).trans (Pair.hand_prog s.now .second p _)
  · exact (congrArg (fun x : Pair => x.first.prog) pair).trans (congrArg Generator.prog partner)

theorem joinWaiting_kept {w : WaitEntry} (other : d ≠ c) (s : State) : s.FillKept (joinWaiting c w s) d :=
  ⟨by rw [joinWaiting, changeCorner_corner_ne _ _ (Ne.symm other)], rfl, rfl⟩

theorem joinWaiting_waits (c : Corner) (w : WaitEntry) (s : State) : ((joinWaiting c w s).corner c).waiting = some w := by
  rw [joinWaiting, changeCorner_corner_self]

theorem fill_uncut (opens : p.inRange ≠ .idle) (x : Pair) : x.cuts .first .first p = false := by
  unfold Pair.cuts
  split
  · next idle => exact absurd idle opens
  · rfl

theorem commandFill_awaits (live : s.inReset .level = false) (other : d ≠ c) (afresh : Bool) (e : Int) (p : Program) :
    s.Awaits (commandFill afresh c e p s) d := by
  rw [commandFill_eq]
  split
  · split
    · exact handLevel_awaits live other ..
    · exact .refl s d
  · have stopped := stopLevel_only c .second s
    have live' : (joinWaiting c ⟨e, p⟩ (stopLevel c .second s)).inReset .level = false := (stopped.inReset .level).trans live
    exact (stopLevel_awaits live other .second).trans ((joinWaiting_kept other _).awaits.trans (arbitrate_awaits live' d) rfl) stopped.now

/-- R107, R108: a corner that holds a grant keeps its fill, or is handed a fresh one. -/
theorem commandFill_granted (live : s.inReset .level = false) (opens : p.inRange ≠ .idle) (granted : s.granted c = true) (afresh : Bool) (e : Int) :
    commandFill afresh c e p s = if afresh then { s with valves := s.handed c .first p } else s := by
  rw [commandFill_eq, if_pos granted, handLevel_uncut live (fill_uncut opens _)]

/-- R109, R110: one that holds none has its exhaust stopped and joins the waiting set. -/
theorem commandFill_ungranted (out : s.granted c = false) (afresh : Bool) (e : Int) (p : Program) :
    commandFill afresh c e p s = arbitrate (joinWaiting c ⟨e, p⟩ (stopLevel c .second s)) := by
  rw [commandFill_eq, if_neg (by rw [out]; nofun)]

/-- What FILL leaves of a corner that it is given for afresh, or that held no grant (R107 to R110). -/
theorem commandFill_left {e : Int} (live : s.inReset .level = false) (opens : p.inRange ≠ .idle) {afresh : Bool}
    (fresh : afresh = true ∨ s.granted c = false) :
    (commandFill afresh c e p s).valves.level[c.val].second.prog = .idle ∧
    (((commandFill afresh c e p s).granted c = true ∧ (commandFill afresh c e p s).valves.level[c.val].first.prog = p.inRange) ∨
      ((commandFill afresh c e p s).corner c).waiting = some ⟨e, p⟩) := by
  cases granted : s.granted c with
  | true =>
    obtain rfl : afresh = true := fresh.resolve_right (by rw [granted]; nofun)
    have level : (s.handed c .first p).level[c.val] = _ := (handed_level c c .first p).trans (if_pos rfl)
    have partner := Pair.hand_other s.now .first p s.valves.level[c.val]
    rw [if_neg opens] at partner
    rw [commandFill_granted live opens granted, if_pos rfl]
    refine ⟨(congrArg (fun x : Pair => x.second.prog) level).trans (congrArg Generator.prog partner), .inl ⟨granted, ?_⟩⟩
    exact (congrArg (fun x : Pair => x.first.prog) level).trans (Pair.hand_prog s.now .first p _)
  | false =>
    have stopped := stopLevel_only c .second s
    have live' : (joinWaiting c ⟨e, p⟩ (stopLevel c .second s)).inReset .level = false := (stopped.inReset .level).trans live
    have waits := joinWaiting_waits c ⟨e, p⟩ (stopLevel c .second s)
    have idle : (joinWaiting c ⟨e, p⟩ (stopLevel c .second s)).valves.level[c.val].second.prog = .idle := by
      have pair : (joinWaiting c ⟨e, p⟩ (stopLevel c .second s)).valves.level[c.val] = (s.valves.level[c.val]).stopped s.now .second := by
        rw [stopExhaust_eq live]
        exact upd_get_self ..
      exact (congrArg (fun x : Pair => x.second.prog) pair).trans (Pair.stopped_prog s.now .second _)
    rw [commandFill_ungranted granted]
    rcases (arbitrate_awaits live' c).waited waits opens with ⟨given, _, fill, exhaust⟩ | ⟨waiting, _, level⟩
    · exact ⟨exhaust, .inl ⟨given, fill⟩⟩
    · exact ⟨(congrArg (fun x : Pair => x.second.prog) level).trans idle, .inr (waiting.trans waits)⟩

/-! ### Judging (R104 to R108) -/

theorem bandNow_eq (s : State) : bandNow s = (s.bandIn s.lc.context : Nat) := by
  unfold bandNow State.bandIn
  cases s.lc.context with
  | stationary => rfl
  | slow => rfl
  | fast => rfl

theorem errorAt_eq (s : State) (c : Corner) (h : Nat) : s.errorAt c h = s.targetFor c (s.corner c).phase - (h : Int) := by
  unfold State.errorAt targetOf State.targetFor
  split
  · rfl
  · cases (s.corner c).phase with
    | halted => rfl
    | level | lowering | kneeled | rising => rfl

theorem outcomeAt_eq (s : State) (c : Corner) (h : Nat) : s.outcomeAt c h = judged (s.errorAt c h) (s.bandIn s.lc.context) := by
  rw [State.outcomeAt, bandNow_eq]
  rfl

theorem longest_eq (x : Source) : x.longest = if x = .timer50 then 40 else 800 := by
  cases x with
  | timer50 | timer1000 | axleRev16 | none => rfl

/-- R106: the program of a needed time. -/
theorem programFor_eq (r : CornerRecord) (e : Int) {o : LevelOutcome} (moves : o ≠ .hold) :
    (programFor r e o).inRange = pulse r.phase r.source (neededTime e o) := by
  unfold programFor pulse
  cases o with
  | hold => exact absurd rfl moves
  | fill | exhaust =>
    cases r.phase with
    | lowering | rising => rfl
    | level | kneeled | halted =>
      rw [← longest_eq]
      rfl

theorem pulse_opens {phase : KneelPhase} {source : Source} {need : Nat} (some' : 0 < need) : pulse phase source need ≠ .idle := by
  unfold pulse
  split
  · simp [Program.inRange]
    omega
  · have low : min need (if source = .timer50 then 40 else 800) ≠ 0 := by
      split
      · omega
      · omega
    simp [Program.inRange, low]

theorem programAt_eq {h : Nat} (moves : s.outcomeAt c h ≠ .hold) :
    (s.programAt c h).inRange = pulse (s.corner c).phase (s.corner c).source (neededTime (s.errorAt c h) (s.outcomeAt c h)) :=
  programFor_eq _ _ moves

/-- An outcome other than HOLD is of an error that is not 0. -/
theorem errorAt_ne_zero {h : Nat} (moves : s.outcomeAt c h ≠ .hold) : 0 < (s.errorAt c h).natAbs := by
  rw [outcomeAt_eq] at moves
  refine Int.natAbs_pos.mpr fun zero => moves ?_
  rw [zero]
  unfold judged
  rw [if_neg (by omega), if_neg (by omega)]

theorem programAt_opens {h : Nat} (moves : s.outcomeAt c h ≠ .hold) : (s.programAt c h).inRange ≠ .idle := by
  have error := errorAt_ne_zero moves
  rw [programAt_eq moves]
  refine pulse_opens ?_
  cases outcome : s.outcomeAt c h with
  | hold => exact absurd outcome moves
  | fill | exhaust =>
    dsimp only [neededTime]
    omega

theorem keepOutcome_kept (c d : Corner) (o : LevelOutcome) (s : State) : s.FillKept (keepOutcome c o s) d := by
  refine ⟨?_, rfl, rfl⟩
  by_cases here : c = d
  · subst here
    rw [keepOutcome, changeCorner_corner_self]
  · rw [keepOutcome, changeCorner_corner_ne _ _ here]

theorem keepOutcome_outcome (c : Corner) (o : LevelOutcome) (s : State) : ((keepOutcome c o s).corner c).outcome = some o := by
  rw [keepOutcome, changeCorner_corner_self]

theorem judge_awaits (live : s.inReset .level = false) (other : d ≠ c) (afresh : Bool) (h : Nat) : s.Awaits (judge afresh c h s) d := by
  have kept := (keepOutcome_kept c d (s.outcomeAt c h) s).awaits
  cases outcome : s.outcomeAt c h with
  | hold =>
    rw [outcome] at kept
    rw [judge_hold outcome]
    exact kept.trans (commandHold_awaits (s := keepOutcome c .hold s) live other) rfl
  | exhaust =>
    rw [outcome] at kept
    rw [judge_exhaust outcome]
    exact kept.trans (commandExhaust_awaits (s := keepOutcome c .exhaust s) live other ..) rfl
  | fill =>
    rw [outcome] at kept
    rw [judge_fill outcome]
    exact kept.trans (commandFill_awaits (s := keepOutcome c .fill s) live other ..) rfl

/-- The outcome is kept by the commands that it brings. -/
theorem judge_outcome (afresh : Bool) (c : Corner) (h : Nat) (s : State) : ((judge afresh c h s).corner c).outcome = some (s.outcomeAt c h) := by
  have kept := keepOutcome_outcome c (s.outcomeAt c h) s
  cases outcome : s.outcomeAt c h with
  | hold =>
    rw [outcome] at kept
    rw [judge_hold outcome, (commandHold_commands (fun _ => False) ..).other c id, kept]
  | exhaust =>
    rw [outcome] at kept
    rw [judge_exhaust outcome, (commandExhaust_commands (fun _ => False) ..).other c id, kept]
  | fill =>
    rw [outcome] at kept
    rw [judge_fill outcome, (commandFill_commands (fun _ => False) ..).other c id, kept]

/-- R108: a command formed afresh puts the valves to work on the outcome at once. -/
theorem judge_commanded (live : s.inReset .level = false) (c : Corner) (h : Nat) :
    (judge true c h s).Commanded c (s.errorAt c h) (s.bandIn s.lc.context) := by
  have record := (judge_commands true c h s).corner c
  unfold State.Commanded
  rw [← outcomeAt_eq]
  refine ⟨judge_outcome .., fun hold => ?_, fun exhaust => ?_, fun fill => ?_⟩
  · rw [judge_hold hold]
    obtain ⟨out, fill, exhaust⟩ := commandHold_left (s := keepOutcome c .hold s) live c
    exact ⟨out, fill, exhaust⟩
  · have moves : s.outcomeAt c h ≠ .hold := by rw [exhaust]; nofun
    have program := programAt_eq moves
    rw [record]
    dsimp only
    rw [judge_exhaust exhaust]
    obtain ⟨exhausts, fills⟩ := commandExhaust_left (s := keepOutcome c .exhaust s) (c := c) (afresh := true) live (programAt_opens moves) (.inl rfl)
    refine ⟨commandExhaust_out (s := keepOutcome c .exhaust s) live .., fills, exhausts.trans (program.trans ?_)⟩
    rw [exhaust, neededTime, Nat.mul_comm]
  · have moves : s.outcomeAt c h ≠ .hold := by rw [fill]; nofun
    have program := programAt_eq moves
    rw [record]
    dsimp only
    rw [judge_fill fill]
    rw [fill, neededTime, Nat.mul_comm] at program
    obtain ⟨idle, given⟩ := commandFill_left (s := keepOutcome c .fill s) (c := c) (e := s.errorAt c h) (afresh := true) live (programAt_opens moves) (.inl rfl)
    refine ⟨idle, given.imp (fun given => ⟨given.1, given.2.trans program⟩) fun waits => ⟨_, waits, rfl, program⟩⟩

/-! ### Commands formed at once (R108) -/

theorem commandFromLast_acts {h : Nat} (acts : s.ActsAtOnce c h) : commandFromLast c s = judge true c h s := by
  obtain ⟨slow, check, last, source⟩ := acts
  unfold commandFromLast
  dsimp only
  rw [last]
  exact if_pos (by simp [slow, check, source])

theorem commandFromLast_awaits (live : s.inReset .level = false) (other : d ≠ c) : s.Awaits (commandFromLast c s) d := by
  unfold commandFromLast
  dsimp only
  split
  · split
    · exact judge_awaits live other ..
    · exact .refl s d
  · exact .refl s d

/-- The corner does not wait while it holds a grant (R110). -/
def State.Apart (s : State) (c : Corner) : Prop := s.granted c = true → (s.corner c).waiting = none

theorem State.Apart.stands (apart : s.Apart c) (awaits : s.Awaits t c) : t.Apart c := by
  rcases awaits with ⟨waiting, granted, _⟩ | ⟨w, _, _, out, _⟩
  · unfold State.Apart
    rw [waiting, granted]
    exact apart
  · exact fun _ => out

theorem FillRules.apart (rules : FillRules s) (c : Corner) : s.Apart c := by
  intro granted
  cases waits : (s.corner c).waiting with
  | none => rfl
  | some w => cases (rules.waiting c w waits).1.symm.trans granted

/-- What a corner is commanded stands while only other corners are commanded, but that it may be given the grant that it waits for. -/
theorem State.Commanded.stands {err : Int} {db : Nat} (h : s.Commanded c err db) (apart : s.Apart c) (awaits : s.Awaits t c)
    (outcome : (t.corner c).outcome = (s.corner c).outcome) (phase : (t.corner c).phase = (s.corner c).phase)
    (source : (t.corner c).source = (s.corner c).source) : t.Commanded c err db := by
  obtain ⟨judges, holds, exhausts, fills⟩ := h
  unfold State.Commanded
  rw [outcome, phase, source]
  rcases awaits with ⟨waiting, granted, level⟩ | ⟨w, waits, given, out, level⟩
  · have fill : (t.gen (.fill c)).prog = (s.gen (.fill c)).prog := congrArg (fun x : Pair => x.first.prog) level
    have exhaust : (t.gen (.cornerExhaust c)).prog = (s.gen (.cornerExhaust c)).prog := congrArg (fun x : Pair => x.second.prog) level
    rw [waiting, granted, fill, exhaust]
    exact ⟨judges, holds, exhausts, fills⟩
  · refine ⟨judges, fun hold => ?_, fun exhaust => ?_, fun fill => ?_⟩
    · cases waits.symm.trans (holds hold).1
    · cases waits.symm.trans (exhausts exhaust).1
    · obtain ⟨idle, work⟩ := fills fill
      have partner := Pair.hand_other s.now .first w.prog s.valves.level[c.val]
      have idle' : (t.gen (.cornerExhaust c)).prog = .idle := by
        refine (congrArg (fun x : Pair => x.second.prog) level).trans ((congrArg Generator.prog partner).trans ?_)
        split
        · exact idle
        · rfl
      have program : (t.gen (.fill c)).prog = w.prog.inRange :=
        (congrArg (fun x : Pair => x.first.prog) level).trans (Pair.hand_prog s.now .first w.prog _)
      refine ⟨idle', .inl ⟨given, program.trans ?_⟩⟩
      rcases work with ⟨granted, _⟩ | ⟨v, waits', _, same⟩
      · cases waits.symm.trans (apart granted)
      · cases waits.symm.trans waits'
        exact same

theorem judge_apart (live : s.inReset .level = false) (apart : s.Apart c) (afresh : Bool) (h : Nat) : (judge afresh c h s).Apart c := by
  have kept : (keepOutcome c (s.outcomeAt c h) s).Apart c := apart.stands (keepOutcome_kept c c _ s).awaits
  cases outcome : s.outcomeAt c h with
  | hold =>
    rw [judge_hold outcome]
    exact fun _ => (commandHold_left (s := keepOutcome c .hold s) live c).1
  | exhaust =>
    rw [judge_exhaust outcome]
    exact fun _ => commandExhaust_out (s := keepOutcome c .exhaust s) live ..
  | fill =>
    have opens := programAt_opens (s := s) (c := c) (h := h) (by rw [outcome]; nofun)
    rw [judge_fill outcome]
    rw [outcome] at kept
    cases granted : (keepOutcome c .fill s).granted c with
    | true =>
      rw [commandFill_granted (s := keepOutcome c .fill s) live opens granted]
      split
      · exact kept
      · exact kept
    | false =>
      have live' : (joinWaiting c ⟨s.errorAt c h, s.programAt c h⟩ (stopLevel c .second (keepOutcome c .fill s))).inReset .level = false :=
        ((stopLevel_only c .second (keepOutcome c .fill s)).inReset .level).trans live
      rw [commandFill_ungranted granted]
      refine State.Apart.stands (fun held => ?_) (arbitrate_awaits live' c)
      have lc := congrArg LevellingController.grants (stopExhaust_lc c (keepOutcome c .fill s))
      have same : (joinWaiting c ⟨s.errorAt c h, s.programAt c h⟩ (stopLevel c .second (keepOutcome c .fill s))).granted c =
          (keepOutcome c .fill s).granted c := granted_eq_of lc c
      cases granted.symm.trans (same.symm.trans held)

/-! ### HALT_KNEEL and RESUME_KNEEL (R114, R115) -/

/-- A LOWERING corner halted (R114). -/
def CornerRecord.halted (ride : Nat) (r : CornerRecord) : CornerRecord :=
  if r.phase = .lowering then { r with phase := .halted, haltHeight := haltHeightOf ride r } else r

/-- The pair of a corner that is halted when it was LOWERING. -/
def haltedPair (now : Nat) (phase : KneelPhase) (x : Pair) : Pair := if phase = .lowering then x.hand now .second .idle else x

/-- Where each step works on its own index, from what it finds there to what it leaves there. -/
theorem forAll_own {σ : Type} {n : Nat} {I : σ → Prop} {Pre Post : Fin n → σ → Prop} {f : Fin n → σ → σ} (keeps : ∀ i x, I x → I (f i x))
    (before : ∀ i j x, I x → i ≠ j → Pre j x → Pre j (f i x)) (after : ∀ i j x, I x → i ≠ j → Post j x → Post j (f i x))
    (step : ∀ i x, I x → Pre i x → Post i (f i x)) {x : σ} (hI : I x) (h : ∀ i, Pre i x) :
    I (forAll n f x) ∧ ∀ i, Post i (forAll n f x) := by
  have fold (xs : List (Fin n)) : xs.Nodup → ∀ x, I x → (∀ i, (i ∈ xs → Pre i x) ∧ (i ∉ xs → Post i x)) →
      I (xs.foldl (fun x i => f i x) x) ∧ ∀ i, Post i (xs.foldl (fun x i => f i x) x) := by
    induction xs with
    | nil => exact fun _ x hI h => ⟨hI, fun i => (h i).2 List.not_mem_nil⟩
    | cons k xs ih =>
      intro distinct x hI h
      obtain ⟨fresh, distinct⟩ := List.nodup_cons.mp distinct
      refine ih distinct (f k x) (keeps k x hI) fun i => ⟨fun later => ?_, fun out => ?_⟩
      · exact before k i x hI (fun same => fresh (same ▸ later)) ((h i).1 (List.mem_cons_of_mem k later))
      · by_cases here : k = i
        · exact here ▸ step k x hI ((h k).1 List.mem_cons_self)
        · exact after k i x hI here ((h i).2 (List.not_mem_cons_of_ne_of_not_mem (Ne.symm here) out))
  exact fold (List.finRange n) (List.nodup_finRange n) x hI fun i => ⟨fun _ => h i, fun out => absurd (List.mem_finRange i) out⟩

/-- Only the controller and the corners' valves differ. -/
theorem LevelOnly.replace (h : LevelOnly s t) : t = { s with lc := t.lc, valves := { s.valves with level := t.valves.level } } := by
  have valves : t.valves = ⟨s.valves.brake, t.valves.level, s.valves.steer, s.valves.damping⟩ := by
    rw [← h.brake, ← h.steer, ← h.damping]
  show t = { s with lc := t.lc, valves := ⟨s.valves.brake, t.valves.level, s.valves.steer, s.valves.damping⟩ }
  rw [← valves, ← h.pending, ← h.now, ← h.resetHeld, ← h.rt, ← h.eu, ← h.sp, ← h.mc, ← h.bc, ← h.js, ← h.dl, ← h.dt, ← h.hl, ← h.degraded]

theorem haltCorner_eq (live : s.inReset .level = false) (c : Corner) : haltCorner c s =
    if (s.corner c).phase = .lowering then
      { s with
        lc := { s.lc with corners := upd s.lc.corners c (CornerRecord.halted s.hl.params.ride) }
        valves := s.handed c .second .idle }
    else s := by
  unfold haltCorner
  split
  · next lowering =>
    have record : (fun r : CornerRecord => { r with phase := .halted, haltHeight := haltHeightOf s.hl.params.ride r }) (s.corner c) =
        CornerRecord.halted s.hl.params.ride (s.corner c) := (if_pos lowering).symm
    rw [handLevel_uncut (s := changeCorner c _ s) live rfl, changeCorner, upd_congr record]
    rfl
  · rfl

/-- Only the corners' records and valves differ. -/
structure CornersOnly (s t : State) : Prop extends LevelOnly s t where
  lc : t.lc = { s.lc with corners := t.lc.corners }

theorem haltCorner_corners (live : s.inReset .level = false) (c : Corner) : CornersOnly s (haltCorner c s) := by
  refine ⟨haltCorner_only c s, ?_⟩
  rw [haltCorner_eq live]
  split
  · rfl
  · rfl

theorem haltCorner_at (live : s.inReset .level = false) (c d : Corner) :
    (haltCorner c s).corner d = (if c = d then (s.corner c).halted s.hl.params.ride else s.corner d) ∧
    (haltCorner c s).valves.level[d.val] =
      if c = d then haltedPair s.now (s.corner c).phase s.valves.level[c.val] else s.valves.level[d.val] := by
  rw [haltCorner_eq live]
  split
  · next lowering =>
    have pair : haltedPair s.now (s.corner c).phase s.valves.level[c.val] = (s.valves.level[c.val]).hand s.now .second .idle := if_pos lowering
    rw [pair]
    exact ⟨upd_get .., handed_level ..⟩
  · next other =>
    have record : (s.corner c).halted s.hl.params.ride = s.corner c := if_neg other
    have pair : haltedPair s.now (s.corner c).phase s.valves.level[c.val] = s.valves.level[c.val] := if_neg other
    rw [record, pair]
    refine ⟨?_, ?_⟩
    all_goals
      split
      · next here =>
        subst here
        rfl
      · rfl

/-- R114: what a halt leaves of each corner and its pair. -/
theorem haltCorners_left (live : s.inReset .level = false) : CornersOnly s (forAll 6 haltCorner s) ∧
    ∀ c : Corner, (forAll 6 haltCorner s).corner c = (s.corner c).halted s.hl.params.ride ∧
      (forAll 6 haltCorner s).valves.level[c.val] = haltedPair s.now (s.corner c).phase s.valves.level[c.val] := by
  have alive {x : State} (hx : CornersOnly s x) : x.inReset .level = false := (hx.toLevelOnly.inReset .level).trans live
  refine forAll_own (n := 6) (f := haltCorner) (I := CornersOnly s)
    (Pre := fun c x => x.corner c = s.corner c ∧ x.valves.level[c.val] = s.valves.level[c.val])
    (Post := fun c x => x.corner c = (s.corner c).halted s.hl.params.ride ∧
      x.valves.level[c.val] = haltedPair s.now (s.corner c).phase s.valves.level[c.val])
    (fun c x hx => ?_) (fun c d x hx other h => ?_) (fun c d x hx other h => ?_) (fun c x hx h => ?_) ⟨.refl s, rfl⟩ fun c => ⟨rfl, rfl⟩
  · have step := haltCorner_corners (alive hx) c
    exact ⟨hx.toLevelOnly.trans step.toLevelOnly, by rw [step.lc, hx.lc]⟩
  · obtain ⟨record, pair⟩ := haltCorner_at (alive hx) c d
    exact ⟨record.trans ((if_neg other).trans h.1), pair.trans ((if_neg other).trans h.2)⟩
  · obtain ⟨record, pair⟩ := haltCorner_at (alive hx) c d
    exact ⟨record.trans ((if_neg other).trans h.1), pair.trans ((if_neg other).trans h.2)⟩
  · obtain ⟨record, pair⟩ := haltCorner_at (alive hx) c c
    rw [if_pos rfl, h.1] at record
    rw [if_pos rfl, h.1, h.2] at pair
    exact ⟨by rw [record, hx.hl], by rw [pair, hx.now]⟩

/-! ### Commands formed one after another -/

theorem Commands.errorAt {P : Corner → Prop} (h : Commands P s t) (only : LevelOnly s t) (c : Corner) (height : Nat) :
    t.errorAt c height = s.errorAt c height := by
  unfold State.errorAt targetOf
  rw [only.mc, only.hl, h.corner c]

theorem Commands.bandIn {P : Corner → Prop} (h : Commands P s t) (only : LevelOnly s t) : t.bandIn t.lc.context = s.bandIn s.lc.context := by
  unfold State.bandIn
  rw [only.hl, h.lc]

theorem Commands.actsAtOnce {P : Corner → Prop} {height : Nat} (h : Commands P s t) (only : LevelOnly s t) (acts : s.ActsAtOnce c height) :
    t.ActsAtOnce c height := by
  unfold State.ActsAtOnce
  rw [only.mc, h.corner c]
  exact acts

theorem foldl_commandFromLast_awaits {xs : List Corner} (out : c ∉ xs) {s : State} (live : s.inReset .level = false) :
    s.Awaits (xs.foldl (fun s c => commandFromLast c s) s) c := by
  induction xs generalizing s with
  | nil => exact .refl s c
  | cons d xs ih =>
    have only := commandFromLast_only d s
    have other : c ≠ d := fun same => out (same ▸ List.mem_cons_self)
    exact (commandFromLast_awaits live other).trans (ih (fun later => out (List.mem_cons_of_mem d later)) ((only.inReset .level).trans live)) only.now

/-- R108, R115: each corner of the list forms its command, which the commands of the others leave. -/
theorem foldl_commanded {h : Nat} {xs : List Corner} (distinct : xs.Nodup) (member : c ∈ xs) {s : State} (live : s.inReset .level = false)
    (apart : s.Apart c) (acts : s.ActsAtOnce c h) :
    (xs.foldl (fun s c => commandFromLast c s) s).Commanded c (s.errorAt c h) (s.bandIn s.lc.context) := by
  induction xs generalizing s with
  | nil => cases member
  | cons d xs ih =>
    obtain ⟨fresh, distinct⟩ := List.nodup_cons.mp distinct
    have only := commandFromLast_only d s
    have commands := commandFromLast_commands d s
    have live' := (only.inReset .level).trans live
    by_cases here : c = d
    · subst here
      have formed : (commandFromLast c s).Commanded c (s.errorAt c h) (s.bandIn s.lc.context) := by
        rw [commandFromLast_acts acts]
        exact judge_commanded live c h
      have apart' : (commandFromLast c s).Apart c := by
        rw [commandFromLast_acts acts]
        exact judge_apart live apart true h
      have rest := foldl_commandFromLast xs (commandFromLast c s)
      exact formed.stands apart' (foldl_commandFromLast_awaits fresh live') (rest.other c fresh) (by rw [List.foldl_cons, rest.corner c])
        (by rw [List.foldl_cons, rest.corner c])
    · have awaits := commandFromLast_awaits (c := d) live here
      have later := ih distinct ((List.mem_cons.mp member).resolve_left here) live' (apart.stands awaits) (commands.actsAtOnce only acts)
      rw [commands.errorAt only, commands.bandIn only] at later
      exact later

theorem anyLowering_false (none' : ∀ c, (s.corner c).phase ≠ .lowering) : s.lc.corners.toList.any (·.phase == .lowering) = false := by
  rw [List.any_eq_false]
  intro r member
  obtain ⟨k, small, rfl⟩ := Vector.mem_iff_getElem.mp (Vector.mem_toList_iff.mp member)
  have other : s.lc.corners[k].phase ≠ .lowering := none' ⟨k, small⟩
  simpa using other

theorem anyLowering_true (lowering : (s.corner c).phase = .lowering) : s.lc.corners.toList.any (·.phase == .lowering) = true :=
  List.any_eq_true.mpr ⟨s.corner c, Vector.mem_toList_iff.mpr (Vector.getElem_mem c.isLt), by simpa using lowering⟩

theorem anyHalted_iff : s.anyHalted = true ↔ ∃ c, (s.corner c).phase = .halted := by
  unfold State.anyHalted
  rw [List.any_eq_true]
  constructor
  · rintro ⟨r, member, halted⟩
    obtain ⟨k, small, rfl⟩ := Vector.mem_iff_getElem.mp (Vector.mem_toList_iff.mp member)
    have halted' : s.lc.corners[k].phase = .halted := by simpa using halted
    exact ⟨⟨k, small⟩, halted'⟩
  · rintro ⟨c, halted⟩
    exact ⟨s.corner c, Vector.mem_toList_iff.mpr (Vector.getElem_mem c.isLt), by simpa using halted⟩

theorem haltKneel_stray (stray : s.inReset .level = true ∨ ∀ c, (s.corner c).phase ≠ .lowering) : haltKneel s = countStray s := by
  refine if_pos ?_
  rcases stray with reset | none'
  · rw [reset]
    rfl
  · rw [anyLowering_false none']
    simp

theorem haltKneel_halts (live : s.inReset .level = false) (lowering : (s.corner c).phase = .lowering) :
    haltKneel s = { forAll 6 haltCorner s with
      lc := { (forAll 6 haltCorner s).lc with haltAt := some ((forAll 6 haltCorner s).now + haltPeriod), resumePending := false } } := by
  refine if_neg ?_
  rw [live, anyLowering_true lowering]
  simp

theorem resumeKneel_stray (stray : s.inReset .level = true ∨ ∀ c, (s.corner c).phase ≠ .halted) : resumeKneel s = countStray s := by
  refine if_pos ?_
  rcases stray with reset | none'
  · rw [reset]
    rfl
  · have quiet : s.anyHalted = false := by
      rw [← Bool.not_eq_true, anyHalted_iff]
      exact fun ⟨c, halted⟩ => none' c halted
    rw [quiet]
    simp

theorem resumeKneel_acts (live : s.inReset .level = false) (halted : (s.corner c).phase = .halted) :
    resumeKneel s = if s.lc.haltAt.isSome then { s with lc := { s.lc with resumePending := true } } else resumeNow s := by
  refine if_neg ?_
  rw [live, anyHalted_iff.mpr ⟨c, halted⟩]
  simp

/-- R115: what a resume that acts leaves of a corner. -/
theorem resumeNow_left (live : s.inReset .level = false) (c : Corner) :
    ((resumeNow s).corner c).last = (s.corner c).last ∧ ((resumeNow s).corner c).sum = (s.corner c).sum ∧
    ((resumeNow s).corner c).count = (s.corner c).count ∧ ((resumeNow s).corner c).offset = (s.corner c).offset ∧
    ((s.corner c).phase ≠ .halted → ((resumeNow s).corner c).outcome = (s.corner c).outcome) ∧
    ∀ h, (s.corner c).phase = .halted → s.resetHeld = false → s.FillLaw → s.ActsAtOnce c h →
      (resumeNow s).Commanded c (s.targetFor c .lowering - (h : Int)) (s.bandIn s.lc.context) := by
  have commands := resumeNow_commands s
  have record := commands.corner c
  have resumed (x : CornerRecord) : x.resumed = { x with phase := x.resumed.phase } := by
    unfold CornerRecord.resumed
    split
    · rfl
    · rfl
  rw [resumed_corner, resumed] at record
  refine ⟨by rw [record], by rw [record], by rw [record], by rw [record], fun out => ?_, fun h halted held law acts => ?_⟩
  · rw [commands.other c out, resumed_corner]
    exact congrArg CornerRecord.outcome (if_neg out)
  · have lowered : s.resumed.corner c = { s.corner c with phase := .lowering } := (resumed_corner c s).trans (if_pos halted)
    have apart : s.resumed.Apart c := by
      unfold State.Apart
      rw [lowered]
      exact (fillLaw_iff.mp law held).apart c
    have acts' : s.resumed.ActsAtOnce c h := by
      unfold State.ActsAtOnce
      rw [lowered]
      exact acts
    have commanded := foldl_commanded (List.Nodup.filter _ (List.nodup_finRange 6)) (mem_haltedCorners.mpr halted) (s := s.resumed) live apart acts'
    have error : s.resumed.errorAt c h = s.targetFor c .lowering - (h : Int) := by
      rw [errorAt_eq]
      unfold State.targetFor
      rw [lowered]
      rfl
    rw [error] at commanded
    rw [resumeNow_eq]
    exact commanded

/-- Settles O42. -/
theorem kneelHalts : Obligations.KneelHalts := by
  intro s d
  refine ⟨?_, ?_, ?_⟩
  · rintro a (rfl | rfl)
    all_goals rfl
  · rintro t rfl
    refine ⟨haltKneel_stray, fun live ⟨k, lowering⟩ => ?_⟩
    have acts : act d true .haltKneel s = _ := haltKneel_halts live lowering
    obtain ⟨only, corners⟩ := haltCorners_left live
    rw [acts]
    generalize forAll 6 haltCorner s = u at only corners
    have frame := only.toLevelOnly.replace
    refine ⟨?_, fun c => ⟨fun other => ?_, fun lowering => ?_⟩⟩
    · rw [frame, only.lc]
      rfl
    · obtain ⟨record, pair⟩ := corners c
      exact ⟨record.trans (if_neg other), pair.trans (if_neg other)⟩
    · obtain ⟨record, pair⟩ := corners c
      have handed := pair.trans ((if_pos lowering).trans (Pair.hand_idle (side := .second) (p := .idle) rfl))
      refine ⟨record.trans ((if_pos lowering).trans ?_), congrArg (fun x : Pair => x.second.prog) handed,
        congrArg (fun x : Pair => x.second.isOpen) handed, (congrArg Pair.first handed :)⟩
      rfl
  · rintro t rfl
    refine ⟨resumeKneel_stray, fun live ⟨k, halted⟩ => ?_⟩
    have acts : act d true .resumeKneel s = _ := resumeKneel_acts live halted
    rw [acts]
    refine ⟨fun runs => if_pos runs, fun stopped => ?_⟩
    rw [stopped, if_neg (by nofun)]
    have frame := (resumeNow_only s).replace
    have lc := (resumeNow_commands s).lc
    refine ⟨frame, by rw [lc]; rfl, by rw [lc]; exact stopped, by rw [lc]; rfl, by rw [lc]; rfl, fun c => ⟨resumeNow_phase c s, resumeNow_left live c⟩⟩

end Sys2Proof.Machine
end

section
/-! PROOFS. Control events of a corner (R103 to R107, R113), the corner timers (O39) and the phases of a KNEEL (O41). -/

namespace Sys2Proof.Machine

variable {s t u : State} {c d : Corner}

/-! ### A control event -/

/-- The part at the expiry of a corner's timer source, the timer started again (R101). -/
def State.restarted (s : State) (c : Corner) (e : Nat) : State :=
  changeCorner c (fun r => { r with sourceAt := r.source.period.map (max s.now e + ·) }) (atLeast e s)

theorem exec_cornerTimerExpiry {e : Nat} (live : s.resetHeld = false) (runs : (s.corner c).sourceAt = some e) :
    exec (.cornerTimerExpiry c) s = .next (controlEvent c (s.restarted c e)) := by
  refine (running_next (f := sourceExpiry c) live).trans (congrArg Host.Outcome.next ?_)
  unfold sourceExpiry
  rw [runs]
  rfl

theorem restarted_kept (s : State) (c k : Corner) (e : Nat) : s.FillKept (s.restarted c e) k := by
  refine ⟨?_, rfl, rfl⟩
  by_cases here : c = k
  · subst here
    exact (congrArg CornerRecord.waiting (changeCorner_corner_self (atLeast e s) c _) :)
  · exact (congrArg CornerRecord.waiting (changeCorner_corner_ne (s := atLeast e s) _ here) :)

/-- The part with a corner's samples averaged: its last height is `h` and its accumulator is empty (R103). -/
def State.averaged (s : State) (c : Corner) (h : Nat) : State := changeCorner c (fun r => { r with last := some h, sum := 0, count := 0 }) s

/-- A forming of the context leaves of a corner's record all but its source. -/
theorem formContext_corner (c : Corner) (s : State) : (formContext s).corner c = { s.corner c with
    source := ((formContext s).corner c).source, sourceAt := ((formContext s).corner c).sourceAt, revs := ((formContext s).corner c).revs } := by
  cases reset : s.inReset .level with
  | true => rw [formContext_reset reset]
  | false =>
    rw [(formContext_live reset).2 c]
    split
    · rfl
    · rfl

/-- What a control event of a NORMAL corner with samples comes to (R103). -/
theorem controlEvent_works (normal : (s.corner c).check = .normal) (samples : 0 < (s.corner c).count) {h : Nat}
    (hh : h = (s.corner c).sum / (s.corner c).count) :
    controlEvent c s = judge false c h (bandTransition c h ((formContext s).averaged c h)) := by
  have formed := formContext_corner c s
  have check : ((formContext s).corner c).check = .normal := by rw [formed, normal]
  have count : ((formContext s).corner c).count = (s.corner c).count := by rw [formed]
  have sum : ((formContext s).corner c).sum = (s.corner c).sum := by rw [formed]
  unfold controlEvent
  rw [if_pos check]
  unfold workCorner
  dsimp only
  rw [count, sum, if_neg (by omega), ← hh]
  rfl

theorem controlEvent_rests (rests : (s.corner c).check ≠ .normal ∨ (s.corner c).count = 0) : controlEvent c s = formContext s := by
  have formed := formContext_corner c s
  unfold controlEvent
  dsimp only
  split
  · next normal =>
    unfold workCorner
    dsimp only
    refine if_pos ?_
    rw [formed] at normal ⊢
    exact rests.resolve_left (not_not_intro normal)
  · rfl

/-! ### The transitions that the band decides (R113) -/

/-- A corner's phase changes. -/
def State.toPhase (s : State) (c : Corner) (p : KneelPhase) : State := changeCorner c (fun r => { r with phase := p }) s

theorem toPhase_corner (s : State) (c d : Corner) (p : KneelPhase) :
    (s.toPhase c p).corner d = if c = d then { s.corner c with phase := p } else s.corner d := upd_get ..

theorem bandTransition_still {h : Nat} (still : (s.corner c).phase = .level ∨ (s.corner c).phase = .kneeled ∨ (s.corner c).phase = .halted) :
    bandTransition c h s = s := by
  unfold bandTransition
  rcases still with phase | phase | phase
  all_goals
    dsimp only
    rw [phase]

/-- A LOWERING corner within the band about its kneel depth is KNEELED (R113). -/
theorem bandTransition_lowering {h : Nat} (lowering : (s.corner c).phase = .lowering) :
    bandTransition c h s = if withinBand (bandNow s) ((s.hl.params.ride : Int) + (s.corner c).offset) h then
      setFlagIf (allKneeled (s.toPhase c .kneeled)) .kneel (s.toPhase c .kneeled) else s := by
  unfold bandTransition
  dsimp only
  rw [lowering]
  rfl

/-- A RISING corner within the band about the ride height is LEVEL (R113). -/
theorem bandTransition_rising {h : Nat} (rising : (s.corner c).phase = .rising) :
    bandTransition c h s = if withinBand (bandNow s) (s.hl.params.ride : Int) h then lookRisen (s.toPhase c .level) else s := by
  unfold bandTransition
  dsimp only
  rw [rising]
  rfl

theorem bandTransition_stands (c : Corner) (h : Nat) (s : State) : CornersStand s (bandTransition c h s) := by
  have phased (p : KneelPhase) : CornersStand s (s.toPhase c p) := changeCorner_stands c (fun _ => ⟨rfl⟩) s
  cases phase : (s.corner c).phase with
  | level => rw [bandTransition_still (.inl phase)]; exact .refl s
  | kneeled => rw [bandTransition_still (.inr (.inl phase))]; exact .refl s
  | halted => rw [bandTransition_still (.inr (.inr phase))]; exact .refl s
  | lowering =>
    rw [bandTransition_lowering phase]
    split
    · refine (phased .kneeled).trans (.of_lc ?_)
      unfold setFlagIf
      split
      · rfl
      · rfl
    · exact .refl s
  | rising =>
    rw [bandTransition_rising phase]
    split
    · exact (phased .level).trans (cornersStand_frame.lookRisen _)
    · exact .refl s

theorem lookRisen_alone (alone : s.lc.rising = []) : lookRisen s = s := by
  unfold lookRisen
  split
  · rfl
  · rw [alone]
    rfl

/-- With no record in the rising list a transition changes its corner's phase and a flag alone. -/
theorem bandTransition_alone (alone : s.lc.rising = []) (c : Corner) (h : Nat) :
    (bandTransition c h s).valves = s.valves ∧ (bandTransition c h s).rt = s.rt ∧
    (bandTransition c h s).lc = (s.toPhase c ((bandTransition c h s).corner c).phase).lc := by
  have still : s.toPhase c (s.corner c).phase = s := by
    unfold State.toPhase changeCorner
    rw [upd_fixed rfl]
  have own (p : KneelPhase) : ((s.toPhase c p).corner c).phase = p := by rw [toPhase_corner, if_pos rfl]
  have flagged (b : Bool) (x : State) : (setFlagIf b .kneel x).lc = x.lc ∧ (setFlagIf b .kneel x).valves = x.valves ∧ (setFlagIf b .kneel x).rt = x.rt := by
    unfold setFlagIf
    split
    · exact ⟨rfl, rfl, rfl⟩
    · exact ⟨rfl, rfl, rfl⟩
  cases phase : (s.corner c).phase with
  | level => rw [bandTransition_still (.inl phase), still]; exact ⟨rfl, rfl, rfl⟩
  | kneeled => rw [bandTransition_still (.inr (.inl phase)), still]; exact ⟨rfl, rfl, rfl⟩
  | halted => rw [bandTransition_still (.inr (.inr phase)), still]; exact ⟨rfl, rfl, rfl⟩
  | lowering =>
    rw [bandTransition_lowering phase]
    split
    · obtain ⟨lc, valves, rt⟩ := flagged (allKneeled (s.toPhase c .kneeled)) (s.toPhase c .kneeled)
      have corner : (setFlagIf (allKneeled (s.toPhase c .kneeled)) .kneel (s.toPhase c .kneeled)).corner c = (s.toPhase c .kneeled).corner c := by
        rw [State.corner, lc, State.corner]
      rw [corner, own]
      exact ⟨valves, rt, lc⟩
    · rw [still]
      exact ⟨rfl, rfl, rfl⟩
  | rising =>
    rw [bandTransition_rising phase]
    split
    · rw [lookRisen_alone (s := s.toPhase c .level) alone, own]
      exact ⟨rfl, rfl, rfl⟩
    · rw [still]
      exact ⟨rfl, rfl, rfl⟩

/-! ### What a judgement leaves of its corner (R105 to R107) -/

variable {h : Nat}

theorem judge_hold_left (live : s.inReset .level = false) (hold : s.outcomeAt c h = .hold) (afresh : Bool) :
    ((judge afresh c h s).corner c).waiting = none ∧ ((judge afresh c h s).gen (.fill c)).prog = .idle ∧
      ((judge afresh c h s).gen (.cornerExhaust c)).prog = .idle := by
  rw [judge_hold hold]
  exact commandHold_left (s := keepOutcome c .hold s) live c

theorem judge_exhaust_out (live : s.inReset .level = false) (exhaust : s.outcomeAt c h = .exhaust) (afresh : Bool) :
    ((judge afresh c h s).corner c).waiting = none := by
  rw [judge_exhaust exhaust]
  exact commandExhaust_out (s := keepOutcome c .exhaust s) live ..

theorem judge_exhaust_prog (live : s.inReset .level = false) (exhaust : s.outcomeAt c h = .exhaust) :
    ((judge false c h s).gen (.cornerExhaust c)).prog =
      if (s.gen (.cornerExhaust c)).prog = .idle then pulse (s.corner c).phase (s.corner c).source (2 * (s.errorAt c h).natAbs)
      else (s.gen (.cornerExhaust c)).prog := by
  have moves : s.outcomeAt c h ≠ .hold := by rw [exhaust]; nofun
  have program := programAt_eq moves
  rw [exhaust, neededTime, Nat.mul_comm] at program
  rw [judge_exhaust exhaust]
  split
  · next idle =>
    exact (commandExhaust_left (s := keepOutcome c .exhaust s) live (programAt_opens moves) (.inr idle)).1.trans program
  · next runs => rw [commandExhaust_keeps (s := keepOutcome c .exhaust s) runs]; rfl

/-- R107: a corner that holds a grant keeps its fill. -/
theorem judge_fill_granted (live : s.inReset .level = false) (fill : s.outcomeAt c h = .fill) (granted : s.granted c = true) :
    judge false c h s = keepOutcome c .fill s := by
  have opens := programAt_opens (s := s) (c := c) (h := h) (by rw [fill]; nofun)
  rw [judge_fill fill, commandFill_granted (s := keepOutcome c .fill s) live opens granted]
  rfl

/-- The part as its corner joins the waiting set with its exhaust stopped (R107, R109). -/
def State.joins (s : State) (c : Corner) (h : Nat) : State :=
  joinWaiting c ⟨s.errorAt c h, s.programAt c h⟩ (stopLevel c .second (keepOutcome c .fill s))

theorem judge_fill_ungranted (fill : s.outcomeAt c h = .fill) (out : s.granted c = false) (afresh : Bool) :
    judge afresh c h s = arbitrate (s.joins c h) := by
  rw [judge_fill fill, commandFill_ungranted (s := keepOutcome c .fill s) out]
  rfl

theorem joins_only (s : State) (c : Corner) (h : Nat) : LevelOnly s (s.joins c h) :=
  ((changeCorner_only c _ s).trans (stopLevel_only c .second _)).trans (changeCorner_only c _ _)

theorem joins_rest (s : State) (c : Corner) (h : Nat) : (s.joins c h).lc.grants = s.lc.grants ∧ (s.joins c h).lc.reserve = s.lc.reserve := by
  have lc := stopExhaust_lc c (keepOutcome c .fill s)
  exact ⟨(congrArg LevellingController.grants lc :), (congrArg LevellingController.reserve lc :)⟩

theorem joins_waits (s : State) (c : Corner) (h : Nat) : ((s.joins c h).corner c).waiting = some ⟨s.errorAt c h, s.programAt c h⟩ :=
  joinWaiting_waits ..

theorem joins_kept (live : s.inReset .level = false) (other : d ≠ c) (h : Nat) : s.FillKept (s.joins c h) d := by
  have stopped : (keepOutcome c .fill s).FillKept (stopLevel c .second (keepOutcome c .fill s)) d := by
    rw [stopExhaust_eq (s := keepOutcome c .fill s) live]
    exact ⟨rfl, rfl, upd_get_ne _ _ (Ne.symm other)⟩
  exact ((keepOutcome_kept c d .fill s).trans stopped).trans (joinWaiting_kept other _)

theorem joins_waitError (live : s.inReset .level = false) (c : Corner) (h : Nat) :
    (s.joins c h).waitError = fun k => if k = c then some (s.errorAt c h) else s.waitError k := by
  funext k
  split
  · next here => rw [here, State.waitError, joins_waits]; rfl
  · next other => rw [State.waitError, (joins_kept live other h).1]; rfl

/-- R110: the free grant goes to the next corner, which keeps it. -/
theorem arbitrate_fills {w : WaitEntry} (live : s.inReset .level = false) (above : s.lc.reserve = .above) (free : s.GrantFree)
    (next : IsNext s.waitError d) (waits : (s.corner d).waiting = some w) (ok : w.prog.inRange.completes = true) :
    (arbitrate s).FillsWith d w.prog.inRange := by
  have fills := giveGrant_fillsWith live free ok (d := d)
  have given := arbitrateOnce_next above free next waits
  rw [← given] at fills
  have live' : (arbitrateOnce s).inReset .level = false := ((arbitrateOnce_only s).inReset .level).trans live
  rcases arbitrateOnce_cases (arbitrateOnce s) with ⟨same, _⟩ | ⟨k, v, _, free', waits', _, given'⟩
  · rw [arbitrate, same]
    exact fills
  · have other : k ≠ d := by
      rintro rfl
      cases fills.2.1.symm.trans waits'
    rw [arbitrate, given']
    exact (giveGrant_fillKept live' free' other).fillsWith fills

/-- R109: a corner in FILL holds a grant or waits for one. -/
theorem judge_fill_works (live : s.inReset .level = false) (fill : s.outcomeAt c h = .fill) :
    (judge false c h s).granted c = true ∨ ((judge false c h s).corner c).waiting.isSome = true := by
  cases granted : s.granted c with
  | true =>
    rw [judge_fill_granted live fill granted]
    exact .inl granted
  | false =>
    rw [judge_fill fill]
    have opens := programAt_opens (s := s) (c := c) (h := h) (by rw [fill]; nofun)
    obtain ⟨-, work⟩ := commandFill_left (s := keepOutcome c .fill s) (e := s.errorAt c h) (afresh := false) live opens (.inr granted)
    exact work.imp And.left fun waits => by rw [waits]; rfl

/-! ### A fill that is cut passes its grant on (R110) -/

theorem handLevel_ungrants {side : Side} {p : Program} (live : s.inReset .level = false) (out : (s.corner c).waiting = none)
    (cuts : s.valves.level[c.val].cuts side .first p = true) : (handLevel c side p s).granted c = false := by
  rw [handLevel_cut live cuts]
  have kept := (arbitrate_awaits (s := State.ungrant { s with valves := s.handed c side p } c) live c).kept out
  rw [returnGrant_eq, kept.2.1, ← Bool.not_eq_true, ungrant_granted]
  exact fun held => held.2 rfl

theorem handLevel_passes {side : Side} {p : Program} {w : WaitEntry} (rules : FillRules s) (held : s.granted c = true)
    (cuts : s.valves.level[c.val].cuts side .first p = true) (next : IsNext s.waitError d) (waits : (s.corner d).waiting = some w) :
    d ≠ c ∧ (handLevel c side p s).FillsWith d w.prog.inRange := by
  have live : s.inReset .level = false := rules.live (c := d) (by rw [waits]; nofun)
  obtain ⟨apart, given, free⟩ := returnGrant_next (v := s.handed c side p) (n := s.now) rules held next waits
  refine ⟨Ne.symm apart, ?_⟩
  rw [handLevel_cut live cuts]
  have passed : returnGrant c { s with valves := s.handed c side p } = giveGrant d w (({ s with valves := s.handed c side p } : State).ungrant c) := given
  rw [passed]
  exact giveGrant_fillsWith (s := ({ s with valves := s.handed c side p } : State).ungrant c) live free (rules.waiting d w waits).2

/-- The rules of the fills speak of the grants, RESERVE, the corners' pairs and the waiting set. -/
theorem FillRules.carry (rules : FillRules s) (live : t.inReset .level = false) (grants : t.lc.grants = s.lc.grants)
    (reserve : t.lc.reserve = s.lc.reserve) (level : t.valves.level = s.valves.level)
    (waiting : ∀ k : Corner, (t.corner k).waiting = (s.corner k).waiting) : FillRules t := by
  have granted (k : Corner) : t.granted k = s.granted k := granted_eq_of grants k
  refine ⟨⟨fun k => ?_, fun k => ?_, ?_, fun k w hw => ?_, fun reset => ?_⟩, fun below k => ?_, fun above k waits free => ?_⟩
  · rw [granted, level]
    exact rules.granted k
  · rw [level]
    exact rules.completes k
  · rw [grants]
    exact rules.distinct
  · rw [granted]
    exact rules.waiting k w ((waiting k).symm.trans hw)
  · cases live.symm.trans reset
  · rw [granted]
    exact rules.cut (reserve.symm.trans below) k
  · refine rules.settled (reserve.symm.trans above) k (by rw [← waiting k]; exact waits) ?_
    unfold State.GrantFree at free ⊢
    rwa [← grants]

/-- The part with its corner's outcome kept and the corner out of the waiting set. -/
def State.leaves (s : State) (c : Corner) (o : LevelOutcome) : State := leaveWaiting c (keepOutcome c o s)

theorem leaves_waiting (s : State) (c k : Corner) (o : LevelOutcome) (out : (s.corner c).waiting = none) :
    ((s.leaves c o).corner k).waiting = (s.corner k).waiting := by
  by_cases here : k = c
  · subst here
    rw [out]
    exact leaveWaiting_out ..
  · exact (leaveWaiting_kept here _).1.trans (keepOutcome_kept c k o s).1

theorem leaves_rules (rules : FillRules s) (live : s.inReset .level = false) (o : LevelOutcome) (out : (s.corner c).waiting = none) :
    FillRules (s.leaves c o) := rules.carry (t := s.leaves c o) live rfl rfl rfl fun k => leaves_waiting s c k o out

theorem leaves_waitError (o : LevelOutcome) (out : (s.corner c).waiting = none) : (s.leaves c o).waitError = s.waitError := by
  funext k
  rw [State.waitError, State.waitError, leaves_waiting s c k o out]

/-- R107, R110: HOLD ends the fill of a corner that held a grant, which passes to the next. -/
theorem judge_hold_passes (rules : FillRules s) (live : s.inReset .level = false) (granted : s.granted c = true)
    (hold : s.outcomeAt c h = .hold) : (judge false c h s).granted c = false ∧
      ∀ d w, IsNext s.waitError d → (s.corner d).waiting = some w → (judge false c h s).FillsWith d w.prog.inRange := by
  have out : (s.corner c).waiting = none := rules.apart c granted
  have rules' := leaves_rules rules live .hold out
  have fills : s.valves.level[c.val].first.prog ≠ .idle := (rules.granted c).mp granted
  have cuts : (s.leaves c .hold).valves.level[c.val].cuts .first .first .idle = true := rules.completes c fills
  have stops : stopLevel c .first (s.leaves c .hold) = handLevel c .first .idle (s.leaves c .hold) := by
    refine if_pos ?_
    have holds : s.valves.level[c.val].first.holds = true := by simpa [Generator.holds] using fills
    exact holds
  have live' : (handLevel c .first .idle (s.leaves c .hold)).inReset .level = false := ((handLevel_only c .first .idle (s.leaves c .hold)).inReset .level).trans live
  have last : judge false c h s = stopLevel c .second (handLevel c .first .idle (s.leaves c .hold)) := by
    rw [judge_hold hold, ← stops]
    rfl
  rw [last]
  refine ⟨?_, fun d w next waits => ?_⟩
  · rw [granted_eq_of (congrArg LevellingController.grants (stopExhaust_lc c _)) c]
    exact handLevel_ungrants (s := s.leaves c .hold) live (leaveWaiting_out ..) cuts
  · obtain ⟨other, fills⟩ := handLevel_passes rules' granted cuts ((leaves_waitError .hold out).symm ▸ next)
      ((leaves_waiting s c d .hold out).trans waits)
    exact ((stopLevel_awaits live' other .second).kept fills.2.1).fillsWith fills

/-- R72, R110: EXHAUST ends it by the interlock. -/
theorem judge_exhaust_passes (rules : FillRules s) (live : s.inReset .level = false) (sound : s.valves.level[c.val].Sound)
    (granted : s.granted c = true) (exhaust : s.outcomeAt c h = .exhaust) : (judge false c h s).granted c = false ∧
      ∀ d w, IsNext s.waitError d → (s.corner d).waiting = some w → (judge false c h s).FillsWith d w.prog.inRange := by
  have out : (s.corner c).waiting = none := rules.apart c granted
  have rules' := leaves_rules rules live .exhaust out
  have fills : s.valves.level[c.val].first.prog ≠ .idle := (rules.granted c).mp granted
  have idle : (s.gen (.cornerExhaust c)).prog = .idle := sound.2.2.resolve_left fills
  have opens := programAt_opens (s := s) (c := c) (h := h) (by rw [exhaust]; nofun)
  have cuts : (s.leaves c .exhaust).valves.level[c.val].cuts .second .first (s.programAt c h) = true := by
    unfold Pair.cuts
    split
    · next none' => exact absurd none' opens
    · exact rules.completes c fills
  have last : judge false c h s = handLevel c .second (s.programAt c h) (s.leaves c .exhaust) := by
    rw [judge_exhaust exhaust, commandExhaust_hands (s := keepOutcome c .exhaust s) (.inr idle)]
    rfl
  rw [last]
  refine ⟨handLevel_ungrants (s := s.leaves c .exhaust) live (leaveWaiting_out ..) cuts, fun d w next waits => ?_⟩
  exact (handLevel_passes rules' granted cuts ((leaves_waitError .exhaust out).symm ▸ next) ((leaves_waiting s c d .exhaust out).trans waits)).2

/-! ### What a control event leaves -/

/-- The part at a control event of a corner with samples, before the corner is judged (R103, R113). -/
def State.transited (s : State) (c : Corner) (h : Nat) : State := bandTransition c h ((formContext s).averaged c h)

theorem averaged_corner (s : State) (c d : Corner) (h : Nat) :
    (s.averaged c h).corner d = if c = d then { s.corner c with last := some h, sum := 0, count := 0 } else s.corner d := upd_get ..

theorem averaged_only (s : State) (c : Corner) (h : Nat) : LevelOnly s (s.averaged c h) := changeCorner_only c _ s

theorem transited_table (s : State) (c : Corner) (h : Nat) : TableOnly s (s.transited c h) :=
  ((formContext_only s).trans (averaged_only _ c h)).table.trans (bandTransition_table c h _)

theorem transited_stands (s : State) (c : Corner) (h : Nat) : CornersStand ((formContext s).averaged c h) (s.transited c h) :=
  bandTransition_stands c h _

theorem transited_context (live : s.inReset .level = false) (c : Corner) (h : Nat) : (s.transited c h).lc.context = s.formedContext := by
  rw [(transited_stands s c h).context]
  exact congrArg LevellingController.context (formContext_live live).1

theorem transited_band (live : s.inReset .level = false) (c : Corner) (h : Nat) :
    (s.transited c h).bandIn (s.transited c h).lc.context = s.bandIn s.formedContext := by
  rw [transited_context live]
  unfold State.bandIn
  rw [(transited_table s c h).hl]

theorem transited_samples (s : State) (c : Corner) (h : Nat) : ((s.transited c h).corner c).last = some h ∧
    ((s.transited c h).corner c).sum = 0 ∧ ((s.transited c h).corner c).count = 0 := by
  have averaged := (averaged_corner (formContext s) c c h).trans (if_pos rfl)
  rw [((transited_stands s c h).corner c).eq, averaged]
  exact ⟨rfl, rfl, rfl⟩

/-- The forming of the context and the averaging leave the valves, the grants, RESERVE, the waiting set and the rising list. -/
theorem formed_rest (live : s.inReset .level = false) (c : Corner) (h : Nat) (k : Corner) :
    ((formContext s).averaged c h).lc.grants = s.lc.grants ∧ ((formContext s).averaged c h).lc.reserve = s.lc.reserve ∧
    ((formContext s).averaged c h).lc.rising = s.lc.rising ∧ (((formContext s).averaged c h).corner k).waiting = (s.corner k).waiting := by
  have lc := (formContext_live live).1
  refine ⟨(congrArg LevellingController.grants lc :), (congrArg LevellingController.reserve lc :), (congrArg LevellingController.rising lc :), ?_⟩
  have formed : ((formContext s).corner k).waiting = (s.corner k).waiting := by rw [formContext_corner]
  rw [averaged_corner]
  split
  · next here =>
    subst here
    exact formed
  · exact formed

/-- With no record in the rising list nothing else moves before the corner is judged. -/
theorem transited_alone (live : s.inReset .level = false) (alone : s.lc.rising = []) (c : Corner) (h : Nat) :
    (s.transited c h).valves = s.valves ∧ (s.transited c h).rt = s.rt ∧ (s.transited c h).lc.grants = s.lc.grants ∧
    (s.transited c h).lc.reserve = s.lc.reserve ∧ ∀ k : Corner, ((s.transited c h).corner k).waiting = (s.corner k).waiting := by
  obtain ⟨grants, reserve, rising, -⟩ := formed_rest live c h c
  obtain ⟨valves, rt, lc⟩ := bandTransition_alone (rising.trans alone) c h
  have formed := formContext_only s
  have only := formed.trans (averaged_only _ c h)
  have valves' : ((formContext s).averaged c h).valves = s.valves := by
    have same : (formContext s).valves = s.valves := by rw [formContext_lc]
    exact same
  refine ⟨valves.trans valves', rt.trans only.rt, (congrArg LevellingController.grants lc).trans grants,
    (congrArg LevellingController.reserve lc).trans reserve, fun k => ?_⟩
  have own : (s.transited c h).corner k = (((formContext s).averaged c h).toPhase c ((s.transited c h).corner c).phase).corner k := by
    unfold State.corner
    exact congrArg (fun lc : LevellingController => lc.corners[k.val]) lc
  rw [own, toPhase_corner]
  split
  · next here =>
    subst here
    exact (formed_rest live c h c).2.2.2
  · exact (formed_rest live c h k).2.2.2

theorem transited_kept (live : s.inReset .level = false) (alone : s.lc.rising = []) (c : Corner) (h : Nat) (k : Corner) :
    s.FillKept (s.transited c h) k := by
  obtain ⟨valves, -, grants, -, waiting⟩ := transited_alone live alone c h
  exact ⟨waiting k, granted_eq_of grants k, by rw [valves]⟩

/-! ### The corner timers -/

/-- What a control event judges, and what it leaves of the corner's record (R103 to R105). -/
theorem controlEvent_left (live : s.inReset .level = false) (normal : (s.corner c).check = .normal) (samples : 0 < (s.corner c).count)
    (hh : h = (s.corner c).sum / (s.corner c).count) {t : State} (is : t = controlEvent c s) :
    t = judge false c h (s.transited c h) ∧ TableOnly s t ∧ t.lc.context = s.formedContext ∧
    ((t.corner c).last = some h ∧ (t.corner c).sum = 0 ∧ (t.corner c).count = 0) ∧
    (s.transited c h).errorAt c h = t.targetFor c (t.corner c).phase - (h : Int) ∧
    (50 ≤ s.mc.speed → (s.transited c h).errorAt c h = s.hl.params.ride - (h : Int)) ∧
    (t.corner c).outcome = some (judged ((s.transited c h).errorAt c h) (s.bandIn s.formedContext)) ∧
    (t.corner c).phase = ((s.transited c h).corner c).phase ∧ (t.corner c).source = ((s.transited c h).corner c).source := by
  rw [controlEvent_works normal samples hh] at is
  change t = judge false c h (s.transited c h) at is
  have table := transited_table s c h
  have commands := judge_commands false c h (s.transited c h)
  have only := judge_only false c h (s.transited c h)
  rw [← is] at commands only
  have record := commands.corner c
  obtain ⟨last, sum, count⟩ := transited_samples s c h
  refine ⟨is, table.trans only.table, ?_, ?_, ?_, fun fast => ?_, ?_, by rw [record], by rw [record]⟩
  · rw [commands.lc]
    exact transited_context live c h
  · rw [record]
    exact ⟨last, sum, count⟩
  · rw [← commands.errorAt only, errorAt_eq]
  · rw [State.errorAt, targetOf, if_pos (by rw [table.mc]; exact fast), table.hl]
  · rw [is, judge_outcome, outcomeAt_eq, transited_band live]

section Alone

variable {t : State} (live : s.inReset .level = false) (alone : s.lc.rising = []) (is : t = judge false c h (s.transited c h))

include is in
theorem judged_phase : (t.corner c).phase = ((s.transited c h).corner c).phase ∧ (t.corner c).source = ((s.transited c h).corner c).source := by
  have record := (judge_commands false c h (s.transited c h)).corner c
  rw [← is] at record
  exact ⟨by rw [record], by rw [record]⟩

include live

theorem transited_live : (s.transited c h).inReset .level = false := ((transited_table s c h).inReset .level).trans live

include alone

theorem joins_free_iff : ((s.transited c h).joins c h).GrantFree ↔ s.lc.grants[0] = none ∨ s.lc.grants[1] = none := by
  have grants := (joins_rest (s.transited c h) c h).1.trans (transited_alone live alone c h).2.2.1
  unfold State.GrantFree
  rw [grants]

include is

/-- R107: in EXHAUST a program that runs is kept. -/
theorem judged_exhausts (exhaust : (s.transited c h).outcomeAt c h = .exhaust) : (t.gen (.cornerExhaust c)).prog =
    if (s.gen (.cornerExhaust c)).prog = .idle then pulse (t.corner c).phase (t.corner c).source (2 * ((s.transited c h).errorAt c h).natAbs)
    else (s.gen (.cornerExhaust c)).prog := by
  obtain ⟨phase, source⟩ := judged_phase is
  obtain ⟨valves, -⟩ := transited_alone live alone c h
  have gen : (s.transited c h).gen (.cornerExhaust c) = s.gen (.cornerExhaust c) := by rw [State.gen, State.gen, valves]
  rw [phase, source, is, judge_exhaust_prog (transited_live live) exhaust, gen]

/-- R107: in FILL a corner that holds a grant keeps its fill. -/
theorem judged_keeps (fill : (s.transited c h).outcomeAt c h = .fill) (granted : s.granted c = true) : t.gen (.fill c) = s.gen (.fill c) := by
  obtain ⟨valves, -⟩ := transited_alone live alone c h
  have granted' : (s.transited c h).granted c = true := (transited_kept live alone c h c).2.1.trans granted
  rw [is, judge_fill_granted (transited_live live) fill granted']
  exact congrArg (fun v : Valves => v.gen (.fill c)) valves

/-- R109: one that holds none fills under a grant or waits for one. -/
theorem judged_waits (fill : (s.transited c h).outcomeAt c h = .fill) (out : s.granted c = false) :
    (t.gen (.cornerExhaust c)).prog = .idle ∧
    ((t.granted c = true ∧ (t.gen (.fill c)).prog = pulse (t.corner c).phase (t.corner c).source (3 * ((s.transited c h).errorAt c h).natAbs)) ∨
      ∃ w, (t.corner c).waiting = some w ∧ w.error = (s.transited c h).errorAt c h ∧
        w.prog.inRange = pulse (t.corner c).phase (t.corner c).source (3 * ((s.transited c h).errorAt c h).natAbs)) := by
  obtain ⟨phase, source⟩ := judged_phase is
  have out' : (s.transited c h).granted c = false := (transited_kept live alone c h c).2.1.trans out
  have moves : (s.transited c h).outcomeAt c h ≠ .hold := by rw [fill]; nofun
  have program := programAt_eq moves
  rw [fill, neededTime, Nat.mul_comm] at program
  obtain ⟨idle, work⟩ := commandFill_left (s := keepOutcome c .fill (s.transited c h)) (c := c) (e := (s.transited c h).errorAt c h) (afresh := false)
    (transited_live live) (programAt_opens moves) (.inr out')
  rw [← judge_fill fill, ← is] at idle work
  rw [phase, source]
  exact ⟨idle, work.imp (fun given => ⟨given.1, given.2.trans program⟩) fun waits => ⟨_, waits, rfl, program⟩⟩

/-- R110: with no grant to be had it waits, and nothing moves at the other corners. -/
theorem judged_queues (fill : (s.transited c h).outcomeAt c h = .fill) (out : s.granted c = false)
    (none' : s.lc.reserve = .below ∨ (s.lc.grants[0] ≠ none ∧ s.lc.grants[1] ≠ none)) :
    t.lc.grants = s.lc.grants ∧ (t.corner c).waiting.isSome = true ∧ ∀ d, d ≠ c → s.FillKept t d := by
  obtain ⟨grants, reserve⟩ := joins_rest (s.transited c h) c h
  have out' : (s.transited c h).granted c = false := (transited_kept live alone c h c).2.1.trans out
  have rests : arbitrate ((s.transited c h).joins c h) = (s.transited c h).joins c h := by
    refine arbitrate_rests ?_
    rcases none' with below | ⟨first, second⟩
    · exact .inr (.inl (reserve.trans ((transited_alone live alone c h).2.2.2.1.trans below)))
    · exact .inl fun free => ((joins_free_iff live alone).mp free).elim first second
  rw [is, judge_fill_ungranted fill out', rests]
  refine ⟨grants.trans (transited_alone live alone c h).2.2.1, by rw [joins_waits]; rfl, fun d other => ?_⟩
  exact (transited_kept live alone c h d).trans (joins_kept (transited_live live) other h)

/-- R110: of the corners that wait, itself among them, the next is given a free grant. -/
theorem judged_arbitrates (fill : (s.transited c h).outcomeAt c h = .fill) (out : s.granted c = false) (above : s.lc.reserve = .above)
    (free : s.lc.grants[0] = none ∨ s.lc.grants[1] = none) {error : Corner → Option Int}
    (errors : error = fun k => if k = c then some ((s.transited c h).errorAt c h) else s.waitError k) :
    (IsNext error c → t.FillsWith c (pulse (t.corner c).phase (t.corner c).source (3 * ((s.transited c h).errorAt c h).natAbs))) ∧
    ∀ d w, d ≠ c → IsNext error d → (s.corner d).waiting = some w → w.prog.inRange.completes = true → t.FillsWith d w.prog.inRange := by
  obtain ⟨phase, source⟩ := judged_phase is
  obtain ⟨grants, reserve⟩ := joins_rest (s.transited c h) c h
  have out' : (s.transited c h).granted c = false := (transited_kept live alone c h c).2.1.trans out
  have live' : ((s.transited c h).joins c h).inReset .level = false := ((joins_only _ c h).inReset .level).trans (transited_live live)
  have above' : ((s.transited c h).joins c h).lc.reserve = .above := reserve.trans ((transited_alone live alone c h).2.2.2.1.trans above)
  have free' := (joins_free_iff live alone (c := c) (h := h)).mpr free
  have waits (k : Corner) : (s.transited c h).waitError k = s.waitError k := by
    rw [State.waitError, (transited_kept live alone c h k).1]
    rfl
  have same : ((s.transited c h).joins c h).waitError = error := by
    rw [joins_waitError (transited_live live), errors]
    funext k
    rw [waits]
  have moves : (s.transited c h).outcomeAt c h ≠ .hold := by rw [fill]; nofun
  have program := programAt_eq moves
  rw [fill, neededTime, Nat.mul_comm] at program
  rw [phase, source, is, judge_fill_ungranted fill out']
  refine ⟨fun next => ?_, fun d w other next waits ok => ?_⟩
  · rw [← program]
    refine arbitrate_fills live' above' free' (same ▸ next) (joins_waits ..) ?_
    have fill' := fill
    unfold State.outcomeAt at fill'
    unfold State.programAt
    rw [fill]
    exact programFor_fill_completes _ fill'
  · have waits' : (((s.transited c h).joins c h).corner d).waiting = some w :=
      ((joins_kept (transited_live live) other h).1.trans (transited_kept live alone c h d).1).trans waits
    exact arbitrate_fills live' above' free' (same ▸ next) waits' ok

/-- R110: the grant of a fill that is cut goes to the next. -/
theorem judged_passes (other : (s.transited c h).outcomeAt c h ≠ .fill) (granted : s.granted c = true) (rules : FillRules s) (sound : s.InterlockLaw) :
    t.granted c = false ∧ ∀ d w, IsNext s.waitError d → (s.corner d).waiting = some w → t.FillsWith d w.prog.inRange := by
  obtain ⟨valves, -, grants, reserve, waiting⟩ := transited_alone live alone c h
  have rules' : FillRules (s.transited c h) := rules.carry (transited_live live) grants reserve (by rw [valves]) waiting
  have granted' : (s.transited c h).granted c = true := (granted_eq_of grants c).trans granted
  have waits : (s.transited c h).waitError = s.waitError := by
    funext k
    rw [State.waitError, waiting]
    rfl
  have sound' : (s.transited c h).valves.level[c.val].Sound := by
    rw [valves]
    exact sound.2.1 c
  rw [is, ← waits]
  cases outcome : (s.transited c h).outcomeAt c h with
  | hold =>
    obtain ⟨out, next⟩ := judge_hold_passes rules' (transited_live live) granted' outcome
    exact ⟨out, fun d w hd hw => next d w hd ((waiting d).trans hw)⟩
  | exhaust =>
    obtain ⟨out, next⟩ := judge_exhaust_passes rules' (transited_live live) sound' granted' outcome
    exact ⟨out, fun d w hd hw => next d w hd ((waiting d).trans hw)⟩
  | fill => exact absurd outcome other

end Alone

/-- Settles O39. -/
theorem cornerTimerJudges : Obligations.CornerTimerJudges := by
  intro s c e held live runs
  have run := exec_cornerTimerExpiry held runs
  have own : (s.restarted c e).corner c = { s.corner c with sourceAt := (s.corner c).source.period.map (max s.now e + ·) } :=
    changeCorner_corner_self (atLeast e s) c _
  refine ⟨fun same rests => ?_, fun normal samples => ?_⟩
  · have still : formContext (s.restarted c e) = s.restarted c e := by
      rw [formContext_eq]
      exact if_pos (.inr same)
    rw [controlEvent_rests (by rw [own]; exact rests), still] at run
    exact ⟨_, run, rfl, rfl⟩
  · have left := controlEvent_left (s := s.restarted c e) (c := c) live (by rw [own]; exact normal) (by rw [own]; exact samples) rfl rfl
    rw [own] at left
    dsimp only at left
    generalize controlEvent c (s.restarted c e) = t at run left
    generalize (s.corner c).sum / (s.corner c).count = h at left
    obtain ⟨is, table, context, averaged, err, fast, outcome, phase, source⟩ := left
    have live' : ((s.restarted c e).transited c h).inReset .level = false := ((transited_table _ c h).inReset .level).trans live
    have formed : (s.restarted c e).formedContext = s.formedContext := rfl
    have band := transited_band (s := s.restarted c e) live c h
    refine ⟨t, _, s.bandIn s.formedContext, run, table.now, context, averaged.1, averaged.2.1, averaged.2.2, err, fast, rfl, outcome, ?_⟩
    have kept (k : Corner) : s.FillKept (s.restarted c e) k := restarted_kept s c k e
    have errors : (s.restarted c e).waitError = s.waitError := by
      funext k
      rw [State.waitError, (kept k).1]
      rfl
    have whole := outcomeAt_eq ((s.restarted c e).transited c h) c h
    rw [band] at whole
    rw [outcome, ← formed, ← whole]
    refine ⟨fun hold => ?_, fun exhaust => ⟨?_, ?_⟩, fun fill => ?_, fun alone exhaust => ?_, fun alone fill => ⟨fun granted => ?_, fun out => ?_,
      fun out busy => ?_, fun out above free error same => ?_⟩, fun alone other granted law sound => ?_, table.sp, table.mc, table.bc, table.js,
      table.dl, table.dt⟩
    · rw [is]
      exact judge_hold_left live' (Option.some.inj hold) false
    · rw [is]
      exact judge_exhaust_out live' (Option.some.inj exhaust) false
    · have error := errorAt_ne_zero (s := (s.restarted c e).transited c h) (c := c) (h := h) (by rw [Option.some.inj exhaust]; nofun)
      rw [is, judge_exhaust_prog live' (Option.some.inj exhaust)]
      split
      · exact pulse_opens (by omega)
      · assumption
    · rw [is]
      exact judge_fill_works live' (Option.some.inj fill)
    · exact judged_exhausts (s := s.restarted c e) live alone is (whole.trans exhaust)
    · exact judged_keeps (s := s.restarted c e) live alone is (whole.trans fill) ((kept c).2.1.trans granted)
    · exact judged_waits (s := s.restarted c e) live alone is (whole.trans fill) ((kept c).2.1.trans out)
    · obtain ⟨grants, waits, others⟩ := judged_queues (s := s.restarted c e) live alone is (whole.trans fill) ((kept c).2.1.trans out) busy
      exact ⟨grants, waits, fun d apart => (kept d).trans (others d apart)⟩
    · obtain ⟨mine, others⟩ := judged_arbitrates (s := s.restarted c e) live alone is (whole.trans fill) ((kept c).2.1.trans out) above free
        (error := error) (by rw [same, errors])
      exact ⟨mine, fun d w apart next waits ok => others d w apart next ((kept d).1.trans waits) ok⟩
    · have rules : FillRules (s.restarted c e) :=
        (fillLaw_iff.mp law held).carry (t := s.restarted c e) live rfl rfl rfl fun k => (kept k).1
      obtain ⟨out, next⟩ := judged_passes (s := s.restarted c e) live alone is (whole.symm ▸ other) ((kept c).2.1.trans granted) rules sound
      exact ⟨out, fun d w hd hw => next d w (errors.symm ▸ hd) ((kept d).1.trans hw)⟩

end Sys2Proof.Machine
end

section
/-! PROOFS. What becomes of one slot: a change of its record, its release, its retirement (R13, R16 to R18), and a KNEEL's entry to
RELEASING over its corners (R116). -/

namespace Sys2Proof.Machine

variable {s t u : State} {i j : Slot} {r q : Record} {h : Handle}

/-! ### A change of one slot -/

/-- No live record lists NO_KNEEL. -/
def State.Unlisted (s : State) : Prop := ∀ j q, s.recordAt j = some q → Cond.noKneel ∉ q.conds

theorem State.Unlisted.listing (none' : s.Unlisted) : listingNoKneel s = [] := by
  refine List.filter_eq_nil_iff.mpr fun j _ => ?_
  split
  · next q stands => simpa using none' j q stands
  · nofun

namespace ChangesOnly

theorem slot (c : ChangesOnly i r s t) (j : Slot) :
    t.rt.slots[j.val] = if i = j then ⟨s.rt.slots[i.val].gen, some r⟩ else s.rt.slots[j.val] := by
  rw [c.1]
  simp [Vector.getElem_set, Fin.ext_iff]

theorem recordAt (c : ChangesOnly i r s t) (j : Slot) : t.recordAt j = if i = j then some r else s.recordAt j := by
  rw [State.recordAt, c.slot j]
  split
  · rfl
  · rfl

theorem recordAt_self (c : ChangesOnly i r s t) : t.recordAt i = some r := (c.recordAt i).trans (if_pos rfl)

theorem recordAt_ne (c : ChangesOnly i r s t) (other : i ≠ j) : t.recordAt j = s.recordAt j := (c.recordAt j).trans (if_neg other)

theorem handleAt (c : ChangesOnly i r s t) (j : Slot) : t.handleAt j = s.handleAt j := by
  unfold State.handleAt
  rw [c.slot j]
  split
  · next here =>
    subst here
    rfl
  · rfl

theorem of_rt (c : ChangesOnly i r s t) (same : u.rt = t.rt) : ChangesOnly i r s u := by
  unfold ChangesOnly at c ⊢
  rwa [same]

theorem trans (c : ChangesOnly i r s t) (d : ChangesOnly i q t u) : ChangesOnly i q s u := by
  obtain ⟨slots, count⟩ := d
  obtain ⟨slots', count'⟩ := c
  refine ⟨?_, count.trans count'⟩
  rw [slots, slots']
  simp

theorem frees (c : ChangesOnly i r s t) (d : FreesOnly i t u) : FreesOnly i s u := by
  obtain ⟨slots, count⟩ := d
  obtain ⟨slots', count'⟩ := c
  refine ⟨?_, by rw [count, count']⟩
  rw [slots, slots']
  simp

/-- The record as it stands put in its own place changes nothing. -/
theorem same (c : ChangesOnly i r s t) (stands : s.recordAt i = some r) : t.rt.slots = s.rt.slots := by
  refine Vector.ext fun n hn => ?_
  rw [c.slot ⟨n, hn⟩]
  split
  · next here =>
    subst here
    rw [← stands]
    rfl
  · rfl

theorem unlisted (c : ChangesOnly i r s t) (none' : s.Unlisted) (own : Cond.noKneel ∉ r.conds) : t.Unlisted := by
  intro j q stands
  rw [c.recordAt] at stands
  split at stands
  · cases stands
    exact own
  · exact none' j q stands

end ChangesOnly

namespace FreesOnly

theorem slot (c : FreesOnly i s t) (j : Slot) :
    t.rt.slots[j.val] = if i = j then ⟨s.rt.slots[i.val].gen + 1, none⟩ else s.rt.slots[j.val] := by
  rw [c.1]
  simp [Vector.getElem_set, Fin.ext_iff]

theorem recordAt (c : FreesOnly i s t) (j : Slot) : t.recordAt j = if i = j then none else s.recordAt j := by
  rw [State.recordAt, c.slot j]
  split
  · rfl
  · rfl

theorem of_rt (c : FreesOnly i s t) (same : u.rt = t.rt) : FreesOnly i s u := by
  unfold FreesOnly at c ⊢
  rwa [same]

theorem unlisted (c : FreesOnly i s t) (none' : s.Unlisted) : t.Unlisted := by
  intro j q stands
  rw [c.recordAt] at stands
  split at stands
  · cases stands
  · exact none' j q stands

end FreesOnly

/-- A table written over keeps the blocks that the records do not reach. -/
theorem TableOnly.blocks (h : TableOnly s t) : BlocksKept s t :=
  ⟨h.pending, h.resetHeld, h.sp, h.mc, h.bc, h.js, h.dl, h.dt, h.degraded⟩

theorem changeRecord_changes (stands : s.recordAt i = some r) (f : Record → Record) : ChangesOnly i (f r) s (changeRecord i f s) := by
  have entry : s.rt.slots[i.val].record = some r := stands
  exact ⟨by simp only [changeRecord, upd, entry]; rfl, rfl⟩

theorem putRecord_changes (i : Slot) (r : Record) (s : State) : ChangesOnly i r s (putRecord i r s) := ⟨rfl, rfl⟩

theorem changeRecord_eq (stands : s.recordAt i = some r) (f : Record → Record) : changeRecord i f s =
    { s with rt := { s.rt with slots := s.rt.slots.set i.val ⟨s.rt.slots[i.val].gen, some (f r)⟩ } } := by
  have entry : s.rt.slots[i.val].record = some r := stands
  simp only [changeRecord, upd, entry]
  rfl

/-- R18: the slot of a record that retires is FREE at its next generation. -/
theorem freeSlot_frees (i : Slot) (r : Record) (s : State) : FreesOnly i s (freeSlot i r s) := by
  have rt : (freeSlot i r s).rt = (vacate i s).rt := by
    rw [freeSlot, formEnvelope_rt, endService_rt]
    rfl
  exact ⟨congrArg RestraintTable.slots rt, congrArg RestraintTable.changeCount rt⟩

theorem freeSlot_envelopeLaw (i : Slot) (r : Record) (s : State) : (freeSlot i r s).EnvelopeLaw := formEnvelope_envelopeLaw _

/-! ### The rising list under the forming of the envelope -/

theorem offsetEvent_rising (c : Corner) (x : Int) (s : State) : (offsetEvent c x s).lc.rising = s.lc.rising := by
  unfold offsetEvent
  split
  · rfl
  · rw [(commandFromLast_commands c _).lc]
    unfold dropHalt
    split
    · rfl
    · rfl

theorem formEnvelope_rising (s : State) : (formEnvelope s).lc.rising = s.lc.rising := by
  rw [formEnvelope_eq]
  refine (forAll_rel (fun x y : State => y.lc.rising = x.lc.rising) (fun _ => rfl) (fun h k => k.trans h) _ (fun c x => ?_) _).trans
    (by rw [enveloped_eq])
  unfold sendOffset
  split
  · rfl
  · exact offsetEvent_rising ..

/-! ### The forming of an envelope of the same offsets (R39) -/

/-- Nothing but records, the envelope with its line and its sequence number differs. -/
structure Unsent (s t : State) : Prop where
  table  : TableOnly s t
  lc     : t.lc = s.lc
  valves : t.valves = s.valves
  hl     : t.hl = s.hl

theorem Unsent.trans (h : Unsent s t) (k : Unsent t u) : Unsent s u :=
  ⟨h.table.trans k.table, k.lc.trans h.lc, k.valves.trans h.valves, k.hl.trans h.hl⟩

theorem changeRecord_unsent (i : Slot) (f : Record → Record) (s : State) : Unsent s (changeRecord i f s) := ⟨changeRecord_table i f s, rfl, rfl, rfl⟩

theorem Unsent.only (h : Unsent s t) (law : t.EnvelopeLaw) : OnlyRecords s t :=
  ⟨h.table.pending, h.table.resetHeld, h.table.sp, h.table.mc, h.valves, h.table.bc, h.lc, h.table.js, h.table.dl, h.table.dt, h.table.degraded,
    h.table.profiles, congrArg HostLink.params h.hl, congrArg HostLink.configured h.hl, congrArg HostLink.mask h.hl, law⟩

theorem formEnvelope_unsent (same : (envelopeOf s.rt.slots).offsets = s.eu.env.offsets) : Unsent s (formEnvelope s) := by
  have still : formEnvelope s = s.enveloped := by
    rw [formEnvelope_eq, same]
    exact forAll_rel (fun x y => y = x) (fun _ => rfl) (fun h k => k.trans h) _ (fun c x => if_pos rfl) _
  refine ⟨formEnvelope_table s, ?_, ?_, ?_⟩
  · rw [still, enveloped_eq]
  · rw [still, enveloped_eq]
  · rw [still, enveloped_eq]

theorem offsetOf_eq (slots : Vector SlotEntry 32) (c : Corner) :
    offsetOf (liveRecords slots) c = ((slots.map fun e => e.record.bind (Record.offsetPart c)).toList.filterMap id).foldl min 0 := by
  unfold offsetOf liveRecords
  rw [List.filterMap_filterMap, Vector.toList_map, List.filterMap_map]
  rfl

/-- The offsets are those of the records' parts. -/
theorem offsets_congr {v w : Vector SlotEntry 32} (same : ∀ (j : Slot) (c : Corner),
    w[j.val].record.bind (Record.offsetPart c) = v[j.val].record.bind (Record.offsetPart c)) : (envelopeOf w).offsets = (envelopeOf v).offsets := by
  refine congrArg Vector.ofFn (funext fun c => ?_)
  rw [offsetOf_eq, offsetOf_eq]
  refine congrArg (fun x : Vector (Option Int) 32 => (x.toList.filterMap id).foldl min 0) (Vector.ext fun n hn => ?_)
  rw [Vector.getElem_map, Vector.getElem_map]
  exact same ⟨n, hn⟩ c

theorem offsetPart_of_ne (kind : r.kind ≠ .kneel) (c : Corner) : r.offsetPart c = none := by
  unfold Record.offsetPart
  split
  · next here _ => exact absurd here kind
  · rfl

theorem offsetPart_of_state (idle : r.state ≠ .active) (c : Corner) : r.offsetPart c = none := by
  unfold Record.offsetPart
  split
  · next _ here => exact absurd here idle
  · rfl

/-- The slot holds no record that has a part in the offsets. -/
def State.Offsetless (s : State) (i : Slot) : Prop := ∀ r, s.recordAt i = some r → ∀ c, r.offsetPart c = none

theorem State.Offsetless.of_stands (stands : s.recordAt i = some r) (none' : ∀ c, r.offsetPart c = none) : s.Offsetless i :=
  fun x hx => by rwa [← Option.some.inj (stands.symm.trans hx)]

theorem State.Offsetless.part (was : s.Offsetless i) (c : Corner) : (s.recordAt i).bind (Record.offsetPart c) = none := by
  cases stands : s.recordAt i with
  | none => rfl
  | some r => exact was r stands c

/-- R34: a record with no part in the offsets in the place of another leaves them as they are. -/
theorem ChangesOnly.offsets (h : ChangesOnly i q s t) (part : ∀ c, q.offsetPart c = none) (was : s.Offsetless i) :
    (envelopeOf t.rt.slots).offsets = (envelopeOf s.rt.slots).offsets := by
  refine offsets_congr fun j c => ?_
  have here := h.recordAt j
  unfold State.recordAt at here
  rw [here]
  split
  · next same =>
    subst same
    exact (part c).trans (was.part c).symm
  · rfl

theorem FreesOnly.offsets (h : FreesOnly i s t) (was : s.Offsetless i) : (envelopeOf t.rt.slots).offsets = (envelopeOf s.rt.slots).offsets := by
  refine offsets_congr fun j c => ?_
  have here := h.recordAt j
  unfold State.recordAt at here
  rw [here]
  split
  · next same =>
    subst same
    exact (was.part c).symm
  · rfl

/-- The forming of the envelope after a change of one record that has no part in the offsets. -/
theorem ChangesOnly.unsent (h : ChangesOnly i q s t) (part : ∀ c, q.offsetPart c = none) (was : s.Offsetless i) (law : s.EnvelopeLaw)
    (same : Unsent s t) (eu : t.eu = s.eu) : Unsent s (formEnvelope t) := by
  refine same.trans (formEnvelope_unsent ?_)
  rw [h.offsets part was, eu]
  exact (congrArg Envelope.offsets law).symm

theorem freeSlot_rising (i : Slot) (r : Record) (s : State) :
    (freeSlot i r s).lc.rising = s.lc.rising.filter fun e => e.handle != s.handleAt i := by
  refine (formEnvelope_rising _).trans ?_
  unfold endService
  split
  · rfl
  · rfl

/-- The free of a slot with no part in the offsets takes its record's handle off the rising list, and the controller knows no more of it. -/
theorem freeSlot_lc (was : s.Offsetless i) (law : s.EnvelopeLaw) (r : Record) :
    (freeSlot i r s).lc = (leaveRising (s.handleAt i) s).lc ∧ (freeSlot i r s).valves = s.valves := by
  have ended (x : State) : (endService r.kind x).rt = x.rt ∧ (endService r.kind x).eu = x.eu ∧ (endService r.kind x).lc = x.lc ∧
      (endService r.kind x).valves = x.valves := by
    unfold endService
    split
    · exact ⟨rfl, rfl, rfl, rfl⟩
    · exact ⟨rfl, rfl, rfl, rfl⟩
  obtain ⟨rt, eu, lc, valves⟩ := ended (setFlag .record (vacate i (leaveRising (s.handleAt i) s)))
  have vacated : FreesOnly i s (vacate i (leaveRising (s.handleAt i) s)) := ⟨rfl, rfl⟩
  have unsent := formEnvelope_unsent (s := endService r.kind (setFlag .record (vacate i (leaveRising (s.handleAt i) s)))) (by
    rw [rt, eu]
    exact (vacated.offsets was).trans (congrArg Envelope.offsets law).symm)
  exact ⟨unsent.lc.trans lc, unsent.valves.trans valves⟩

/-! ### The entry of a record to RELEASING (R13, R16, R116) -/

theorem released_changes (stands : s.recordAt i = some r) :
    ChangesOnly i (r.released s.now) s (formEnvelope (changeRecord i (Record.release s.now) s)) := by
  rw [← Record.release_eq_released]
  exact (changeRecord_changes stands _).of_rt (formEnvelope_rt _)

theorem enterReleasing_changes (stands : s.recordAt i = some r) (kind : r.kind ≠ .kneel) : ChangesOnly i (r.released s.now) s (enterReleasing i r s) := by
  rw [enterReleasing_eq kind]
  exact released_changes stands

theorem enterReleasing_envelopeLaw (i : Slot) (r : Record) (s : State) : (enterReleasing i r s).EnvelopeLaw :=
  noticeRising_envelopeLaw i r (formEnvelope_envelopeLaw _)

/-! ### Retirement (R17, R18) -/

/-- R17. -/
theorem spent_iff : r.spent = true ↔
    r.state = .releasing ∧ r.releaseLeft = 0 ∧ (r.distLeft = 0 ∨ r.steer = none) ∧ (r.kind ≠ .kneel ∨ r.risen = true) := by
  simp [Record.spent, and_assoc]

/-- The record has a delay or a distance left to run. -/
abbrev Record.Runs (r : Record) : Prop := 0 < r.releaseLeft ∨ (0 < r.distLeft ∧ r.steer ≠ none)

theorem Record.Runs.unspent (runs : r.Runs) : ¬ r.spent = true := by
  rw [spent_iff]
  rintro ⟨-, step, dist, -⟩
  rcases runs with delay | ⟨left, steer⟩
  · omega
  · exact steer (dist.resolve_left (by omega))

/-- A record has something left to run at its entry to RELEASING when it lingers there. -/
theorem released_spent_iff {now : Nat} {b : Bool} (kind : r.kind ≠ .kneel ∨ b = true) :
    ({ r.released now with risen := b } : Record).spent = true ↔ ¬ r.Lingers := by
  have lone : ({ r.released now with risen := b } : Record).kind = r.kind := rfl
  rw [spent_iff]
  refine ⟨fun ⟨_, step, dist, _⟩ lingers => ?_, fun idle => ?_⟩
  · change r.delay = 0 at step
    change r.swing.getD 0 * 100 = 0 ∨ r.steer = none at dist
    rcases lingers with delay | ⟨steer, swing⟩
    · omega
    · exact steer (dist.resolve_left (by omega))
  · rw [not_or, not_and_or, not_not] at idle
    refine ⟨rfl, Nat.eq_zero_of_not_pos idle.1, ?_, lone ▸ kind⟩
    exact idle.2.symm.imp_left fun none' => by
      change r.swing.getD 0 * 100 = 0
      omega


/-- Who is evaluated when a record has retired: nobody where it has no parent and no record waits for a KNEEL to go. -/
theorem dependants_none (forced : List Slot) (parent : r.parent = none) (alone : r.kind = .kneel → s.Unlisted) : dependants forced r s = [] := by
  unfold dependants
  rw [parent]
  by_cases kind : r.kind = .kneel
  · rw [if_pos kind, (alone kind).listing]
    rfl
  · rw [if_neg kind]
    rfl

theorem retire_alone (stands : s.recordAt i = some r) (parent : r.parent = none) (alone : r.kind = .kneel → s.Unlisted) : retire i s = freeSlot i r s := by
  unfold retire
  rw [stands]
  dsimp only
  rw [dependants_none [] parent fun kind => (freeSlot_frees i r s).unlisted (alone kind)]
  rfl

/-- What an evaluation makes of an ACTIVE record that waits for nothing (R13, R17, R18). -/
theorem evaluate_enters (stands : s.recordAt i = some r) (active : r.state = .active) (leaves : releasable s i r = true)
    (alone : r.kind = .kneel → (enterReleasing i r s).Unlisted) (entered : (enterReleasing i r s).recordAt i = some q) (forced : List Slot) (n : Nat) :
    evaluate forced (n + 1) i s = if q.spent then
      (dependants forced q (freeSlot i q (enterReleasing i r s))).foldl (fun s j => evaluate forced n j s) (freeSlot i q (enterReleasing i r s))
      else enterReleasing i r s := by
  have listed : (if r.kind = .kneel then (listingNoKneel (enterReleasing i r s)).foldl (fun s j => evaluate forced n j s) (enterReleasing i r s)
      else enterReleasing i r s) = enterReleasing i r s := by
    split
    · next kind =>
      rw [(alone kind).listing]
      rfl
    · rfl
  conv_lhs => unfold evaluate
  simp only [stands, active, leaves, if_true, listed, entered]

theorem evaluate_stays (stands : s.recordAt i = some r) (active : r.state = .active) (leaves : releasable s i r = true)
    (alone : r.kind = .kneel → (enterReleasing i r s).Unlisted) (entered : (enterReleasing i r s).recordAt i = some q) (runs : ¬ q.spent = true)
    (forced : List Slot) (n : Nat) : evaluate forced (n + 1) i s = enterReleasing i r s := by
  rw [evaluate_enters stands active leaves alone entered, if_neg runs]

theorem evaluate_retires (stands : s.recordAt i = some r) (active : r.state = .active) (leaves : releasable s i r = true)
    (alone : r.kind = .kneel → (enterReleasing i r s).Unlisted) (entered : (enterReleasing i r s).recordAt i = some q) (spent : q.spent = true)
    (parent : q.parent = none) (same : q.kind = r.kind) (forced : List Slot) (n : Nat) :
    evaluate forced (n + 1) i s = freeSlot i q (enterReleasing i r s) := by
  rw [evaluate_enters stands active leaves alone entered, if_pos spent,
    dependants_none forced parent fun kind => (freeSlot_frees i q _).unlisted (alone (same.symm.trans kind))]
  rfl

/-- An evaluation keeps the envelope the one the records form. -/
theorem evaluate_envelopeLaw (forced : List Slot) (n : Nat) (i : Slot) (law : s.EnvelopeLaw) : (evaluate forced n i s).EnvelopeLaw :=
  evaluate_invariant (P := State.EnvelopeLaw) (fun i r x _ => enterReleasing_envelopeLaw i r x) (fun i r x _ => freeSlot_envelopeLaw i r x)
    (fun i x _ => returnActive_envelopeLaw i x) forced n i s law

theorem foldl_evaluate_envelopeLaw (forced : List Slot) (n : Nat) (xs : List Slot) (law : s.EnvelopeLaw) :
    (xs.foldl (fun s j => evaluate forced n j s) s).EnvelopeLaw :=
  foldl_rel (fun x y : State => x.EnvelopeLaw → y.EnvelopeLaw) (fun _ => id) (fun h k => k ∘ h) _
    (fun _ j => evaluate_envelopeLaw forced n j) xs s law

/-- R13, R17: what the evaluation of a record that is no KNEEL and waits for nothing comes to. -/
theorem evaluate_goes (stands : s.recordAt i = some r) (kind : r.kind ≠ .kneel) (active : r.state = .active) (leaves : releasable s i r = true)
    (forced : List Slot) (n : Nat) : (evaluate forced (n + 1) i s).EnvelopeLaw ∧
    (r.Lingers → evaluate forced (n + 1) i s = enterReleasing i r s) ∧
    (¬ r.Lingers → r.parent = none → evaluate forced (n + 1) i s = freeSlot i (r.released s.now) (enterReleasing i r s)) := by
  have entered := (enterReleasing_changes stands kind).recordAt_self
  have alone : r.kind = .kneel → (enterReleasing i r s).Unlisted := fun k => absurd k kind
  have spent : (r.released s.now).spent = true ↔ ¬ r.Lingers := released_spent_iff (.inl kind)
  refine ⟨?_, fun lingers => ?_, fun idle parent => ?_⟩
  · rw [evaluate_enters stands active leaves alone entered]
    split
    · exact foldl_evaluate_envelopeLaw _ _ _ (freeSlot_envelopeLaw ..)
    · exact enterReleasing_envelopeLaw ..
  · exact evaluate_stays stands active leaves alone entered (fun gone => spent.mp gone lingers) forced n
  · exact evaluate_retires stands active leaves alone entered (spent.mpr idle) parent rfl forced n

/-! ### A risen report (R16, R116) -/

theorem names_handle (named : s.names h = true) : s.handleAt h.slot = h := by
  obtain ⟨slot, gen⟩ := h
  unfold State.names at named
  rw [Bool.and_eq_true, beq_iff_eq] at named
  exact congrArg (Handle.mk slot) named.1

/-- R16: a KNEEL with something left to run is marked risen. -/
theorem riseRecord_stays (named : s.names h = true) (stands : s.recordAt h.slot = some r) (releasing : r.state = .releasing)
    (left : r.Runs) : riseRecord h s = markRisen h.slot s := by
  have marked : (markRisen h.slot s).recordAt h.slot = some { r with risen := true } := (changeRecord_changes stands _).recordAt_self
  have runs : ({ r with risen := true } : Record).Runs := left
  unfold riseRecord checkRetire
  rw [if_pos (by simp [named, stands, releasing]), marked]
  dsimp only
  exact if_neg runs.unspent

/-- R16, R17: one with nothing left to run retires. -/
theorem riseRecord_retires (named : s.names h = true) (stands : s.recordAt h.slot = some r) (releasing : r.state = .releasing)
    (step : r.releaseLeft = 0) (dist : r.distLeft = 0 ∨ r.steer = none) (parent : r.parent = none) (none' : s.Unlisted) :
    riseRecord h s = freeSlot h.slot { r with risen := true } (markRisen h.slot s) := by
  have marks := changeRecord_changes stands fun q => { q with risen := true }
  have marked : (markRisen h.slot s).recordAt h.slot = some { r with risen := true } := marks.recordAt_self
  have spent : ({ r with risen := true } : Record).spent = true := spent_iff.mpr ⟨releasing, step, dist, .inr rfl⟩
  unfold riseRecord checkRetire
  rw [if_pos (by simp [named, stands, releasing]), marked]
  dsimp only
  rw [if_pos spent]
  exact retire_alone marked parent fun _ => marks.unlisted none' (none' _ r stands)

/-- A report that retires its record frees the slot, takes the handle off the rising list, and moves no corner. -/
theorem riseRecord_frees (named : s.names h = true) (stands : s.recordAt h.slot = some r) (releasing : r.state = .releasing)
    (step : r.releaseLeft = 0) (dist : r.distLeft = 0 ∨ r.steer = none) (parent : r.parent = none) (none' : s.Unlisted) :
    FreesOnly h.slot s (riseRecord h s) ∧ (riseRecord h s).flag .record = true ∧
    (riseRecord h s).lc.rising = s.lc.rising.filter (fun e => e.handle != h) ∧
    (s.EnvelopeLaw → (riseRecord h s).lc = (leaveRising h s).lc) := by
  rw [riseRecord_retires named stands releasing step dist parent none']
  have marks := changeRecord_changes stands fun q => { q with risen := true }
  have handle : (markRisen h.slot s).handleAt h.slot = h := (marks.handleAt h.slot).trans (names_handle named)
  refine ⟨marks.frees (freeSlot_frees ..), freeSlot_record .., ?_, fun law => ?_⟩
  · rw [freeSlot_rising, handle]
    rfl
  · have offsetless : (markRisen h.slot s).Offsetless h.slot :=
      .of_stands marks.recordAt_self (offsetPart_of_state (by rw [releasing]; nofun))
    rw [(freeSlot_lc offsetless (markRisen_envelopeLaw h.slot law) _).1, handle]
    rfl

end Sys2Proof.Machine
end

section
/-! PROOFS. RETIRE and the record timers (O20, O22, O23), and the release of a KNEEL (O41). -/

namespace Sys2Proof.Machine

variable {s t : State} {i : Slot} {r q : Record} {f : HostFrame} {o : HostOwner} {a b : Byte}

/-! ### Conditions after a change of one record (R12) -/

/-- The conditions but OWNER_RELEASE look at the doors, at the other records and at the configuration. -/
theorem condHolds_congr {x : Cond} (dl : t.dl = s.dl) (configured : t.hl.configured = s.hl.configured)
    (others : ∀ j, j ≠ i → t.recordAt j = s.recordAt j) (other : x ≠ .ownerRelease) : condHolds t i q x = condHolds s i r x := by
  cases x with
  | ownerRelease => exact absurd rfl other
  | doorLocked d => simp only [condHolds, State.doorLocked, dl]
  | allDoorsLocked => simp only [condHolds, dl]
  | rampStowed => simp only [condHolds, dl]
  | configDone => exact configured
  | noKneel =>
    have same : t.otherKneel i = s.otherKneel i := by
      unfold State.otherKneel
      refine List.any_congr rfl fun j => ?_
      by_cases here : j = i
      · simp [here]
      · rw [others j here]
    exact congrArg (!·) same

theorem changeRecord_condHolds {x : Cond} (f : Record → Record) (other : x ≠ .ownerRelease) :
    condHolds (changeRecord i f s) i q x = condHolds s i r x :=
  condHolds_congr rfl rfl (fun _ apart => changeRecord_recordAt_ne _ _ (Ne.symm apart)) other

/-- A record told by its owner waits for nothing when its other conditions hold and it has no child (R12). -/
theorem releasable_told (met : ∀ x ∈ r.conds, x = .ownerRelease ∨ condHolds s i r x = true) (childless : s.hasChild i = false) :
    releasable (changeRecord i Record.told s) i r.told = true := by
  have every : r.told.conds.all (condHolds (changeRecord i Record.told s) i r.told) = true := by
    refine List.all_eq_true.mpr fun x member => ?_
    by_cases own : x = .ownerRelease
    · rw [own]
      rfl
    · rw [changeRecord_condHolds (r := r) _ own]
      exact (met x member).resolve_left own
  unfold releasable
  rw [every, changeRecord_hasChild (f := Record.told) (fun _ => rfl), childless]
  rfl

theorem releasable_false_of_cond {x : Cond} (member : x ∈ r.conds) (fails : condHolds s i r x = false) : releasable s i r = false := by
  unfold releasable
  rw [Bool.and_eq_false_iff]
  exact .inl (List.all_eq_false.mpr ⟨x, member, by rw [fails]; nofun⟩)

theorem releasable_false_of_child (child : s.hasChild i = true) : releasable s i r = false := by
  unfold releasable
  rw [child]
  exact Bool.and_false _

/-! ### An owner's release (R21) -/

theorem ownerRetire_active (stands : s.recordAt i = some r) (active : r.state = .active) (untold : r.ownerRelease = false) :
    ownerRetire i s = (.ok, evalRecord i (changeRecord i Record.told s)) := by
  unfold ownerRetire
  simp only [stands, active, untold]
  rfl

theorem ownerRetire_already (stands : s.recordAt i = some r) (already : r.state = .releasing ∨ (r.state = .active ∧ r.ownerRelease = true)) :
    ownerRetire i s = (.already, s) := by
  unfold ownerRetire
  rcases already with releasing | ⟨active, told⟩
  · simp only [stands, releasing]
  · simp [stands, active, told]

theorem ownerRetire_armed (stands : s.recordAt i = some r) (armed : r.state = .armed) : ownerRetire i s = (.ok, retire i s) := by
  unfold ownerRetire
  simp only [stands, armed]

/-- A record that still waits is told of its release, and no more. -/
theorem ownerRetire_waits (stands : s.recordAt i = some r) (active : r.state = .active) (untold : r.ownerRelease = false)
    (waits : releasable (changeRecord i Record.told s) i r.told = false) : ownerRetire i s = (.ok, changeRecord i Record.told s) := by
  rw [ownerRetire_active stands active untold]
  have told := changeRecord_told_recordAt stands
  have state : r.told.state = .active := active
  unfold evalRecord evalDepth evaluate
  simp [told, state, waits]

/-- R13, R17, R21: what the release of a record that is no KNEEL and waits for nothing else comes to. -/
theorem ownerRetire_goes (stands : s.recordAt i = some r) (kind : r.kind ≠ .kneel) (active : r.state = .active) (untold : r.ownerRelease = false)
    (met : ∀ x ∈ r.conds, x = .ownerRelease ∨ condHolds s i r x = true) (childless : s.hasChild i = false) :
    (ownerRetire i s).1 = .ok ∧ (ownerRetire i s).2.EnvelopeLaw ∧
    (r.Lingers → ChangesOnly i (r.told.released s.now) s (ownerRetire i s).2 ∧ (s.EnvelopeLaw → Unsent s (ownerRetire i s).2)) ∧
    (¬ r.Lingers → r.parent = none → FreesOnly i s (ownerRetire i s).2 ∧ (ownerRetire i s).2.flag .record = true) := by
  rw [ownerRetire_active stands active untold]
  have told := changeRecord_told_recordAt stands
  have tells := changeRecord_changes stands Record.told
  obtain ⟨law, stays, goes⟩ := evaluate_goes told (r := r.told) kind active (releasable_told met childless) [] 64
  have enters : ChangesOnly i (r.told.released s.now) s (enterReleasing i r.told (changeRecord i Record.told s)) :=
    tells.trans (enterReleasing_changes told kind)
  refine ⟨rfl, law, fun lingers => ?_, fun idle parent => ?_⟩
  · have stays : evalRecord i _ = _ := stays lingers
    rw [stays]
    refine ⟨enters, fun before => ?_⟩
    rw [enterReleasing_eq (r := r.told) kind]
    have changes : ChangesOnly i (r.told.release s.now) s (changeRecord i (Record.release s.now) (changeRecord i Record.told s)) :=
      tells.trans (changeRecord_changes told _)
    exact changes.unsent (offsetPart_of_ne (r := r.told.release s.now) kind) (.of_stands stands (offsetPart_of_ne kind)) before
      ((changeRecord_unsent ..).trans (changeRecord_unsent ..)) rfl
  · have goes : evalRecord i _ = _ := goes idle parent
    rw [goes]
    exact ⟨enters.frees (freeSlot_frees ..), freeSlot_record ..⟩

/-! ### Requests of RETIRE -/

theorem exec_retire (live : s.resetHeld = false) (owner : FrameOwner f o) (host : o ≠ .none) (payload : f.payload = [a, b]) :
    exec (.retire f) s = .next (bodyRetire o [a, b] (s.taking f)) := by
  have fits : f.payload.length ≤ 26 := by rw [payload]; exact Nat.le_of_ble_eq_true rfl
  have takes : Accepts.takes .hosts o = true := by simpa [Accepts.takes] using host
  rw [exec_taken (c := .retire f) rfl rfl live fits owner takes, payload]

theorem named_stands (names : named s a b = some (i, r)) : s.recordAt i = some r := by
  unfold named at names
  split at names
  · cases names
  · next h _ =>
    split at names
    · obtain ⟨q, stands, same⟩ := Option.map_eq_some_iff.mp names
      cases same
      exact stands
    · cases names

theorem bodyRetire_own (names : named s a b = some (i, r)) (own : some r.owner = o.record) :
    bodyRetire o [a, b] s = answer 0x06 (ownerRetire i s).1 [] (ownerRetire i s).2 := by
  unfold bodyRetire
  simp only [names]
  exact if_neg (not_not_intro own)

/-- R12: a record that lists a door that is not LOCKED waits for it. -/
theorem waits_for_door {d : Door} (open' : (s.line d).door ≠ .locked) (lists : Cond.doorLocked d ∈ r.conds ∨ Cond.allDoorsLocked ∈ r.conds) :
    ∃ x ∈ r.conds, x ≠ .ownerRelease ∧ ∀ i q, condHolds s i q x = false := by
  rcases lists with one | all
  · exact ⟨_, one, by nofun, fun i q => by simpa [condHolds, State.doorLocked] using (show ¬ s.dl.lines[d.val].door = .locked from open')⟩
  · refine ⟨_, all, by nofun, fun i q => ?_⟩
    refine List.all_eq_false.mpr ⟨s.line d, by simp [State.line], ?_⟩
    simpa using open'

/-- Settles O20. -/
theorem retireRequest : Obligations.RetireRequest := by
  intro s f o a b live owner host payload
  rw [exec_retire live owner host payload]
  refine ⟨fun stale => ?_, fun i r names => ?_⟩
  · have stale' : named (s.taking f) a b = none := stale
    unfold bodyRetire
    simp only [stale']
    rfl
  have names' : named (s.taking f) a b = some (i, r) := names
  have stands : (s.taking f).recordAt i = some r := named_stands names'
  refine ⟨fun other => ?_, fun own already => ?_, fun own active untold ⟨d, open', lists⟩ => ?_, fun own active untold kind met childless => ?_,
    fun own armed kind parent => ?_⟩
  · unfold bodyRetire
    simp only [names', if_pos other]
    rfl
  · rw [bodyRetire_own names' own, ownerRetire_already stands already]
    rfl
  · obtain ⟨x, member, apart, fails⟩ := waits_for_door open' lists
    have waits : releasable (changeRecord i Record.told (s.taking f)) i r.told = false :=
      releasable_false_of_cond (r := r.told) member ((changeRecord_condHolds (r := r) _ apart).trans (fails i r))
    rw [bodyRetire_own names' own, ownerRetire_waits stands active untold waits, changeRecord_eq stands]
    rfl
  · obtain ⟨ok, law, stays, goes⟩ := ownerRetire_goes stands kind active untold met childless
    rw [bodyRetire_own names' own, ok]
    refine ⟨_, rfl, rfl, (ownerRetire_table i (s.taking f)).blocks, law, fun lingers => ?_, goes⟩
    obtain ⟨changes, unsent⟩ := stays lingers
    exact ⟨changes, fun before => (unsent before).only law⟩
  · have retires := retire_alone stands parent fun k => absurd k kind
    rw [bodyRetire_own names' own, ownerRetire_armed stands armed, retires]
    exact ⟨_, rfl, rfl, freeSlot_frees i r (s.taking f), (freeSlot_table i r (s.taking f)).blocks, freeSlot_envelopeLaw .., freeSlot_record ..⟩

/-! ### A KNEEL under a KNEEL -/

/-- An ACTIVE KNEEL that waits for its owner alone and has nothing to run. -/
def briefKneel (o : Owner) (scope : Scope) (parent : Option Handle) (depth : Nat) : Record :=
  { newRecord State.reset { kind := .kneel, owner := o } parent depth with state := .active, scope := scope, conds := [.ownerRelease], delay := 0, swing := none }

/-- The DRIVER's KNEEL of no corner under the DEPOT's KNEEL of corner 0, which its owner has released. -/
def kneelUnderKneel : State :=
  formEnvelope (putRecord 0 (briefKneel .driver 0 (some ⟨1, 0⟩) 2) (putRecord 1 (briefKneel .depot 1 none 1).told State.reset))

/-- The DRIVER's RETIRE of the record in slot 0. -/
def driverRetires : HostFrame := ⟨1, [1, 0], 0⟩

/-- The released KNEEL retires, and its parent, which waited for it alone, goes to RELEASING and is listed as rising. -/
theorem kneelUnderKneel_lists : ∃ t, exec (.retire driverRetires) kneelUnderKneel = .next t ∧ t.lc.rising = [⟨⟨1, 0⟩, 1⟩] := by
  refine ⟨_, exec_retire (o := .driver) (a := 1) (b := 0) (by decide +kernel) rfl nofun rfl, by decide +kernel⟩

/-- Refutes O41: a KNEEL with an empty scope and nothing left to run retires within its RETIRE, its parent is evaluated (R18), and a parent
that is a KNEEL told by its own owner enters the rising list at that moment, which the statement's last part has no place for. -/
theorem not_kneelPhases : ¬ Obligations.KneelPhases := by
  rintro ⟨-, -, released⟩
  obtain ⟨t, run, -, -, -, -, empty⟩ := released kneelUnderKneel driverRetires .driver 1 0 0 (briefKneel .driver 0 (some ⟨1, 0⟩) 2)
    (by decide +kernel) rfl nofun rfl (by decide +kernel) rfl rfl rfl rfl (by decide +kernel) (by decide +kernel) (by decide +kernel)
  obtain ⟨u, run', rising⟩ := kneelUnderKneel_lists
  obtain rfl : u = t := Host.Outcome.next.inj (run'.symm.trans run)
  have unlisted : kneelUnderKneel.lc.rising = [] := by decide +kernel
  have listed := (empty rfl).1
  rw [rising, unlisted] at listed
  cases listed

end Sys2Proof.Machine
end

section
/-! PROOFS. The record timers (O22), and the evaluations at the loss of a lock and at a child's retirement (O23). -/

namespace Sys2Proof.Machine

variable {s t : State} {i j : Slot} {r q : Record} {e : Nat}

/-! ### Release steps and arm timers (R11, R14) -/

theorem exec_armTimeout (live : s.resetHeld = false) (stands : s.recordAt i = some r) (armed : r.state = .armed) (runs : r.armAt = some e) :
    exec (.armTimeout i) s = .next (retire i (setFlag .recordTimeout (atLeast e s))) := by
  refine (running_next (f := armExpiry i) live).trans (congrArg Host.Outcome.next ?_)
  unfold armExpiry
  simp only [stands, armed, runs]

/-- The part at a release step of a record, before the retirement check (R14). -/
def State.stepped (s : State) (i : Slot) (e : Nat) : State := formEnvelope (changeRecord i (Record.stepped (max s.now e)) (atLeast e s))

theorem exec_releaseStep (live : s.resetHeld = false) (stands : s.recordAt i = some r) (releasing : r.state = .releasing) (runs : r.stepAt = some e) :
    exec (.releaseStep i) s = .next (checkRetire i (s.stepped i e)) := by
  refine (running_next (f := stepExpiry i) live).trans (congrArg Host.Outcome.next ?_)
  unfold stepExpiry
  simp only [stands, releasing, runs]
  rfl

theorem stepped_changes (stands : s.recordAt i = some r) (e : Nat) : ChangesOnly i (r.stepped (max s.now e)) s (s.stepped i e) :=
  (changeRecord_changes (s := atLeast e s) stands _).of_rt (formEnvelope_rt _)

theorem stepped_now (s : State) (i : Slot) (e : Nat) : (s.stepped i e).now = max s.now e := (formEnvelope_table _).now

theorem stepped_only (stands : s.recordAt i = some r) (kind : r.kind ≠ .kneel) (law : s.EnvelopeLaw) (e : Nat) :
    OnlyRecords s (s.stepped i e) ∧ (s.stepped i e).hl = s.hl := by
  have changes := changeRecord_changes (s := atLeast e s) stands (Record.stepped (max s.now e))
  have unsent := changes.unsent (offsetPart_of_ne kind) (.of_stands stands (offsetPart_of_ne kind)) law (changeRecord_unsent ..) rfl
  exact ⟨unsent.only (formEnvelope_envelopeLaw _), unsent.hl⟩

/-- R14: above 50 ms the release remaining is lowered and the timer starts again; else it is 0 and the timer stops. -/
theorem stepped_runs {n : Nat} (left : 50 < r.releaseLeft) : r.stepped n = { r with releaseLeft := r.releaseLeft - 50, stepAt := some (n + 50 * ms) } := by
  unfold Record.stepped
  dsimp only
  rw [if_pos (by omega)]
  rfl

theorem stepped_ends {n : Nat} (left : r.releaseLeft ≤ 50) : r.stepped n = { r with releaseLeft := 0, stepAt := none } := by
  unfold Record.stepped
  dsimp only
  rw [if_neg (by omega), Nat.sub_eq_zero_of_le left]

theorem checkRetire_stays (stands : s.recordAt i = some r) (runs : ¬ r.spent = true) : checkRetire i s = s := by
  unfold checkRetire
  rw [stands]
  exact if_neg runs

theorem checkRetire_spent (stands : s.recordAt i = some r) (spent : r.spent = true) : checkRetire i s = retire i s := by
  unfold checkRetire
  rw [stands]
  exact if_pos spent

/-- R17: a last step leaves a record that is no KNEEL and waits for no distance spent. -/
theorem stepped_spent {n : Nat} (kind : r.kind ≠ .kneel) (releasing : r.state = .releasing) (left : r.releaseLeft ≤ 50)
    (dist : r.distLeft = 0 ∨ r.steer = none) : (r.stepped n).spent = true := by
  rw [stepped_ends left, spent_iff]
  exact ⟨releasing, rfl, dist, .inl kind⟩

/-- Settles O22. -/
theorem recordTimers : Obligations.RecordTimers := by
  intro s i r e live stands kind
  refine ⟨fun releasing runs => ?_, fun armed runs parent => ?_⟩
  · rw [exec_releaseStep live stands releasing runs]
    have changes := stepped_changes stands e
    have now := stepped_now s i e
    refine ⟨fun long law => ?_, fun short dist parent => ?_, fun short far steer law => ?_⟩
    · rw [stepped_runs long] at changes
      obtain ⟨only, hl⟩ := stepped_only stands kind law e
      rw [checkRetire_stays changes.recordAt_self (Record.Runs.unspent (.inl (show 0 < r.releaseLeft - 50 by omega)))]
      exact ⟨_, rfl, now, only, hl, now ▸ changes⟩
    · have retires := retire_alone changes.recordAt_self parent fun k => absurd k kind
      rw [checkRetire_spent changes.recordAt_self (stepped_spent kind releasing short dist), retires]
      have table := freeSlot_table i (r.stepped (max s.now e)) (s.stepped i e)
      refine ⟨_, rfl, table.now.trans now, changes.frees (freeSlot_frees ..), ?_, freeSlot_envelopeLaw .., freeSlot_record ..⟩
      exact ((changeRecord_table i _ (atLeast e s)).trans (formEnvelope_table _)).trans table |>.blocks
    · rw [stepped_ends short] at changes
      rw [checkRetire_stays changes.recordAt_self (Record.Runs.unspent (.inr ⟨far, steer⟩))]
      exact ⟨_, rfl, now, (stepped_only stands kind law e).1, changes⟩
  · have stands' : (setFlag .recordTimeout (atLeast e s)).recordAt i = some r := stands
    rw [exec_armTimeout live stands armed runs, retire_alone stands' parent fun k => absurd k kind]
    have table := freeSlot_table i r (setFlag .recordTimeout (atLeast e s))
    exact ⟨_, rfl, table.now, freeSlot_frees i r (setFlag .recordTimeout (atLeast e s)), table.blocks, freeSlot_envelopeLaw .., freeSlot_record ..,
      (recordFlag_frame.freeSlot i r _).stays _ (by rw [setFlag_flag]; rfl)⟩

/-! ### A parent at its child's retirement (R18) -/

variable {h : Handle} {p : Record}

theorem FreesOnly.slot_ne (c : FreesOnly i s t) (other : j ≠ i) : t.rt.slots[j.val] = s.rt.slots[j.val] :=
  (c.slot j).trans (if_neg (Ne.symm other))

theorem FreesOnly.recordAt_ne (c : FreesOnly i s t) (other : j ≠ i) : t.recordAt j = s.recordAt j := congrArg SlotEntry.record (c.slot_ne other)

theorem FreesOnly.names (c : FreesOnly i s t) (other : h.slot ≠ i) : t.names h = s.names h := by
  unfold State.names
  rw [c.slot_ne other]

theorem FreesOnly.handleAt (c : FreesOnly i s t) (other : j ≠ i) : t.handleAt j = s.handleAt j := by
  unfold State.handleAt
  rw [c.slot_ne other]

/-- The retired record's parent has a child when another record names it. -/
theorem FreesOnly.hasChild (c : FreesOnly i s t) (named : s.names h = true) (other : h.slot ≠ i) :
    t.hasChild h.slot = true ↔ ∃ k q, k ≠ i ∧ s.recordAt k = some q ∧ q.parent = some h := by
  rw [hasChild_eq_true_iff, c.handleAt other, names_handle named]
  refine exists_congr fun k => exists_congr fun q => ?_
  by_cases here : k = i
  · subst here
    simp [c.recordAt k]
  · simp [c.recordAt_ne here, here]

theorem FreesOnly.otherKneel (c : FreesOnly i s t) (kind : ∀ r, s.recordAt i = some r → r.kind ≠ .kneel) (j : Slot) : t.otherKneel j = s.otherKneel j := by
  unfold State.otherKneel
  refine List.any_congr rfl fun k => ?_
  by_cases here : k = i
  · subst here
    rw [c.recordAt, if_pos rfl]
    cases stands : s.recordAt k with
    | none => rfl
    | some r => simp [kind r stands]
  · rw [c.recordAt_ne here]

theorem FreesOnly.condHolds (c : FreesOnly i s t) (dl : t.dl = s.dl) (configured : t.hl.configured = s.hl.configured)
    (kind : ∀ r, s.recordAt i = some r → r.kind ≠ .kneel) (j : Slot) (x : Cond) : condHolds t j p x = condHolds s j p x := by
  cases x with
  | ownerRelease => rfl
  | doorLocked d => simp only [Machine.condHolds, State.doorLocked, dl]
  | allDoorsLocked => simp only [Machine.condHolds, dl]
  | rampStowed => simp only [Machine.condHolds, dl]
  | configDone => exact configured
  | noKneel => exact congrArg (!·) (c.otherKneel kind j)

theorem retire_child (stands : s.recordAt i = some r) (kind : r.kind ≠ .kneel) (parent : r.parent = some h) (named : s.names h = true)
    (other : h.slot ≠ i) : retire i s = evalRecord h.slot (freeSlot i r s) := by
  have named' : (freeSlot i r s).names h = true := ((freeSlot_frees i r s).names other).trans named
  have one : dependants [] r (freeSlot i r s) = [h.slot] := by
    unfold dependants
    simp [parent, kind, named']
  unfold retire
  rw [stands]
  dsimp only
  rw [one]
  rfl

theorem evalRecord_unreleasable (stands : s.recordAt i = some r) (active : r.state = .active) (waits : releasable s i r = false) : evalRecord i s = s := by
  unfold evalRecord evalDepth evaluate
  simp [stands, active, waits]

/-- R18: the ACTIVE parent of a record that is gone stays while it waits, and else goes to RELEASING. -/
theorem parent_evaluated (c : FreesOnly i s t) (table : TableOnly s t) (law : t.EnvelopeLaw) (childKind : ∀ r, s.recordAt i = some r → r.kind ≠ .kneel)
    (named : s.names h = true) (other : h.slot ≠ i) (stands : s.recordAt h.slot = some p) (active : p.state = .active) (kind : p.kind ≠ .kneel)
    (lingers : p.Lingers) : (evalRecord h.slot t).EnvelopeLaw ∧ (evalRecord h.slot t).rt.changeCount = t.rt.changeCount ∧
    (∀ j : Slot, j ≠ h.slot → (evalRecord h.slot t).rt.slots[j.val] = t.rt.slots[j.val]) ∧
    ((∃ x ∈ p.conds, condHolds s h.slot p x = false) → (evalRecord h.slot t).recordAt h.slot = some p) ∧
    ((∃ k q, k ≠ i ∧ s.recordAt k = some q ∧ q.parent = some h) → (evalRecord h.slot t).recordAt h.slot = some p) ∧
    ((∀ x ∈ p.conds, condHolds s h.slot p x = true) → (∀ k q, k ≠ i → s.recordAt k = some q → q.parent ≠ some h) →
      (evalRecord h.slot t).recordAt h.slot = some (p.released t.now)) := by
  have stands' : t.recordAt h.slot = some p := (c.recordAt_ne other).trans stands
  have conds (x : Cond) : condHolds t h.slot p x = condHolds s h.slot p x := c.condHolds table.dl table.configured childKind h.slot x
  have child := c.hasChild named other
  cases leaves : releasable t h.slot p with
  | false =>
    rw [evalRecord_unreleasable stands' active leaves]
    refine ⟨law, rfl, fun _ _ => rfl, fun _ => stands', fun _ => stands', fun met none' => ?_⟩
    have every : p.conds.all (condHolds t h.slot p) = true := List.all_eq_true.mpr fun x member => (conds x).trans (met x member)
    have childless : t.hasChild h.slot = false := by
      rw [← Bool.not_eq_true, child]
      rintro ⟨k, q, apart, is, parent⟩
      exact none' k q apart is parent
    unfold releasable at leaves
    rw [every, childless] at leaves
    cases leaves
  | true =>
    have run : evalRecord h.slot t = enterReleasing h.slot p t := (evaluate_goes stands' kind active leaves [] 64).2.1 lingers
    have changes := enterReleasing_changes stands' kind
    rw [run]
    refine ⟨enterReleasing_envelopeLaw .., changes.2, fun j apart => (changes.slot j).trans (if_neg (Ne.symm apart)), ?_, ?_,
      fun _ _ => changes.recordAt_self⟩
    · rintro ⟨x, member, fails⟩
      cases leaves.symm.trans (releasable_false_of_cond member ((conds x).trans fails))
    · intro lives
      cases leaves.symm.trans (releasable_false_of_child (child.mpr lives))

/-! ### The loss of a lock (R12, R19) -/

section Lock

variable {d : Door}

/-- An evaluation leaves a record that a door holds back, but for one that is FOLLOWING and RELEASING. -/
theorem evaluate_held (stands : s.recordAt i = some r) (open' : (s.line d).door ≠ .locked)
    (lists : Cond.doorLocked d ∈ r.conds ∨ Cond.allDoorsLocked ∈ r.conds) (stays : r.state = .releasing → r.mode = .latched) (forced : List Slot)
    (n : Nat) : evaluate forced n i s = s := by
  obtain ⟨x, member, -, fails⟩ := waits_for_door open' lists
  cases n with
  | zero => rfl
  | succ n =>
    unfold evaluate
    rw [stands]
    dsimp only
    cases state : r.state with
    | armed => rfl
    | active => exact if_neg (by rw [releasable_false_of_cond member (fails i r)]; nofun)
    | releasing => exact if_neg (by rw [stays state]; nofun)

/-- R19: a FOLLOWING one returns to ACTIVE. -/
theorem evaluate_returns (stands : s.recordAt i = some r) (open' : (s.line d).door ≠ .locked)
    (lists : Cond.doorLocked d ∈ r.conds ∨ Cond.allDoorsLocked ∈ r.conds) (releasing : r.state = .releasing) (following : r.mode = .following)
    (forced : List Slot) (n : Nat) : (evaluate forced (n + 1) i s).recordAt i = some r.returned := by
  obtain ⟨x, member, other, fails⟩ := waits_for_door open' lists
  have goes : staysReleasing s i r = false := by
    refine List.all_eq_false.mpr ⟨x, member, ?_⟩
    rw [fails i r, Bool.or_false, beq_iff_eq]
    exact other
  unfold evaluate
  rw [stands]
  dsimp only
  rw [releasing]
  dsimp only
  rw [if_pos (by simp [following, goes])]
  exact returnActive_recordAt stands

/-- A record that a door holds back and that is not to return is left by every evaluation. -/
theorem evaluations_held (stands : s.recordAt i = some r) (open' : (s.line d).door ≠ .locked)
    (lists : Cond.doorLocked d ∈ r.conds ∨ Cond.allDoorsLocked ∈ r.conds) (stays : r.state = .releasing → r.mode = .latched) (xs : List Slot) :
    (xs.foldl (fun s j => evalRecord j s) s).recordAt i = some r := by
  refine foldl_evaluate_keeps_record (s := s) (Q := (· = some r)) (fun n x table here => ?_) (.refl s) stands xs
  have line : x.line d = s.line d := by rw [State.line, table.dl]; rfl
  rw [evaluate_held here (line ▸ open') lists stays]
  exact here

/-- One that is to return has returned when its turn among the evaluations is over. -/
theorem evaluations_returned (stands : s.recordAt i = some r) (open' : (s.line d).door ≠ .locked)
    (lists : Cond.doorLocked d ∈ r.conds ∨ Cond.allDoorsLocked ∈ r.conds) (releasing : r.state = .releasing) (following : r.mode = .following)
    {xs : List Slot} (member : i ∈ xs) : (xs.foldl (fun s j => evalRecord j s) s).recordAt i = some r.returned := by
  have line {x : State} (table : TableOnly s x) : (x.line d).door ≠ .locked := by
    rw [State.line, table.dl]
    exact open'
  have lists' : Cond.doorLocked d ∈ r.returned.conds ∨ Cond.allDoorsLocked ∈ r.returned.conds := lists
  obtain ⟨pre, post, rfl⟩ := List.append_of_mem member
  rw [List.foldl_append, List.foldl_cons]
  have table : TableOnly s (pre.foldl (fun s j => evalRecord j s) s) := foldl_rel TableOnly .refl .trans _ (fun x j => evalRecord_table j x) pre s
  have before : (pre.foldl (fun s j => evalRecord j s) s).recordAt i = some r ∨
      (pre.foldl (fun s j => evalRecord j s) s).recordAt i = some r.returned := by
    refine foldl_evaluate_keeps_record (s := s) (Q := fun x => x = some r ∨ x = some r.returned) (fun n x only here => ?_) (.refl s) (.inl stands) pre
    rcases here with here | here
    · cases n with
      | zero => exact .inl here
      | succ n => exact .inr (evaluate_returns here (line only) lists releasing following [] n)
    · rw [evaluate_held here (line only) lists' nofun]
      exact .inr here
  have turned : (evalRecord i (pre.foldl (fun s j => evalRecord j s) s)).recordAt i = some r.returned := by
    rcases before with here | here
    · exact evaluate_returns here (line table) lists releasing following [] 64
    · have held : evalRecord i _ = _ := evaluate_held here (line table) lists' nofun [] evalDepth
      rw [held]
      exact here
  exact evaluations_held turned (line (table.trans (evalRecord_table i _))) lists' nofun post

theorem mem_listing {p : Cond → Bool} {x : Cond} (stands : s.recordAt i = some r) (member : x ∈ r.conds) (picks : p x = true) : i ∈ listing s p := by
  refine List.mem_filter.mpr ⟨List.mem_finRange i, ?_⟩
  rw [stands]
  exact List.any_eq_true.mpr ⟨x, member, picks⟩

/-- The part as a door becomes UNKNOWN, before the records that look at it are evaluated. -/
def State.unknowing (s : State) (d : Door) : State := setFlag .door (changeLine d (fun l => { l with door := .unknown }) s)

theorem unknowing_door (s : State) (d : Door) : ((s.unknowing d).line d).door ≠ .locked := by
  have line : (s.unknowing d).line d = _ := upd_get_self ..
  rw [line]
  nofun

theorem setDoor_unknown (known : (s.line d).door ≠ .unknown) :
    setDoor d .unknown s = evalInhibit (evalListing (fun c => c == .doorLocked d || c == .allDoorsLocked) (s.unknowing d)) := if_neg known

/-- The loss of door 2's ramp returns no record that a door holds back. -/
theorem rampLost_held (stands : s.recordAt i = some r) (open' : (s.line d).door ≠ .locked)
    (lists : Cond.doorLocked d ∈ r.conds ∨ Cond.allDoorsLocked ∈ r.conds) (stays : r.state = .releasing → r.mode = .latched) (b : Door) :
    (s.rampLost b).recordAt i = some r := by
  unfold State.rampLost setRamp
  split
  · split
    · exact stands
    · exact evaluations_held (s := setFlag .door { s with dl := { s.dl with ramp := .unknown } }) stands open' lists stays _
  · exact stands

/-- What the loss of a LOCKED door's line makes of a record that looks at the door. -/
theorem lossTimerExpiry_held (live : s.resetHeld = false) (runs : (s.line d).loss = .running e) (locked : (s.line d).door = .locked)
    (stands : s.recordAt i = some r) (lists : Cond.doorLocked d ∈ r.conds ∨ Cond.allDoorsLocked ∈ r.conds) :
    ∃ t, exec (.lossTimerExpiry d) s = .next t ∧
      t.recordAt i = some (if r.state = .releasing ∧ r.mode = .following then r.returned else r) := by
  refine ⟨_, exec_lossTimerExpiry live runs, ?_⟩
  have known : ((s.losing d e).line d).door ≠ .unknown := by
    have same : ((s.losing d e).line d).door = (s.line d).door := (congrArg Line.door ((losing_line s d d e).trans (if_pos rfl)) :)
    rw [same, locked]
    nofun
  rw [setDoor_unknown known]
  have open' := unknowing_door (s.losing d e) d
  have stands' : ((s.losing d e).unknowing d).recordAt i = some r := stands
  have table := evalListing_table (fun c => c == .doorLocked d || c == .allDoorsLocked) ((s.losing d e).unknowing d)
  have after : ((evalInhibit (evalListing (fun c => c == .doorLocked d || c == .allDoorsLocked) ((s.losing d e).unknowing d))).line d).door ≠ .locked := by
    have line : (evalListing (fun c => c == .doorLocked d || c == .allDoorsLocked) ((s.losing d e).unknowing d)).line d = ((s.losing d e).unknowing d).line d := by
      rw [State.line, table.dl]
      rfl
    exact line ▸ open'
  split
  · next both =>
    have member : i ∈ listing ((s.losing d e).unknowing d) (fun c => c == .doorLocked d || c == .allDoorsLocked) := by
      rcases lists with one | all
      · exact mem_listing stands' one (by simp)
      · exact mem_listing stands' all (by simp)
    have back : (evalInhibit (evalListing (fun c => c == .doorLocked d || c == .allDoorsLocked) ((s.losing d e).unknowing d))).recordAt i = some r.returned :=
      evaluations_returned stands' open' lists both.1 both.2 member
    exact rampLost_held back after (r := r.returned) lists nofun d
  · next other =>
    have stays : r.state = .releasing → r.mode = .latched := fun releasing => by
      cases mode : r.mode with
      | latched => rfl
      | following => exact absurd ⟨releasing, mode⟩ other
    have kept : (evalInhibit (evalListing (fun c => c == .doorLocked d || c == .allDoorsLocked) ((s.losing d e).unknowing d))).recordAt i = some r :=
      evaluations_held stands' open' lists stays _
    exact rampLost_held kept after lists stays d

end Lock

/-- A child that retires at its timer leaves its slot FREE, and its parent is evaluated (R11, R14, R18). -/
theorem child_retires {c : Instr} (live : s.resetHeld = false) (stands : s.recordAt i = some r) (kind : r.kind ≠ .kneel)
    (parent : r.parent = some h) (named : s.names h = true) (other : h.slot ≠ i)
    (timer : (c = .armTimeout i ∧ r.state = .armed ∧ r.armAt = some e) ∨
      (c = .releaseStep i ∧ r.state = .releasing ∧ r.stepAt = some e ∧ r.releaseLeft ≤ 50 ∧ (r.distLeft = 0 ∨ r.steer = none))) :
    ∃ t, exec c s = .next (evalRecord h.slot t) ∧ FreesOnly i (atLeast e s) t ∧ TableOnly (atLeast e s) t ∧ t.EnvelopeLaw := by
  rcases timer with ⟨rfl, armed, runs⟩ | ⟨rfl, releasing, runs, short, dist⟩
  · have stands' : (setFlag .recordTimeout (atLeast e s)).recordAt i = some r := stands
    rw [exec_armTimeout live stands armed runs, retire_child stands' kind parent named other]
    exact ⟨_, rfl, freeSlot_frees i r (setFlag .recordTimeout (atLeast e s)), (setFlag_table _ _).trans (freeSlot_table ..), freeSlot_envelopeLaw ..⟩
  · have changes := stepped_changes stands e
    have named' : (s.stepped i e).names h = true := by
      unfold State.names
      rw [changes.slot h.slot, if_neg (Ne.symm other)]
      exact named
    rw [exec_releaseStep live stands releasing runs, checkRetire_spent changes.recordAt_self (stepped_spent kind releasing short dist),
      retire_child changes.recordAt_self kind parent named' other]
    exact ⟨_, rfl, changes.frees (freeSlot_frees ..), ((changeRecord_table i _ (atLeast e s)).trans (formEnvelope_table _)).trans (freeSlot_table ..),
      freeSlot_envelopeLaw ..⟩

/-- Settles O23. -/
theorem conditionsAndParents : Obligations.ConditionsAndParents := by
  refine ⟨fun s d i r e live runs locked stands releasing lists => ?_, fun s d i r e live runs stands active lists locked => ?_,
    fun s c i r h p e live stands kind parent named stands' active kind' lingers timer => ?_⟩
  · obtain ⟨t, run, left⟩ := lossTimerExpiry_held live runs locked stands lists
    refine ⟨t, run, left.trans (congrArg some ?_)⟩
    cases mode : r.mode with
    | following => exact if_pos ⟨releasing, rfl⟩
    | latched => exact if_neg fun both => by cases both.2
  · obtain ⟨t, run, left⟩ := lossTimerExpiry_held live runs locked stands lists
    exact ⟨t, run, left.trans (congrArg some (if_neg fun both => by cases active.symm.trans both.1))⟩
  · have other : h.slot ≠ i := by
      rintro rfl
      cases stands.symm.trans stands'
      rcases timer with ⟨-, armed, -⟩ | ⟨-, releasing, -⟩
      · cases active.symm.trans armed
      · cases active.symm.trans releasing
    obtain ⟨t, run, frees, table, law⟩ := child_retires live stands kind parent named other timer
    have childKind : ∀ q, (atLeast e s).recordAt i = some q → q.kind ≠ .kneel := fun q hq => by
      cases stands.symm.trans hq
      exact kind
    have own := parent_evaluated frees table law childKind named other stands' active kind' lingers
    obtain ⟨law', count, slots, fails, lives, goes⟩ := own
    have table' := table.trans (evalRecord_table h.slot t)
    refine ⟨_, run, table'.now, table'.blocks, law', ?_, count.trans frees.2, fun j apart apart' => (slots j apart').trans (frees.slot_ne apart),
      fails, lives, fun met none' => ?_⟩
    · rw [slots i (Ne.symm other), frees.slot i, if_pos rfl]
      rfl
    · rw [table'.now, ← table.now]
      exact goes met none'

end Sys2Proof.Machine
end

section
/-! PROOFS. RETIRE_FORCE (O21): the records of the set go one after another, each in its slot alone (R22). -/

namespace Sys2Proof.Machine

variable {s t : State} {i j k : Slot} {r q : Record} {set done : List Slot} {f : HostFrame} {o : HostOwner} {a b : Byte}

/-! ### One record of the set -/

/-- No record of the set is evaluated at the retirement of its child (R22). -/
theorem dependants_covered (kind : r.kind ≠ .kneel) (covered : ∀ h, r.parent = some h → h.slot ∈ set) (s : State) : dependants set r s = [] := by
  unfold dependants
  rw [if_neg kind, List.append_nil]
  cases parent : r.parent with
  | none => rfl
  | some h =>
    dsimp only
    split
    · next named => simp [covered h parent, names_handle named]
    · rfl

theorem forceOne_frees (stands : s.recordAt j = some r) (kind : r.kind ≠ .kneel) (covered : ∀ h, r.parent = some h → h.slot ∈ set) :
    forceOne set j s = freeSlot j r s := by
  unfold forceOne
  rw [stands]
  dsimp only
  rw [dependants_covered kind covered]
  rfl

theorem freeSlot_service (i : Slot) (r : Record) (s : State) :
    (freeSlot i r s).hl.service = true ↔ s.hl.service = true ∧ r.kind ≠ .serviceLock := by
  have formed : (freeSlot i r s).hl = (endService r.kind (setFlag .record (vacate i (leaveRising (s.handleAt i) s)))).hl := formEnvelope_hl _
  rw [formed]
  unfold endService
  split
  · next lock => simp [lock]
  · next other => exact ⟨fun on => ⟨on, other⟩, And.left⟩

/-! ### The set so far -/

/-- The records of the slots in `done` have retired, one after another, and nothing else has become of the table. -/
structure Forced (done : List Slot) (s t : State) : Prop where
  slot    : ∀ j : Slot, t.rt.slots[j.val] = if j ∈ done then ⟨s.rt.slots[j.val].gen + 1, none⟩ else s.rt.slots[j.val]
  count   : t.rt.changeCount = s.rt.changeCount + BitVec.ofNat 16 done.length
  table   : TableOnly s t
  service : t.hl.service = true ↔ s.hl.service = true ∧ ∀ j ∈ done, ∀ q, s.recordAt j = some q → q.kind ≠ .serviceLock
  record  : done ≠ [] → t.flag .record = true
  law     : done ≠ [] ∨ s.EnvelopeLaw → t.EnvelopeLaw
  valves  : s.EnvelopeLaw → t.valves = s.valves

theorem Forced.start (s : State) : Forced [] s s := by
  refine ⟨fun j => by simp, by simp, .refl s, by simp, fun some' => absurd rfl some', fun law => law.resolve_left (not_not_intro rfl), fun _ => rfl⟩

theorem Forced.recordAt (h : Forced done s t) (new : j ∉ done) : t.recordAt j = s.recordAt j := by
  rw [State.recordAt, h.slot, if_neg new]
  rfl

theorem Forced.next (h : Forced done s t) (new : j ∉ done) (stands : s.recordAt j = some r) (kind : r.kind ≠ .kneel)
    (covered : ∀ h, r.parent = some h → h.slot ∈ set) : Forced (done ++ [j]) s (forceOne set j t) := by
  have stands' : t.recordAt j = some r := (h.recordAt new).trans stands
  have frees := freeSlot_frees j r t
  have gen : t.rt.slots[j.val] = s.rt.slots[j.val] := (h.slot j).trans (if_neg new)
  rw [forceOne_frees stands' kind covered]
  refine ⟨fun k => ?_, ?_, h.table.trans (freeSlot_table ..), ?_, fun _ => freeSlot_record .., fun _ => freeSlot_envelopeLaw .., fun law => ?_⟩
  · rw [frees.slot k]
    by_cases here : j = k
    · subst here
      rw [if_pos rfl, if_pos (by simp), gen]
    · rw [if_neg here, h.slot k]
      simp [Ne.symm here]
  · rw [frees.2, h.count, List.length_append, BitVec.add_assoc]
    congr 1
    simp [BitVec.ofNat_add]
  · rw [freeSlot_service, h.service, and_assoc, List.forall_mem_append, List.forall_mem_singleton]
    refine and_congr_right fun _ => and_congr_right fun _ => ⟨fun other q is => ?_, fun all => all r stands⟩
    cases stands.symm.trans is
    exact other
  · rw [(freeSlot_lc (.of_stands stands' (offsetPart_of_ne kind)) (h.law (.inr law)) r).2, h.valves law]

/-- The records of a list retire by force in turn. -/
theorem Forced.all : ∀ (xs : List Slot) {done : List Slot} {t : State}, Forced done s t → (done ++ xs).Nodup →
    (∀ j ∈ xs, ∃ r, s.recordAt j = some r ∧ r.kind ≠ .kneel ∧ ∀ h, r.parent = some h → h.slot ∈ set) →
    Forced (done ++ xs) s (xs.foldl (fun s j => forceOne set j s) t)
  | [], done, t, h, _, _ => by simpa using h
  | x :: xs, done, t, h, nodup, each => by
    obtain ⟨r, stands, kind, covered⟩ := each x List.mem_cons_self
    have new : x ∉ done := fun old => (List.nodup_append.mp nodup).2.2 x old x List.mem_cons_self rfl
    have first := h.next new stands kind covered
    have rest := Forced.all xs first (by simpa using nodup) fun j member => each j (List.mem_cons_of_mem _ member)
    simpa using rest

/-! ### The generations of a record with no parent (R9, R22) -/

theorem childOf_iff : s.childOf j i = true ↔ j ∈ childrenOf s i := by
  rw [mem_childrenOf]
  unfold State.childOf
  cases s.recordAt j <;> simp

/-- A record has one parent. -/
theorem child_slot (child : j ∈ childrenOf s i) (child' : j ∈ childrenOf s k) : i = k := by
  obtain ⟨r, stands, parent⟩ := mem_childrenOf.mp child
  obtain ⟨r', stands', parent'⟩ := mem_childrenOf.mp child'
  cases stands.symm.trans stands'
  exact congrArg Handle.slot (Option.some.inj (parent.symm.trans parent'))

/-- The grandchildren of a record. -/
def grandchildrenOf (s : State) (i : Slot) : List Slot := allSlots.filter fun j => (childrenOf s i).any fun p => (childrenOf s p).contains j

/-- Its great-grandchildren. -/
def greatOf (s : State) (i : Slot) : List Slot := allSlots.filter fun j => (grandchildrenOf s i).any fun p => (childrenOf s p).contains j

theorem descendantsOf_eq (s : State) (i : Slot) : descendantsOf s i = greatOf s i ++ grandchildrenOf s i ++ childrenOf s i := rfl

theorem mem_grandchildrenOf : j ∈ grandchildrenOf s i ↔ ∃ p ∈ childrenOf s i, j ∈ childrenOf s p := by simp [grandchildrenOf, allSlots]

theorem mem_greatOf : j ∈ greatOf s i ↔ ∃ p ∈ grandchildrenOf s i, j ∈ childrenOf s p := by simp [greatOf, allSlots]

/-- The set of a force, the named record last. -/
def forcedSet (s : State) (i : Slot) : List Slot := descendantsOf s i ++ [i]

theorem mem_generations : j ∈ forcedSet s i ↔ ((j ∈ greatOf s i ∨ j ∈ grandchildrenOf s i) ∨ j ∈ childrenOf s i) ∨ j = i := by
  rw [forcedSet, descendantsOf_eq]
  simp only [List.mem_append, List.mem_singleton]

theorem mem_forcedSet : j ∈ forcedSet s i ↔ s.under i j = true := by
  have every : s.under i j = true ↔ j = i ∨ j ∈ childrenOf s i ∨
      ∃ a ∈ childrenOf s i, j ∈ childrenOf s a ∨ ∃ b ∈ childrenOf s a, j ∈ childrenOf s b := by
    simp only [State.under, Bool.or_eq_true, beq_iff_eq, List.any_eq_true, Bool.and_eq_true, childOf_iff, allSlots, List.mem_finRange, true_and, or_assoc]
  rw [every, mem_generations]
  simp only [mem_greatOf, mem_grandchildrenOf]
  constructor
  · rintro (((⟨b, ⟨a, ha, hb⟩, hj⟩ | ⟨a, ha, hj⟩) | hj) | rfl)
    · exact .inr (.inr ⟨a, ha, .inr ⟨b, hb, hj⟩⟩)
    · exact .inr (.inr ⟨a, ha, .inl hj⟩)
    · exact .inr (.inl hj)
    · exact .inl rfl
  · rintro (rfl | hj | ⟨a, ha, hj | ⟨b, hb, hj⟩⟩)
    · exact .inr rfl
    · exact .inl (.inr hj)
    · exact .inl (.inl (.inr ⟨a, ha, hj⟩))
    · exact .inl (.inl (.inl ⟨b, ⟨a, ha, hb⟩, hj⟩))

section Generations

variable (stands : s.recordAt i = some r) (parent : r.parent = none)

include stands parent

theorem root_not_child : i ∉ childrenOf s k := by
  intro child
  obtain ⟨q, stands', named⟩ := mem_childrenOf.mp child
  cases stands.symm.trans stands'
  cases parent.symm.trans named

theorem child_not_grandchild (child : j ∈ childrenOf s i) : j ∉ grandchildrenOf s i := by
  intro grand
  obtain ⟨p, child', below⟩ := mem_grandchildrenOf.mp grand
  rw [← child_slot child below] at child'
  exact root_not_child stands parent child'

theorem not_great_of (near : j ∈ childrenOf s i ∨ j ∈ grandchildrenOf s i) : j ∉ greatOf s i := by
  intro great
  obtain ⟨p, grand, below⟩ := mem_greatOf.mp great
  rcases near with child | grand'
  · rw [← child_slot child below] at grand
    obtain ⟨q, _, self⟩ := mem_grandchildrenOf.mp grand
    exact root_not_child stands parent self
  · obtain ⟨q, child, below'⟩ := mem_grandchildrenOf.mp grand'
    rw [child_slot below' below] at child
    exact child_not_grandchild stands parent child grand

/-- No slot stands twice in the set. -/
theorem forcedSet_nodup : (forcedSet s i).Nodup := by
  have slots : allSlots.Nodup := List.nodup_finRange 32
  rw [forcedSet, descendantsOf_eq]
  refine List.nodup_append.mpr ⟨List.nodup_append.mpr ⟨List.nodup_append.mpr ⟨slots.filter _, slots.filter _, ?_⟩, slots.filter _, ?_⟩, by simp, ?_⟩
  · rintro x great y grand rfl
    exact not_great_of stands parent (.inr grand) great
  · rintro x above y child rfl
    rcases List.mem_append.mp above with great | grand
    · exact not_great_of stands parent (.inl child) great
    · exact child_not_grandchild stands parent child grand
  · rintro x below y self rfl
    obtain rfl := List.mem_singleton.mp self
    rcases List.mem_append.mp below with far | child
    · rcases List.mem_append.mp far with great | grand
      · obtain ⟨p, _, child⟩ := mem_greatOf.mp great
        exact root_not_child stands parent child
      · obtain ⟨p, _, child⟩ := mem_grandchildrenOf.mp grand
        exact root_not_child stands parent child
    · exact root_not_child stands parent child

/-- Every record of the set but the named one has its parent in the set. -/
theorem forcedSet_covered (member : j ∈ forcedSet s i) : ∃ q, s.recordAt j = some q ∧ ∀ h, q.parent = some h → h.slot ∈ forcedSet s i := by
  have of_child {p : Slot} (child : j ∈ childrenOf s p) (above : p ∈ forcedSet s i) :
      ∃ q, s.recordAt j = some q ∧ ∀ h, q.parent = some h → h.slot ∈ forcedSet s i := by
    obtain ⟨q, stands', named⟩ := mem_childrenOf.mp child
    refine ⟨q, stands', fun h is => ?_⟩
    cases named.symm.trans is
    exact above
  rcases mem_generations.mp member with ((great | grand) | child) | rfl
  · obtain ⟨p, grand, below⟩ := mem_greatOf.mp great
    exact of_child below (mem_generations.mpr (.inl (.inl (.inr grand))))
  · obtain ⟨p, child, below⟩ := mem_grandchildrenOf.mp grand
    exact of_child below (mem_generations.mpr (.inl (.inr child)))
  · exact of_child child (mem_generations.mpr (.inr rfl))
  · exact ⟨r, stands, fun h named => by cases parent.symm.trans named⟩

end Generations

/-! ### The request -/

theorem exec_retireForce (live : s.resetHeld = false) (owner : FrameOwner f o) (payload : f.payload = [a, b]) :
    exec (.retireForce f) s = .next (bodyRetireForce o [a, b] (s.taking f)) := by
  have fits : f.payload.length ≤ 26 := by rw [payload]; exact Nat.le_of_ble_eq_true rfl
  rw [exec_taken (c := .retireForce f) rfl rfl live fits owner rfl, payload]

/-- R22: a forced retirement of a record with no parent, among no KNEEL. -/
theorem forceRetire_forced (stands : s.recordAt i = some r) (parent : r.parent = none)
    (kinds : ∀ j q, s.under i j = true → s.recordAt j = some q → q.kind ≠ .kneel) : Forced (forcedSet s i) s (forceRetire i s) := by
  have all := Forced.all (set := forcedSet s i) (forcedSet s i) (Forced.start s) (forcedSet_nodup stands parent) fun j member => by
    obtain ⟨q, stands', covered⟩ := forcedSet_covered stands parent member
    exact ⟨q, stands', kinds j q (mem_forcedSet.mp member) stands', covered⟩
  exact all

theorem forcedSet_length (stands : s.recordAt i = some r) (parent : r.parent = none) :
    (forcedSet s i).length = (allSlots.filter (s.under i)).length := by
  have slots : allSlots.Nodup := List.nodup_finRange 32
  refine List.Perm.length_eq ((List.perm_ext_iff_of_nodup (forcedSet_nodup stands parent) (slots.filter _)).mpr fun j => ?_)
  rw [mem_forcedSet]
  simp [allSlots]

theorem bodyRetireForce_named (mode : s.hl.service = true) (names : named s a b = some (i, r)) : bodyRetireForce .depot [a, b] s =
    if r.owner = .joint ∨ r.owner = .plaus then refuse 0x07 .notOwner s else answer 0x07 .ok [] (forceRetire i s) := by
  unfold bodyRetireForce
  simp only [names, mode]
  cases r.owner <;> rfl

/-- Settles O21. -/
theorem retireForceRequest : Obligations.RetireForceRequest := by
  intro s f o a b live owner payload
  rw [exec_retireForce live owner payload]
  refine ⟨fun other => ?_, fun depot run => ?_, fun depot mode stale => ?_, fun i r depot mode names => ?_⟩
  · unfold bodyRetireForce
    exact congrArg Host.Outcome.next (if_pos other)
  · subst depot
    have run' : (s.taking f).hl.service = false := run
    unfold bodyRetireForce
    simp only [run']
    rfl
  · subst depot
    have mode' : (s.taking f).hl.service = true := mode
    have stale' : named (s.taking f) a b = none := stale
    unfold bodyRetireForce
    simp only [mode', stale']
    rfl
  · subst depot
    have names' : named (s.taking f) a b = some (i, r) := names
    have stands := named_stands names'
    rw [bodyRetireForce_named (s := s.taking f) (a := a) (b := b) (i := i) (r := r) mode names]
    refine ⟨fun internal => ?_, fun notJoint notPlaus parent kinds => ?_⟩
    · rw [if_pos internal]
      rfl
    · rw [if_neg (not_or_intro notJoint notPlaus)]
      have forced := forceRetire_forced (s := s.taking f) stands parent kinds
      have member (j : Slot) : j ∈ forcedSet (s.taking f) i ↔ s.under i j = true := mem_forcedSet
      have some' : forcedSet (s.taking f) i ≠ [] := by simp [forcedSet]
      have length : (forcedSet (s.taking f) i).length = _ := forcedSet_length stands parent
      refine ⟨_, rfl, rfl, fun j => (forced.slot j).trans (if_congr (member j) rfl rfl), forced.count.trans ?_, forced.table.blocks,
        forced.law (.inl some'), forced.record some', forced.service.trans ?_, forced.valves⟩
      · rw [length]
        rfl
      · refine (and_iff_right mode).trans (forall_congr' fun j => ?_)
        rw [member]
        exact forall_comm

end Sys2Proof.Machine
end

section
/-! PROOFS. AMEND (O19): the changes of a record, what becomes of an amended record, and batches (R23 to R25). -/

namespace Sys2Proof.Machine

variable {s t : State} {i : Slot} {r q : Record} {c : Change} {x : Cond} {f : HostFrame} {o : HostOwner} {w : Owner} {e : AmendEntry}

/-! ### The changes (R23) -/

/-- A change leaves a record its kind, its owner, its state and its place in the table. -/
structure Record.Amended (r q : Record) : Prop where
  kind         : q.kind = r.kind
  owner        : q.owner = r.owner
  state        : q.state = r.state
  mode         : q.mode = r.mode
  parent       : q.parent = r.parent
  ownerRelease : q.ownerRelease = r.ownerRelease

theorem apply_amended (c : Change) (r : Record) : r.Amended (c.apply r) := by
  unfold Change.apply
  split
  all_goals exact ⟨rfl, rfl, rfl, rfl, rfl, rfl⟩

theorem changes_accepted (r : Record) :
    (∀ v, (Change.floor v).accepted r = r.floor.isSome ∧
      (Change.floor v).apply r = { r with floor := some (clamp v 0 800).toNat }) ∧
    (∀ v, (Change.ceiling v).accepted r = r.ceiling.isSome ∧
      (Change.ceiling v).apply r = { r with ceiling := some (clamp v 0 800).toNat }) ∧
    (∀ v, (Change.steer v).accepted r = r.steer.isSome ∧
      (Change.steer v).apply r = { r with steer := some (clamp v 0 140).toNat }) ∧
    (∀ v, (Change.offset v).accepted r = r.offset.isSome ∧
      (Change.offset v).apply r = { r with offset := some (clamp v (-90) 0) }) ∧
    (∀ v n, n = (clamp v 0 5000).toNat → (Change.delay v).accepted r = true ∧
      (Change.delay v).apply r = { r with
        delay := n, releaseLeft := if r.state = .releasing then min r.releaseLeft n else r.releaseLeft }) ∧
    (∀ v n, n = (clamp v 0 300).toNat → (Change.swing v).accepted r = r.swing.isSome ∧
      (Change.swing v).apply r = { r with
        swing := some n, distLeft := if r.state = .releasing then min r.distLeft (100 * n) else r.distLeft }) ∧
    (∀ x, (Change.scope x).accepted r = true ∧ (Change.scope x).apply r = { r with scope := x }) ∧
    (∀ c, ((Change.add (some c)).accepted r = true ↔ c ∈ r.conds ∨ r.conds.length < 4) ∧
      (Change.add (some c)).apply r = { r with conds := if c ∈ r.conds then r.conds else r.conds ++ [c] }) ∧
    (∀ c, ((Change.remove (some c)).accepted r = true ↔ c ∈ r.conds) ∧
      (Change.remove (some c)).apply r = { r with conds := r.conds.filter fun x => decide (x ≠ c) }) ∧
    (Change.add none).accepted r = false ∧ (Change.remove none).accepted r = false ∧ Change.unknown.accepted r = false := by
  refine ⟨fun _ => ⟨rfl, rfl⟩, fun _ => ⟨rfl, rfl⟩, fun _ => ⟨rfl, rfl⟩, fun _ => ⟨rfl, rfl⟩, ?_, ?_, fun _ => ⟨rfl, rfl⟩, fun c => ⟨?_, ?_⟩,
    fun c => ⟨?_, ?_⟩, rfl, rfl, rfl⟩
  · rintro v n rfl
    exact ⟨rfl, rfl⟩
  · rintro v n rfl
    refine ⟨rfl, ?_⟩
    rw [Nat.mul_comm]
    rfl
  · simp [Change.accepted]
  · simp [Change.apply]
  · simp [Change.accepted]
  · simp [Change.apply, bne, Bool.beq_eq_decide_eq]

/-! ### One amended record (R24) -/

/-- The part with a record amended and the envelope formed. -/
def State.amended (s : State) (i : Slot) (c : Change) : State := formEnvelope (changeRecord i (fun q => c.apply q) s)

theorem amended_changes (stands : s.recordAt i = some r) (c : Change) : ChangesOnly i (c.apply r) s (s.amended i c) :=
  (changeRecord_changes stands _).of_rt (formEnvelope_rt _)

theorem amended_table (s : State) (i : Slot) (c : Change) : TableOnly s (s.amended i c) := (changeRecord_table i _ s).trans (formEnvelope_table _)

theorem amended_envelopeLaw (s : State) (i : Slot) (c : Change) : (s.amended i c).EnvelopeLaw := formEnvelope_envelopeLaw _

theorem amended_hasChild (s : State) (i : Slot) (c : Change) : (s.amended i c).hasChild i = s.hasChild i := by
  have formed : (s.amended i c).hasChild i = (changeRecord i (fun q => c.apply q) s).hasChild i := by
    unfold State.amended State.hasChild State.handleAt
    rw [formEnvelope_rt]
  rw [formed]
  exact changeRecord_hasChild (fun q => (apply_amended c q).parent) i i s

/-- A change of one record leaves the conditions of that slot as they are, but for OWNER_RELEASE, which is the record's own. -/
theorem ChangesOnly.condHolds (h : ChangesOnly i q s t) (table : TableOnly s t) {p p' : Record} (same : p'.ownerRelease = p.ownerRelease) (x : Cond) :
    condHolds t i p' x = condHolds s i p x := by
  by_cases own : x = .ownerRelease
  · subst own
    exact same
  · exact condHolds_congr table.dl table.configured (fun j other => h.recordAt_ne (Ne.symm other)) own

theorem amendRecord_active (active : r.state = .active) (c : Change) (s : State) : amendRecord i r c s = evalRecord i (s.amended i c) := by
  unfold amendRecord
  simp only [active]
  rfl

theorem amendRecord_armed (armed : r.state = .armed) (c : Change) (s : State) : amendRecord i r c s = s.amended i c := by
  unfold amendRecord
  simp only [armed]
  rfl

/-- A RELEASING record that is no KNEEL is looked at again, but where a condition added to a FOLLOWING one fails. -/
theorem amendRecord_releasing (releasing : r.state = .releasing) (kind : r.kind ≠ .kneel) (c : Change) (s : State) :
    amendRecord i r c s = if c.addsFailing s i r && r.mode = .following then evalRecord i (returnActive i (s.amended i c))
      else checkRetire i (s.amended i c) := by
  have silent : noticeRising i (c.apply r) (s.amended i c) = s.amended i c := by
    unfold noticeRising
    rw [if_pos (by simp [(apply_amended c r).kind, kind])]
  unfold amendRecord
  simp only [releasing]
  change (if _ then evalRecord i (returnActive i (if c.isScope then noticeRising i (c.apply r) (s.amended i c) else s.amended i c))
    else checkRetire i (if c.isScope then noticeRising i (c.apply r) (s.amended i c) else s.amended i c)) = _
  rw [silent, ite_self]

theorem addsFailing_iff : c.addsFailing s i r = true ↔ ∃ x, c = .add (some x) ∧ x ∉ r.conds ∧ condHolds s i r x = false := by
  unfold Change.addsFailing
  split
  · simp
  · next other =>
    refine ⟨nofun, ?_⟩
    rintro ⟨x, rfl, -⟩
    exact absurd rfl (other x)

/-! ### What becomes of an amended record that is no KNEEL (R24) -/

theorem checkRetire_envelopeLaw (i : Slot) (law : s.EnvelopeLaw) : (checkRetire i s).EnvelopeLaw := by
  unfold checkRetire retire
  split
  · split
    · split
      · exact law
      · exact foldl_evaluate_envelopeLaw (s := freeSlot i _ s) _ _ _ (freeSlot_envelopeLaw ..)
    · exact law
  · exact law

theorem amendRecord_envelopeLaw (kind : r.kind ≠ .kneel) (c : Change) (s : State) : (amendRecord i r c s).EnvelopeLaw := by
  have law := amended_envelopeLaw s i c
  cases state : r.state with
  | armed => rw [amendRecord_armed state]; exact law
  | active => rw [amendRecord_active state]; exact evaluate_envelopeLaw _ _ _ law
  | releasing =>
    rw [amendRecord_releasing state kind]
    split
    · exact evaluate_envelopeLaw _ _ _ (returnActive_envelopeLaw ..)
    · exact checkRetire_envelopeLaw i law

section Outcomes

variable (stands : s.recordAt i = some r)

include stands

/-- An ACTIVE record stays so while it waits. -/
theorem amendRecord_waits (active : r.state = .active) (waits : (∃ x ∈ (c.apply r).conds, condHolds s i (c.apply r) x = false) ∨ s.hasChild i = true) :
    amendRecord i r c s = s.amended i c := by
  have changes := amended_changes stands c
  rw [amendRecord_active active]
  refine evalRecord_unreleasable changes.recordAt_self ((apply_amended c r).state.trans active) ?_
  rcases waits with ⟨x, member, fails⟩ | child
  · exact releasable_false_of_cond member ((changes.condHolds (amended_table s i c) rfl x).trans fails)
  · exact releasable_false_of_child ((amended_hasChild s i c).trans child)

/-- It goes to RELEASING when the change leaves every condition holding. -/
theorem amendRecord_goes (kind : r.kind ≠ .kneel) (active : r.state = .active) (met : ∀ x ∈ (c.apply r).conds, condHolds s i (c.apply r) x = true)
    (childless : s.hasChild i = false) :
    ((c.apply r).Lingers → ChangesOnly i ((c.apply r).released s.now) s (amendRecord i r c s)) ∧
    (¬ (c.apply r).Lingers → r.parent = none → FreesOnly i s (amendRecord i r c s) ∧ (amendRecord i r c s).flag .record = true) := by
  have changes := amended_changes stands c
  have kept := apply_amended c r
  have kind' : (c.apply r).kind ≠ .kneel := by rw [kept.kind]; exact kind
  have every : (c.apply r).conds.all (condHolds (s.amended i c) i (c.apply r)) = true :=
    List.all_eq_true.mpr fun x member => (changes.condHolds (amended_table s i c) rfl x).trans (met x member)
  have leaves : releasable (s.amended i c) i (c.apply r) = true := by
    unfold releasable
    rw [every, amended_hasChild, childless]
    rfl
  obtain ⟨-, stays, goes⟩ := evaluate_goes changes.recordAt_self kind' (kept.state.trans active) leaves [] 64
  have enters := enterReleasing_changes changes.recordAt_self kind'
  rw [(amended_table s i c).now] at enters
  rw [amendRecord_active active]
  refine ⟨fun lingers => ?_, fun idle parent => ?_⟩
  · have stays : evalRecord i _ = _ := stays lingers
    rw [stays]
    exact changes.trans enters
  · have goes : evalRecord i _ = _ := goes idle (kept.parent.trans parent)
    rw [goes]
    exact ⟨(changes.trans enters).frees (freeSlot_frees ..), freeSlot_record ..⟩

/-- R24: a FOLLOWING record that is given a condition that fails returns to ACTIVE. -/
theorem amendRecord_returns (kind : r.kind ≠ .kneel) (releasing : r.state = .releasing) (following : r.mode = .following) (is : c = .add (some x))
    (new : x ∉ r.conds) (fails : condHolds s i r x = false) : ChangesOnly i (c.apply r).returned s (amendRecord i r c s) := by
  have changes := amended_changes stands c
  have adds : c.addsFailing s i r = true := addsFailing_iff.mpr ⟨x, is, new, fails⟩
  have back : ChangesOnly i (c.apply r).returned (s.amended i c) (returnActive i (s.amended i c)) :=
    (changeRecord_changes changes.recordAt_self Record.reactivate).of_rt (formEnvelope_rt _)
  have whole := changes.trans back
  have member : x ∈ (c.apply r).returned.conds := by
    rw [is]
    simp [Change.apply, Record.returned, new]
  have waits : releasable (returnActive i (s.amended i c)) i (c.apply r).returned = false :=
    releasable_false_of_cond member ((whole.condHolds ((amended_table s i c).trans (returnActive_table ..)) (apply_amended c r).ownerRelease x).trans fails)
  rw [amendRecord_releasing releasing kind, if_pos (by rw [adds]; simpa using following), evalRecord_unreleasable back.recordAt_self rfl waits]
  exact whole

/-- Any other RELEASING one retires when it has nothing left to run. -/
theorem amendRecord_checks (kind : r.kind ≠ .kneel) (releasing : r.state = .releasing)
    (holds : ∀ x, r.mode = .following → c = .add (some x) → x ∈ r.conds ∨ condHolds s i r x = true) :
    ((c.apply r).releaseLeft = 0 → (c.apply r).distLeft = 0 ∨ (c.apply r).steer = none → r.parent = none →
      FreesOnly i s (amendRecord i r c s) ∧ (amendRecord i r c s).flag .record = true) ∧
    ((c.apply r).Runs → ChangesOnly i (c.apply r) s (amendRecord i r c s)) := by
  have changes := amended_changes stands c
  have kept := apply_amended c r
  have checks : ¬ (c.addsFailing s i r && r.mode = .following) = true := by
    rw [Bool.and_eq_true, decide_eq_true_iff, addsFailing_iff]
    rintro ⟨⟨x, is, new, fails⟩, following⟩
    rcases holds x following is with old | met
    · exact new old
    · cases fails.symm.trans met
  have kind' : (c.apply r).kind ≠ .kneel := by rw [kept.kind]; exact kind
  rw [amendRecord_releasing releasing kind, if_neg checks]
  refine ⟨fun step dist parent => ?_, fun runs => ?_⟩
  · rw [checkRetire_spent changes.recordAt_self (spent_iff.mpr ⟨kept.state.trans releasing, step, dist, .inl kind'⟩),
      retire_alone changes.recordAt_self (kept.parent.trans parent) fun k => absurd k kind']
    exact ⟨changes.frees (freeSlot_frees ..), freeSlot_record ..⟩
  · rw [checkRetire_stays changes.recordAt_self runs.unspent]
    exact changes

end Outcomes

/-! ### One entry of a batch (R23) -/

theorem amendOne_takes {h : Handle} (handle : e.handle = some h) (names : s.names h = true) (stands : s.recordAt h.slot = some r) (own : r.owner = w)
    (accepted : e.change.accepted r = true) :
    amendOne w e.handle e.change s = (if e.change.clamped then .clamped else .ok, amendRecord h.slot r e.change s) := by
  unfold amendOne
  simp [handle, names, stands, own, accepted]

/-- A refused entry changes nothing. -/
theorem amendOne_refused {st : Status} (refused : e.Refused w s.rt.slots st) : amendOne w e.handle e.change s = (st, s) := by
  unfold amendOne
  rcases refused with ⟨rfl, stale⟩ | ⟨h, r, handle, slot, ⟨rfl, other⟩ | ⟨rfl, own, bad⟩⟩
  · cases handle : e.handle with
    | none => rfl
    | some h =>
      have names : s.names h = false := by
        unfold State.names
        rw [Bool.and_eq_false_iff]
        by_cases gen : s.rt.slots[h.slot.val].gen = h.gen
        · rw [stale h handle gen]
          exact .inr rfl
        · exact .inl (beq_false_of_ne gen)
      simp [names]
  · have names : s.names h = true := by simp [State.names, slot]
    have stands : s.recordAt h.slot = some r := congrArg SlotEntry.record slot
    simp [handle, names, stands, other]
  · have names : s.names h = true := by simp [State.names, slot]
    have stands : s.recordAt h.slot = some r := congrArg SlotEntry.record slot
    simp [handle, names, stands, own, bad]

/-- A steady entry changes its record in the table and no more. -/
theorem amendOne_steady (steady : e.Steady w s.rt.slots) : ∃ t, amendOne w e.handle e.change s = (if e.change.clamped then .clamped else .ok, t) ∧
    e.change ≠ .unknown ∧ t.rt = { s.rt with slots := e.put s.rt.slots } ∧ TableOnly s t ∧ t.EnvelopeLaw := by
  obtain ⟨h, r, handle, slot, own, accepted, state⟩ := steady
  have names : s.names h = true := by simp [State.names, slot]
  have stands : s.recordAt h.slot = some r := congrArg SlotEntry.record slot
  have known : e.change ≠ .unknown := fun unknown => by
    rw [unknown] at accepted
    cases accepted
  have stays : amendRecord h.slot r e.change s = s.amended h.slot e.change := by
    rcases state with armed | ⟨active, untold, lists⟩
    · exact amendRecord_armed armed ..
    · exact amendRecord_waits stands active (.inl ⟨_, lists, (apply_amended e.change r).ownerRelease.trans untold⟩)
  refine ⟨_, amendOne_takes handle names stands own accepted, known, ?_, stays ▸ amended_table .., stays ▸ amended_envelopeLaw ..⟩
  rw [stays, State.amended, formEnvelope_rt, changeRecord_eq stands]
  have entry : s.rt.slots[h.slot.val].record = some r := stands
  simp only [AmendEntry.put, handle, entry]
  rfl

/-! ### Batches (R25) -/

theorem applyBatch_taken {es : List AmendEntry} (taken : amendOne w e.handle e.change s = (if e.change.clamped then .clamped else .ok, t))
    (n : Nat) (clamped : Bool) : applyBatch w (e :: es) n clamped s = applyBatch w es (n + 1) (clamped || e.change.clamped) t := by
  rw [applyBatch, taken]
  cases e.change.clamped with
  | true => simp
  | false => simp

/-- A steady batch is applied entry by entry, and what follows it is applied to what it leaves. -/
theorem applyBatch_steady (w : Owner) : ∀ (es : List AmendEntry) (s : State), SteadyBatch w es s.rt.slots → ∃ t,
    (∀ post n clamped, applyBatch w (es ++ post) n clamped s = applyBatch w post (n + es.length) (clamped || es.any (·.change.clamped)) t) ∧
    (∀ e ∈ es, e.change ≠ .unknown) ∧ t.rt = { s.rt with slots := putEntries es s.rt.slots } ∧ TableOnly s t ∧
    (es ≠ [] ∨ s.EnvelopeLaw → t.EnvelopeLaw) ∧ (es = [] → t = s)
  | [], s, _ => ⟨s, fun post n clamped => by simp, by simp, rfl, .refl s, fun law => law.resolve_left (not_not_intro rfl), fun _ => rfl⟩
  | e :: es, s, steady => by
    obtain ⟨t, taken, known, rt, table, law⟩ := amendOne_steady steady.1
    have slots : t.rt.slots = e.put s.rt.slots := congrArg RestraintTable.slots rt
    obtain ⟨u, applied, knowns, rt', table', law', -⟩ := applyBatch_steady w es t (slots ▸ steady.2)
    refine ⟨u, fun post n clamped => ?_, ?_, ?_, table.trans table', fun _ => law' (.inr law), nofun⟩
    · rw [List.cons_append, applyBatch_taken taken, applied, List.length_cons, List.any_cons, Bool.or_assoc, Nat.add_assoc, Nat.add_comm 1]
    · exact List.forall_mem_cons.mpr ⟨known, knowns⟩
    · rw [rt', rt]
      rfl

theorem readEntries_length : ∀ (n : Nat) (xs : List Byte) {es : List AmendEntry}, readEntries n xs = some es → (∀ e ∈ es, e.change ≠ .unknown) →
    es.length = n
  | 0, xs, es, read, _ => by
    unfold readEntries at read
    split at read
    · cases read
      rfl
    · cases read
  | n + 1, xs, es, read, known => by
    unfold readEntries at read
    split at read
    · split at read
      · cases read
        exact absurd rfl (known _ List.mem_cons_self)
      · obtain ⟨others, inner, rfl⟩ := Option.map_eq_some_iff.mp read
        rw [List.length_cons, readEntries_length n _ inner fun e member => known e (List.mem_cons_of_mem _ member)]
      · cases read
    · cases read

/-! ### Requests of AMEND -/

theorem exec_amend {n : Byte} {rest : List Byte} (live : s.resetHeld = false) (wf : f.wf = true) (owner : FrameOwner f o) (named : o.record = some w)
    (payload : f.payload = n :: rest) : exec (.amend f) s = .next (bodyAmend o (n :: rest) (s.taking f)) := by
  have takes : Accepts.takes .hosts o = true := by
    cases o with
    | none => cases named
    | driver | depot => rfl
  rw [exec_taken (c := .amend f) rfl rfl live (of_decide_eq_true wf) owner takes, payload]

theorem bodyAmend_batch {n : Byte} {rest : List Byte} {es : List AmendEntry} (named : o.record = some w) (read : readEntries n.toNat rest = some es) :
    bodyAmend o (n :: rest) s = if n.toNat = 0 ∨ 4 < n.toNat then answer 0x05 .badField (u8 0 ++ u8 0xFF) s
      else answer 0x05 (applyBatch w es 0 false s).status
        (u8 (applyBatch w es 0 false s).applied ++ u8Opt ((applyBatch w es 0 false s).refused.map (·.1))) (applyBatch w es 0 false s).state := by
  unfold bodyAmend
  simp only [named, read]

/-- Settles O19. -/
theorem amendOwnRecord : Obligations.AmendOwnRecord := by
  refine ⟨changes_accepted, fun s f o w n rest es live wf owner named payload read => ?_⟩
  rw [exec_amend live wf owner named payload, bodyAmend_batch named read]
  refine ⟨fun size => ?_, fun some' few => ?_⟩
  · have size' : n.toNat = 0 ∨ 4 < n.toNat := size.imp_left fun zero => by rw [zero]; rfl
    rw [if_pos size']
    rfl
  have size : ¬ (n.toNat = 0 ∨ 4 < n.toNat) := by
    rintro (zero | many)
    · exact some' (BitVec.eq_of_toNat_eq zero)
    · omega
  rw [if_neg size]
  refine ⟨fun steady => ?_, fun pre e post st split steady refused => ?_, fun e h r q one handle names stands own accepted is kind => ?_⟩
  · obtain ⟨t, applied, known, rt, table, law, -⟩ := applyBatch_steady w es (s.taking f) steady
    have batch := applied [] 0 false
    have length := readEntries_length _ _ read known
    rw [List.append_nil] at batch
    have status : (if es.any (·.change.clamped) = true then Status.clamped else .ok) = if ∃ e ∈ es, e.change.clamped = true then .clamped else .ok :=
      if_congr List.any_eq_true rfl rfl
    have whole : b1 (0 + es.length) = n := by
      rw [Nat.zero_add, length]
      exact (BitVec.ofNat_toNat 8 n).trans (BitVec.setWidth_eq n)
    have some'' : es ≠ [] := fun none' => by
      rw [none'] at length
      exact size (.inl length.symm)
    rw [batch]
    refine ⟨_, rfl, ?_, rt, table.blocks, law (.inl some'')⟩
    change frameOf 0x05 (if (false || es.any (·.change.clamped)) = true then Status.clamped else .ok) [b1 (0 + es.length), 0xFF] = _
    rw [Bool.false_or, status, whole]
  · obtain ⟨t, applied, -, rt, table, law, same⟩ := applyBatch_steady w pre (s.taking f) steady
    have slots : t.rt.slots = putEntries pre s.rt.slots := congrArg RestraintTable.slots rt
    have stops : applyBatch w (e :: post) (0 + pre.length) (false || pre.any (·.change.clamped)) t =
        ⟨0 + pre.length, some (0 + pre.length, st), false || pre.any (·.change.clamped), t⟩ := by
      rw [applyBatch, amendOne_refused (slots.symm ▸ refused)]
      rcases refused with ⟨rfl, -⟩ | ⟨h, r, -, -, ⟨rfl, -⟩ | ⟨rfl, -⟩⟩
      · rfl
      · rfl
      · rfl
    rw [split, applied, stops]
    refine ⟨_, rfl, ?_, rt, table.blocks, fun before => law (.inr before), fun none' => ?_⟩
    · change frameOf 0x05 st [b1 (0 + pre.length), b1 (0 + pre.length)] = _
      rw [Nat.zero_add]
    · subst none'
      rw [same rfl]
      rfl
  · have stands' : (s.taking f).recordAt h.slot = some r := stands
    have single : applyBatch w es 0 false (s.taking f) =
        ⟨1, none, e.change.clamped, amendRecord h.slot r e.change (s.taking f)⟩ := by
      rw [one, applyBatch_taken (amendOne_takes (s := s.taking f) handle names stands own accepted)]
      rfl
    subst is
    rw [single]
    refine ⟨_, rfl, (amendRecord_table h.slot r e.change (s.taking f)).blocks, amendRecord_envelopeLaw kind e.change (s.taking f), rfl,
      fun active met childless => amendRecord_goes (s := s.taking f) stands' kind active met childless,
      fun active waits => amendRecord_waits (s := s.taking f) stands' active waits ▸ amended_changes stands' e.change,
      fun c releasing following adds new fails => amendRecord_returns (s := s.taking f) stands' kind releasing following adds new fails,
      fun releasing holds => amendRecord_checks (s := s.taking f) stands' kind releasing holds⟩

end Sys2Proof.Machine
end

section
/-! PROOFS. PLACE (O16, O17): the record it creates, under a parent and alone (R7, R9, R10), and the placements that create nothing (R5, R6). -/

namespace Sys2Proof.Machine

variable {s t : State} {i k : Slot} {r q : Record} {h : Handle} {a b : SlotEntry}

/-! ### Two slots that no evaluation changes -/

/-- Two slots hold what they are to hold. -/
def State.Holds (i k : Slot) (a b : SlotEntry) (x : State) : Prop := x.rt.slots[i.val] = a ∧ x.rt.slots[k.val] = b

theorem Holds.of_slots (at_i : t.rt.slots[i.val] = s.rt.slots[i.val]) (at_k : t.rt.slots[k.val] = s.rt.slots[k.val]) (h : s.Holds i k a b) : t.Holds i k a b :=
  ⟨at_i.trans h.1, at_k.trans h.2⟩

theorem evaluate_holds (forced : List Slot) (still : ∀ n x j, j = i ∨ j = k → x.Holds i k a b → evaluate forced n j x = x) (n : Nat) (j : Slot)
    (h : s.Holds i k a b) : (evaluate forced n j s).Holds i k a b :=
  evaluate_keeps (P := State.Holds i k a b) (mine := fun j => j = i ∨ j = k)
    (fun j r x other => Holds.of_slots (enterReleasing_slot_ne (other <| .inl ·) r x) (enterReleasing_slot_ne (other <| .inr ·) r x))
    (fun j r x other => Holds.of_slots (freeSlot_slot_ne (other <| .inl ·) r x) (freeSlot_slot_ne (other <| .inr ·) r x))
    (fun j x other => Holds.of_slots (returnActive_slot_ne (other <| .inl ·) x) (returnActive_slot_ne (other <| .inr ·) x)) forced
    (fun n j x here hx => by rw [still n x j here hx]; exact hx) n j s h

theorem evaluations_hold (still : ∀ n x j, j = i ∨ j = k → x.Holds i k a b → evaluate [] n j x = x) (xs : List Slot) (h : s.Holds i k a b) :
    (xs.foldl (fun s j => evalRecord j s) s).Holds i k a b :=
  foldl_rel (fun x y : State => x.Holds i k a b → y.Holds i k a b) (fun _ => id) (fun h k => k ∘ h) _
    (fun _ j => evaluate_holds [] still evalDepth j) xs s h

/-- An evaluation passes over an ARMED record and an ACTIVE one that waits. -/
theorem evaluate_rests (stands : s.recordAt i = some r) (rests : r.state = .armed ∨ (r.state = .active ∧ releasable s i r = false)) (forced : List Slot)
    (n : Nat) : evaluate forced n i s = s := by
  cases n with
  | zero => rfl
  | succ n =>
    unfold evaluate
    rcases rests with armed | ⟨active, waits⟩
    · simp only [stands, armed]
    · simp [stands, active, waits]

/-! ### The record created (R7, R9, R10) -/

/-- A record as a placement makes it waits for its owner. -/
structure Record.Fresh (r : Record) : Prop where
  lists : Cond.ownerRelease ∈ r.conds
  waits : r.ownerRelease = false
  state : r.state = .armed ∨ r.state = .active

theorem Record.Fresh.rests (fresh : r.Fresh) : r.state = .armed ∨ (r.state = .active ∧ releasable s i r = false) :=
  fresh.state.imp_right fun active => ⟨active, releasable_of_waits fresh.lists fresh.waits⟩

/-- The part with a record put into a slot and the envelope formed. -/
def State.placed (s : State) (i : Slot) (r : Record) : State := formEnvelope (putRecord i r s)

theorem placed_changes (i : Slot) (r : Record) (s : State) : ChangesOnly i r s (s.placed i r) := (putRecord_changes i r s).of_rt (formEnvelope_rt _)

theorem placed_table (i : Slot) (r : Record) (s : State) : TableOnly s (s.placed i r) := (putRecord_table i r s).trans (formEnvelope_table _)

theorem evalRecord_fresh (stands : s.recordAt i = some r) (fresh : r.Fresh) : evalRecord i s = s := evaluate_rests stands fresh.rests [] evalDepth

/-- A record that is no KNEEL and has no parent is put into its slot, and no more. -/
theorem createRecord_alone (fresh : r.Fresh) (kind : r.kind ≠ .kneel) (parent : r.parent = none) : createRecord i r s = s.placed i r := by
  unfold createRecord kneelChanged
  simp only [parent, if_neg kind]
  exact evalRecord_fresh (placed_changes i r s).recordAt_self fresh

/-- A KNEEL's placement is evaluated for as well. -/
theorem createRecord_rootless (parent : r.parent = none) : createRecord i r s = evalRecord i (kneelChanged r.kind (s.placed i r)) := by
  unfold createRecord
  simp only [parent]
  rfl

theorem createRecord_under (parent : r.parent = some h) :
    createRecord i r s = evalRecord i (kneelChanged r.kind (evalRecord h.slot (adopt h (s.placed i r)))) := by
  unfold createRecord
  simp only [parent]
  rfl

theorem kneelChanged_holds (still : ∀ n x j, j = i ∨ j = k → x.Holds i k a b → evaluate [] n j x = x) (kind : Kind) (h : s.Holds i k a b) :
    (kneelChanged kind s).Holds i k a b := by
  unfold kneelChanged
  split
  · exact evaluations_hold still _ h
  · exact h

/-- What a placement makes of a slot: its record, at the slot's generation. -/
theorem createRecord_slot_alone (fresh : r.Fresh) (parent : r.parent = none) (s : State) :
    (createRecord i r s).rt.slots[i.val] = ⟨s.rt.slots[i.val].gen, some r⟩ := by
  have still : ∀ n x j, j = i ∨ j = i → State.Holds i i ⟨s.rt.slots[i.val].gen, some r⟩ ⟨s.rt.slots[i.val].gen, some r⟩ x → evaluate [] n j x = x := by
    rintro n x j here ⟨slot, -⟩
    obtain rfl := or_self_iff.mp here
    exact evaluate_rests (congrArg SlotEntry.record slot) fresh.rests [] n
  have made : (s.placed i r).rt.slots[i.val] = ⟨s.rt.slots[i.val].gen, some r⟩ := ((placed_changes i r s).slot i).trans (if_pos rfl)
  rw [createRecord_rootless parent]
  exact (evaluate_holds [] still evalDepth i (kneelChanged_holds still r.kind ⟨made, made⟩)).1

/-- The record of a parent with its child: a RELEASING one has returned to ACTIVE (R9). -/
def Record.adopting (p : Record) : Record := if p.state = .releasing then p.returned else p

theorem adopt_slots {p : Record} (stands : s.recordAt h.slot = some p) (names : s.rt.slots[h.slot.val].gen = h.gen) (other : h.slot ≠ i) :
    (adopt h s).rt.slots[h.slot.val] = ⟨h.gen, some p.adopting⟩ ∧ (adopt h s).rt.slots[i.val] = s.rt.slots[i.val] := by
  unfold adopt Record.adopting
  rw [stands]
  dsimp only
  split
  · have back : ChangesOnly h.slot p.returned s (returnActive h.slot s) :=
      (changeRecord_changes stands Record.reactivate).of_rt (formEnvelope_rt _)
    exact ⟨((back.slot h.slot).trans (if_pos rfl)).trans (by rw [names]), (back.slot i).trans (if_neg other)⟩
  · exact ⟨by rw [← names, ← stands]; rfl, rfl⟩

/-- A parent that is not ARMED keeps its child, and the child its slot. -/
theorem createRecord_slot_under {p : Record} (fresh : r.Fresh) (parent : r.parent = some h) (names : s.names h = true)
    (stands : s.recordAt h.slot = some p) (notArmed : p.state ≠ .armed) (other : h.slot ≠ i) :
    (createRecord i r s).rt.slots[i.val] = ⟨s.rt.slots[i.val].gen, some r⟩ ∧ (createRecord i r s).recordAt h.slot = some p.adopting := by
  have active : p.adopting.state = .active := by
    unfold Record.adopting
    cases state : p.state with
    | armed => exact absurd state notArmed
    | active => rw [if_neg nofun]; exact state
    | releasing => rw [if_pos rfl]; rfl
  have gen : s.rt.slots[h.slot.val].gen = h.gen := congrArg Handle.gen (names_handle names)
  have still : ∀ n x j, j = i ∨ j = h.slot → State.Holds i h.slot ⟨s.rt.slots[i.val].gen, some r⟩ ⟨h.gen, some p.adopting⟩ x → evaluate [] n j x = x := by
    rintro n x j here ⟨mine, above⟩
    have child : x.recordAt i = some r := congrArg SlotEntry.record mine
    rcases here with rfl | rfl
    · exact evaluate_rests child fresh.rests [] n
    · have handle : x.handleAt h.slot = h := by
        unfold State.handleAt
        rw [above]
      refine evaluate_rests (congrArg SlotEntry.record above) (.inr ⟨active, releasable_false_of_child ?_⟩) [] n
      exact hasChild_eq_true_iff.mpr ⟨i, r, child, by rw [handle, parent]⟩
  have changes := placed_changes i r s
  have above : (s.placed i r).rt.slots[h.slot.val] = s.rt.slots[h.slot.val] := (changes.slot h.slot).trans (if_neg (Ne.symm other))
  obtain ⟨adopted, kept⟩ := adopt_slots (s := s.placed i r) (i := i) ((congrArg SlotEntry.record above).trans stands)
    ((congrArg SlotEntry.gen above).trans gen) other
  have start : (adopt h (s.placed i r)).Holds i h.slot ⟨s.rt.slots[i.val].gen, some r⟩ ⟨h.gen, some p.adopting⟩ :=
    ⟨kept.trans ((changes.slot i).trans (if_pos rfl)), adopted⟩
  rw [createRecord_under parent]
  obtain ⟨mine, up⟩ := evaluate_holds [] still evalDepth i (kneelChanged_holds still r.kind (evaluate_holds [] still evalDepth h.slot start))
  exact ⟨mine, congrArg SlotEntry.record up⟩

theorem kneelChanged_envelopeLaw (kind : Kind) (law : s.EnvelopeLaw) : (kneelChanged kind s).EnvelopeLaw := by
  unfold kneelChanged
  split
  · exact foldl_evaluate_envelopeLaw [] evalDepth _ law
  · exact law

theorem createRecord_envelopeLaw (i : Slot) (r : Record) (s : State) : (createRecord i r s).EnvelopeLaw := by
  have placed : (s.placed i r).EnvelopeLaw := formEnvelope_envelopeLaw _
  cases parent : r.parent with
  | none =>
    rw [createRecord_rootless parent]
    exact evaluate_envelopeLaw [] evalDepth i (kneelChanged_envelopeLaw r.kind placed)
  | some h =>
    have adopted : (adopt h (s.placed i r)).EnvelopeLaw := by
      unfold adopt
      split
      · split
        · exact returnActive_envelopeLaw ..
        · exact placed
      · exact placed
    rw [createRecord_under parent]
    exact evaluate_envelopeLaw [] evalDepth i (kneelChanged_envelopeLaw r.kind (evaluate_envelopeLaw [] evalDepth h.slot adopted))

/-! ### Requests of PLACE (R5) -/

section Request

variable {f : HostFrame} {o : HostOwner} {w : Owner} {c x y z : Byte} {rest : List Byte} {v : Supplied} {parent : Option (Option Handle)} {kind : Kind}

theorem exec_place (live : s.resetHeld = false) (wf : f.wf = true) (owner : FrameOwner f o) (host : o.record = some w)
    (payload : f.payload = c :: x :: y :: z :: rest) : exec (.place f) s = .next (bodyPlace o (c :: x :: y :: z :: rest) (s.taking f)) := by
  have takes : Accepts.takes .hosts o = true := by
    cases o with
    | none => cases host
    | driver | depot => rfl
  rw [exec_taken (c := .place f) rfl rfl live (of_decide_eq_true wf) owner takes, payload]

theorem bodyPlace_checked (host : o.record = some w) (fields : readPlaceFields (readU16 y z) rest = some (v, parent)) :
    bodyPlace o (c :: x :: y :: z :: rest) s = answer 0x01 (placeChecked w c x v parent s).status
      (if (placeChecked w c x v parent s).status.placed then handleBytes (placeChecked w c x v parent s).handle else [])
      (placeChecked w c x v parent s).state := by
  unfold bodyPlace
  simp only [host, fields]

/-- The placement that the fields of a request name. -/
def placementOf (w : Owner) (kind : Kind) (x : Byte) (v : Supplied) (parent : Option (Option Handle)) : Placement :=
  { kind := kind, owner := w, variant := (readVariant x).getD none, supplied := v, parent := parent }

theorem placeChecked_kind (known : readKind c = some kind) (permitted : kind.permits w = true) (variant : kind = .kneel → readVariant x ≠ none) :
    placeChecked w c x v parent s = placeRecord (placementOf w kind x v parent) s := by
  unfold placeChecked placementOf
  simp only [known, permitted]
  cases kind with
  | kneel =>
    obtain ⟨y, read⟩ := Option.ne_none_iff_exists'.mp (variant rfl)
    rw [read]
    rfl
  | stopHold | serviceLock | doorOpen | doorEmergency | rampOut | speedCap | jointLimit | airCritical | sensorDegrade | startHold | supervisionLost => rfl

theorem placeRecord_absent (permitted : kind.permits w = true) (ok : suppliedOk (s.profile kind) v = true) (absent : s.find kind w = none) :
    placeRecord (placementOf w kind x v parent) s = placeNew (placementOf w kind x v parent) s := by
  unfold placeRecord
  simp [placementOf, permitted, ok, absent]

theorem placeRecord_met (permitted : kind.permits w = true) (ok : suppliedOk (s.profile kind) v = true) (found : s.find kind w = some i)
    (stands : s.recordAt i = some r) : placeRecord (placementOf w kind x v parent) s = placeAgain i r s := by
  unfold placeRecord
  simp [placementOf, permitted, ok, found, stands]

end Request

/-! ### The values of a new record (R7, R10) -/

theorem newRecord_fresh (p : Placement) (parent : Option Handle) (depth : Nat) (lists : Cond.ownerRelease ∈ placedConds (s.profile p.kind) p) :
    (newRecord s p parent depth).Fresh := by
  refine ⟨lists, rfl, ?_⟩
  unfold newRecord
  dsimp only
  split
  · exact .inl rfl
  · exact .inr rfl

theorem newRecord_state (p : Placement) (parent : Option Handle) (depth : Nat) :
    (newRecord s p parent depth).state = if p.kind.trigger = .stationary ∧ s.mc.stationary = false then .armed else .active :=
  if_congr (by simp) rfl rfl

theorem newRecord_armAt (p : Placement) (parent : Option Handle) (depth : Nat) (armed : (newRecord s p parent depth).state = .armed)
    (timeout : (newRecord s p parent depth).armTimeout ≠ 0) :
    (newRecord s p parent depth).armAt = some (s.now + (newRecord s p parent depth).armTimeout * ms) := by
  rw [newRecord_state] at armed
  have waits : p.kind.trigger = .stationary ∧ s.mc.stationary = false := by
    by_contra other
    rw [if_neg other] at armed
    cases armed
  refine if_pos ?_
  rw [waits.1, waits.2, Bool.and_eq_true, bne_iff_ne]
  exact ⟨rfl, timeout⟩

theorem placedScope_of (row : Profile) (w : Owner) (k : Kind) (x : Byte) (v : Supplied) (parent : Option (Option Handle)) :
    placedScope row (placementOf w k x v parent) = (match v.scope with
      | some y => y
      | none => if k = .kneel ∧ readVariant x = some (some .side) then row.scopeSide else row.scope) := by
  have side : (readVariant x).getD none = some .side ↔ readVariant x = some (some .side) := by
    cases readVariant x <;> simp
  unfold placedScope placementOf
  cases v.scope with
  | some y => rfl
  | none =>
    refine if_congr ?_ rfl rfl
    rw [Bool.and_eq_true, decide_eq_true_iff, decide_eq_true_iff, side]

/-- Settles O16. -/
theorem placeCreatesRecord : Obligations.PlaceCreatesRecord := by
  intro s f o w k x a b rest v parent ph depth p i live wf owner host payload fields variant is permitted ok absent checked free lists
  have is' : p = placementOf w k x v parent := is
  subst is'
  have run := exec_place live wf owner host payload
  rw [bodyPlace_checked host fields, placeChecked_kind (readKind_code k) permitted variant, placeRecord_absent (s := s.taking f) permitted ok absent] at run
  have new : placeNew (placementOf w k x v parent) (s.taking f) = ⟨if anyClamped v then .clamped else .ok, some (s.handleAt i),
      createRecord i (newRecord (s.taking f) (placementOf w k x v parent) ph depth) (s.taking f)⟩ := by
    have checked' : checkParent (s.taking f) parent = .ok (ph, depth) := checked
    have free' : freeSlotFor (s.taking f) w = some i := free
    unfold placeNew
    simp only [placementOf, checked', free']
    rfl
  have placed : (if anyClamped v then Status.clamped else .ok).placed = true := by
    split
    · rfl
    · rfl
  rw [new] at run
  dsimp only at run
  rw [if_pos placed] at run
  have fresh : (newRecord (s.taking f) (placementOf w k x v parent) ph depth).Fresh := newRecord_fresh (s := s.taking f) _ ph depth lists
  have empty : s.recordAt i = none := (freeSlotFor_some free).2
  have kept (h : Handle) (here : ph = some h) : s.names h = true ∧ h.slot ≠ i ∧ ∃ q, s.recordAt h.slot = some q ∧ q.state ≠ .armed := by
    obtain ⟨names, q, stands, notArmed, -⟩ := (checkParent_ok checked).2.2.2 h here
    refine ⟨names, ?_, q, stands, notArmed⟩
    rintro rfl
    cases empty.symm.trans stands
  have slot : (createRecord i (newRecord (s.taking f) (placementOf w k x v parent) ph depth) (s.taking f)).rt.slots[i.val] =
      ⟨s.rt.slots[i.val].gen, some (newRecord (s.taking f) (placementOf w k x v parent) ph depth)⟩ := by
    cases here : ph with
    | none => exact createRecord_slot_alone (s := s.taking f) (here ▸ fresh) rfl
    | some h =>
      obtain ⟨names, other, q, stands, notArmed⟩ := kept h here
      exact (createRecord_slot_under (s := s.taking f) (here ▸ fresh) rfl names stands notArmed other).1
  refine ⟨_, _, run, rfl, congrArg SlotEntry.record slot, (congrArg SlotEntry.gen slot :), ⟨rfl, rfl, rfl, rfl, rfl, rfl, rfl⟩,
    newRecord_state (s := s.taking f) _ ph depth, rfl, rfl, rfl, rfl, ?_, rfl, ?_, ?_, rfl, newRecord_armAt (s := s.taking f) _ ph depth,
    (createRecord_table i _ (s.taking f)).blocks, createRecord_envelopeLaw i _ (s.taking f), fun h q here stands notArmed => ?_,
    fun kind rootless law => ?_⟩
  · change (takeNat _ v.delay _).getD 0 = _
    cases v.delay <;> rfl
  · change (takeNat _ v.armTimeout _).getD 0 = _
    cases v.armTimeout <;> rfl
  · exact placedScope_of ..
  · subst here
    obtain ⟨names, other, -⟩ := kept h rfl
    exact (createRecord_slot_under (s := s.taking f) fresh rfl names stands notArmed other).2
  · subst rootless
    have alone := createRecord_alone (s := s.taking f) (i := i) fresh kind rfl
    rw [alone]
    have changes := placed_changes i (newRecord (s.taking f) (placementOf w k x v parent) none depth) (s.taking f)
    have put : Unsent (s.taking f) (putRecord i (newRecord (s.taking f) (placementOf w k x v parent) none depth) (s.taking f)) :=
      ⟨putRecord_table .., rfl, rfl, rfl⟩
    have offsetless : (s.taking f).Offsetless i := fun q stands => by cases empty.symm.trans stands
    have unsent := (putRecord_changes i _ (s.taking f)).unsent (offsetPart_of_ne kind) offsetless law put rfl
    exact ⟨changes, unsent.only (formEnvelope_envelopeLaw _)⟩

/-! ### Placements that create nothing (R5, R6) -/

theorem placeNew_refused {p : Placement} {st : Status} (refused : checkParent s p.parent = .error st) : placeNew p s = ⟨st, none, s⟩ := by
  unfold placeNew
  rw [refused]

theorem checkParent_stale {ph : Option Handle} (stale : ∀ h, ph = some h → s.names h = false) : checkParent s (some ph) = .error .stale := by
  cases ph with
  | none => rfl
  | some h =>
    unfold checkParent
    simp [stale h rfl]

/-- Checks 6 to 8 of R5 on a live parent. -/
theorem checkParent_live {p : Record} (names : s.names h = true) (stands : s.recordAt h.slot = some p) : checkParent s (some (some h)) =
    if p.state = .armed then .error .badState
    else if p.owner = .joint ∨ p.owner = .plaus then .error .notOwner
    else if p.depth ≤ 3 then .ok (some h, p.depth + 1) else .error .depth := by
  unfold checkParent
  simp only [names, stands, if_true]
  cases p.owner <;> simp

/-- No slot is FREE for a host where the lower 24 hold records. -/
theorem freeSlotFor_full {w : Owner} {o : HostOwner} (host : o.record = some w) (full : ∀ j : Slot, j.val < 24 → s.recordAt j ≠ none) :
    freeSlotFor s w = none := by
  refine List.find?_eq_none.mpr fun j _ => ?_
  have hosts : slotOfClass w j = decide (j.val < 24) := by
    cases o with
    | none => cases host
    | driver | depot => cases host; rfl
  rw [hosts]
  by_cases low : j.val < 24
  · simp [full j low]
  · simp [low]

theorem placeNew_full {p : Placement} {ph : Option Handle} {depth : Nat} (checked : checkParent s p.parent = .ok (ph, depth))
    (full : freeSlotFor s p.owner = none) : placeNew p s = ⟨.full, none, s⟩ := by
  unfold placeNew
  rw [checked]
  dsimp only
  rw [full]

/-- R6: a revived record waits for its owner again, and every evaluation leaves it so. -/
theorem reviveRecord_slot (stands : s.recordAt i = some r) (lists : Cond.ownerRelease ∈ r.conds) (kind : Kind) :
    (reviveRecord i kind s).rt.slots[i.val] = ⟨s.rt.slots[i.val].gen, some { r.returned with ownerRelease := false }⟩ := by
  have untold := changeRecord_changes stands fun q => { q with ownerRelease := false }
  have back : ChangesOnly i { r.returned with ownerRelease := false } s (returnActive i (changeRecord i (fun q => { q with ownerRelease := false }) s)) :=
    untold.trans ((changeRecord_changes untold.recordAt_self Record.reactivate).of_rt (formEnvelope_rt _))
  have fresh : ({ r.returned with ownerRelease := false } : Record).Fresh := ⟨lists, rfl, .inr rfl⟩
  have still : ∀ n x j, j = i ∨ j = i → State.Holds i i ⟨s.rt.slots[i.val].gen, some { r.returned with ownerRelease := false }⟩
      ⟨s.rt.slots[i.val].gen, some { r.returned with ownerRelease := false }⟩ x → evaluate [] n j x = x := by
    rintro n x j here ⟨slot, -⟩
    obtain rfl := or_self_iff.mp here
    exact evaluate_rests (congrArg SlotEntry.record slot) fresh.rests [] n
  have made := (back.slot i).trans (if_pos rfl)
  exact (evaluate_holds [] still evalDepth i (kneelChanged_holds still kind ⟨made, made⟩)).1

theorem reviveRecord_envelopeLaw (i : Slot) (kind : Kind) (s : State) : (reviveRecord i kind s).EnvelopeLaw :=
  evaluate_envelopeLaw [] evalDepth i (kneelChanged_envelopeLaw kind (returnActive_envelopeLaw i _))

/-- The revival of a record that is no KNEEL changes it alone. -/
theorem reviveRecord_changes (stands : s.recordAt i = some r) (lists : Cond.ownerRelease ∈ r.conds) (kind : r.kind ≠ .kneel) :
    ChangesOnly i { r.returned with ownerRelease := false } s (reviveRecord i r.kind s) ∧
    (s.EnvelopeLaw → (reviveRecord i r.kind s).valves = s.valves) := by
  have untold := changeRecord_changes stands fun q => { q with ownerRelease := false }
  have changes := untold.trans (changeRecord_changes untold.recordAt_self Record.reactivate)
  have back : ChangesOnly i { r.returned with ownerRelease := false } s (returnActive i (changeRecord i (fun q => { q with ownerRelease := false }) s)) :=
    changes.of_rt (formEnvelope_rt _)
  have fresh : ({ r.returned with ownerRelease := false } : Record).Fresh := ⟨lists, rfl, .inr rfl⟩
  have stays : reviveRecord i r.kind s = returnActive i (changeRecord i (fun q => { q with ownerRelease := false }) s) := by
    unfold reviveRecord kneelChanged
    simp only [if_neg kind]
    exact evalRecord_fresh back.recordAt_self fresh
  rw [stays]
  refine ⟨back, fun law => ?_⟩
  exact (changes.unsent (offsetPart_of_ne (r := { r.returned with ownerRelease := false }) kind) (.of_stands stands (offsetPart_of_ne kind)) law
    ((changeRecord_unsent ..).trans (changeRecord_unsent ..)) rfl).valves

/-- Settles O17. -/
theorem placeMeetsLiveRecord : Obligations.PlaceMeetsLiveRecord := by
  intro s f o w c x a b rest v parent live wf owner host payload fields
  have run := exec_place live wf owner host payload
  rw [bodyPlace_checked host fields] at run
  rw [run]
  refine ⟨fun unknown => ?_, fun k known => ⟨fun barred => ?_, fun permitted kneel none' => ?_, fun permitted variant => ⟨fun bad => ?_,
    fun ph ok absent given => ⟨fun stale => ?_, fun h q here names stands => ?_⟩, fun ok absent free full => ?_, fun i r ok found stands => ?_⟩⟩⟩
  · have out : placeChecked w c x v parent (s.taking f) = ⟨.badField, none, s.taking f⟩ := by
      unfold placeChecked
      rw [unknown]
    rw [out]
    rfl
  · have out : placeChecked w c x v parent (s.taking f) = ⟨.notOwner, none, s.taking f⟩ := by
      unfold placeChecked
      simp [known, barred]
    rw [out]
    rfl
  · subst kneel
    have out : placeChecked w c x v parent (s.taking f) = ⟨.badField, none, s.taking f⟩ := by
      unfold placeChecked
      simp [known, permitted, none']
    rw [out]
    rfl
  · have bad' : suppliedOk ((s.taking f).profile k) v = false := bad
    have out : placeRecord (placementOf w k x v parent) (s.taking f) = ⟨.badField, none, s.taking f⟩ := by
      unfold placeRecord
      simp [placementOf, permitted, bad']
    rw [placeChecked_kind known permitted variant, out]
    rfl
  · have out : placeNew (placementOf w k x v parent) (s.taking f) = ⟨.stale, none, s.taking f⟩ :=
      placeNew_refused (by rw [placementOf, given]; exact checkParent_stale (s := s.taking f) stale)
    rw [placeChecked_kind known permitted variant, placeRecord_absent (s := s.taking f) permitted ok absent, out]
    rfl
  · have checked := checkParent_live (s := s.taking f) names stands
    have under : some (some h) = (placementOf w k x v parent).parent := by rw [placementOf, given, here]
    rw [under] at checked
    rw [placeChecked_kind known permitted variant, placeRecord_absent (s := s.taking f) permitted ok absent]
    refine ⟨fun armed => ?_, fun still internal => ?_, fun still notJoint notPlaus deep => ?_⟩
    · rw [if_pos armed] at checked
      rw [placeNew_refused checked]
      rfl
    · rw [if_neg still, if_pos internal] at checked
      rw [placeNew_refused checked]
      rfl
    · rw [if_neg still, if_neg (not_or_intro notJoint notPlaus), if_neg (by omega)] at checked
      rw [placeNew_refused checked]
      rfl
  · have checked : ∃ ph depth, checkParent (s.taking f) (placementOf w k x v parent).parent = .ok (ph, depth) := by
      rcases free with none' | ⟨h, q, given, names, stands, still, notJoint, notPlaus, shallow⟩
      · refine ⟨none, 1, ?_⟩
        rw [placementOf, none']
        rfl
      · refine ⟨some h, q.depth + 1, ?_⟩
        rw [placementOf, given]
        refine (checkParent_live (s := s.taking f) names stands).trans ?_
        rw [if_neg still, if_neg (not_or_intro notJoint notPlaus), if_pos shallow]
    obtain ⟨ph, depth, checked⟩ := checked
    rw [placeChecked_kind known permitted variant, placeRecord_absent (s := s.taking f) permitted ok absent,
      placeNew_full checked (freeSlotFor_full (s := s.taking f) host full)]
    rfl
  · have stands' : (s.taking f).recordAt i = some r := stands
    have found' : (s.taking f).find k w = some i := found
    have kind : r.kind = k := find_kind found stands
    rw [placeChecked_kind known permitted variant, placeRecord_met (s := s.taking f) permitted ok found' stands']
    refine ⟨fun still => ?_, fun releasing lists => ?_⟩
    · have again : placeAgain i r (s.taking f) = ⟨.already, some (s.handleAt i), s.taking f⟩ := by
        unfold placeAgain
        cases state : r.state with
        | armed | active => rfl
        | releasing => exact absurd state still
      rw [again]
      rfl
    · have again : placeAgain i r (s.taking f) = ⟨.revived, some (s.handleAt i), reviveRecord i r.kind (s.taking f)⟩ := by
        unfold placeAgain
        rw [releasing]
        rfl
      rw [again]
      have slot := reviveRecord_slot stands' lists r.kind
      refine ⟨_, _, rfl, rfl, rfl, congrArg SlotEntry.record slot, (reviveRecord_table i r.kind (s.taking f)).blocks, reviveRecord_envelopeLaw ..,
        fun other law => ?_⟩
      have changes := reviveRecord_changes stands' lists (kind.symm ▸ other)
      exact ⟨changes.1, changes.2 law⟩

end Sys2Proof.Machine
end

section
/-! PROOFS. A slot that the evaluations pass over stands through PLAUS's placements, amendments and withdrawals on others (R27, R28, R62). -/

namespace Sys2Proof.Machine

variable {s t : State} {i j : Slot} {r q : Record} {e : SlotEntry} {k : Kind} {o : Owner}

/-! ### A slot that the evaluations pass over -/

/-- The evaluations of the slot change nothing while it holds this. -/
def StillAt (i : Slot) (e : SlotEntry) : Prop := ∀ n x, x.rt.slots[i.val] = e → evaluate [] n i x = x

theorem stillAt_free (i : Slot) (g : BitVec 3) : StillAt i ⟨g, none⟩ := by
  intro n x slot
  have free : x.recordAt i = none := congrArg SlotEntry.record slot
  cases n with
  | zero => rfl
  | succ n =>
    unfold evaluate
    rw [free]

theorem stillAt_fresh (fresh : r.Fresh) (g : BitVec 3) : StillAt i ⟨g, some r⟩ :=
  fun n _ slot => evaluate_rests (congrArg SlotEntry.record slot) fresh.rests [] n

/-- R19: a LATCHED record goes on in RELEASING. -/
theorem stillAt_latched (releasing : r.state = .releasing) (latched : r.mode = .latched) (g : BitVec 3) : StillAt i ⟨g, some r⟩ := by
  intro n x slot
  have stands : x.recordAt i = some r := congrArg SlotEntry.record slot
  cases n with
  | zero => rfl
  | succ n =>
    unfold Machine.evaluate
    rw [stands]
    simp [releasing, latched]

namespace StillAt

theorem evaluate (still : StillAt i e) (n : Nat) (j : Slot) (slot : s.rt.slots[i.val] = e) : (evaluate [] n j s).rt.slots[i.val] = e :=
  evaluate_keeps (P := fun x => x.rt.slots[i.val] = e) (mine := (· = i)) (fun _ r x other => (enterReleasing_slot_ne other r x).trans)
    (fun _ r x other => (freeSlot_slot_ne other r x).trans) (fun _ x other => (returnActive_slot_ne other x).trans) []
    (fun n j x here slot => by
      subst here
      rw [still n x slot]
      exact slot) n j s slot

theorem evalRecord (still : StillAt i e) (j : Slot) (slot : s.rt.slots[i.val] = e) : (evalRecord j s).rt.slots[i.val] = e :=
  still.evaluate evalDepth j slot

theorem evaluations (still : StillAt i e) (n : Nat) (xs : List Slot) (slot : s.rt.slots[i.val] = e) :
    (xs.foldl (fun s j => Machine.evaluate [] n j s) s).rt.slots[i.val] = e :=
  foldl_rel (fun x y : State => x.rt.slots[i.val] = e → y.rt.slots[i.val] = e) (fun _ => id) (fun h k => k ∘ h) _
    (fun _ j => still.evaluate n j) xs s slot

theorem evalListing (still : StillAt i e) (p : Cond → Bool) (slot : s.rt.slots[i.val] = e) : (evalListing p s).rt.slots[i.val] = e :=
  still.evaluations evalDepth _ slot

theorem kneelChanged (still : StillAt i e) (k : Kind) (slot : s.rt.slots[i.val] = e) : (kneelChanged k s).rt.slots[i.val] = e := by
  unfold Machine.kneelChanged
  split
  · exact still.evalListing _ slot
  · exact slot

theorem retire (still : StillAt i e) (other : j ≠ i) (slot : s.rt.slots[i.val] = e) : (retire j s).rt.slots[i.val] = e := by
  unfold Machine.retire
  split
  · exact slot
  · exact still.evaluations evalDepth _ ((freeSlot_slot_ne other _ s).trans slot)

theorem checkRetire (still : StillAt i e) (other : j ≠ i) (slot : s.rt.slots[i.val] = e) : (checkRetire j s).rt.slots[i.val] = e := by
  unfold Machine.checkRetire
  split
  · split
    · exact still.retire other slot
    · exact slot
  · exact slot

theorem createRecord (still : StillAt i e) (other : j ≠ i) (rootless : r.parent = none) (slot : s.rt.slots[i.val] = e) :
    (createRecord j r s).rt.slots[i.val] = e := by
  rw [createRecord_rootless rootless]
  exact still.evalRecord j (still.kneelChanged r.kind (((placed_changes j r s).slot i).trans ((if_neg other).trans slot)))

theorem reviveRecord (still : StillAt i e) (other : j ≠ i) (k : Kind) (slot : s.rt.slots[i.val] = e) : (reviveRecord j k s).rt.slots[i.val] = e :=
  still.evalRecord j (still.kneelChanged k ((returnActive_slot_ne other _).trans ((changeRecord_slot_ne _ other s).trans slot)))

theorem ownerRetire (still : StillAt i e) (other : j ≠ i) (slot : s.rt.slots[i.val] = e) : (ownerRetire j s).2.rt.slots[i.val] = e := by
  unfold Machine.ownerRetire
  split
  · exact slot
  · split
    · exact still.retire other slot
    · split
      · exact slot
      · exact still.evalRecord j ((changeRecord_slot_ne _ other s).trans slot)
    · exact slot

theorem amendRecord (still : StillAt i e) (other : j ≠ i) (r : Record) (c : Change) (slot : s.rt.slots[i.val] = e) :
    (amendRecord j r c s).rt.slots[i.val] = e := by
  have amended : (s.amended j c).rt.slots[i.val] = e := by
    rw [State.amended, formEnvelope_rt, changeRecord_slot_ne _ other]
    exact slot
  have noticed : (if c.isScope then noticeRising j (c.apply r) (s.amended j c) else s.amended j c).rt.slots[i.val] = e := by
    split
    · exact (noticeRising_slot_ne other _ _).trans amended
    · exact amended
  cases state : r.state with
  | armed => rw [amendRecord_armed state]; exact amended
  | active => rw [amendRecord_active state]; exact still.evalRecord j amended
  | releasing =>
    unfold Machine.amendRecord
    simp only [state]
    split
    · exact still.evalRecord j ((returnActive_slot_ne other _).trans noticed)
    · exact still.checkRetire other noticed

end StillAt

/-! ### PLAUS's operations on other records -/

theorem find_ne (stands : s.recordAt i = some r) (other : r.kind ≠ k) (found : s.find k o = some j) : j ≠ i := by
  rintro rfl
  exact other (find_kind found stands)

theorem freeSlotFor_ne (stands : s.recordAt i = some r) (free : freeSlotFor s o = some j) : j ≠ i := by
  rintro rfl
  cases stands.symm.trans (freeSlotFor_some free).2

theorem emptyReleaseSet_rt (s : State) : (emptyReleaseSet s).rt = s.rt := (congrArg State.rt (setReleaseSet_eq 0 s) :)

/-- An internal placement leaves a slot alone that is neither the live record's nor the one that is free. -/
theorem StillAt.placeInternal (still : StillAt i e) (slot : s.rt.slots[i.val] = e) (found : ∀ j, s.find k o = some j → j ≠ i)
    (free : ∀ j, freeSlotFor s o = some j → j ≠ i) (x : Option Scope) : (placeInternal k o x s).rt.slots[i.val] = e := by
  have placed (p : Placement) (kind : p.kind = k) (owner : p.owner = o) (rootless : p.parent = none) : (placeRecord p s).state.rt.slots[i.val] = e := by
    subst kind owner
    have new : (placeNew p s).state.rt.slots[i.val] = e := by
      unfold placeNew
      rw [rootless]
      dsimp only [checkParent]
      split
      · exact slot
      · next j is => exact still.createRecord (free j is) rfl slot
    unfold placeRecord
    split
    · exact slot
    · split
      · exact slot
      · split
        · next j is =>
          split
          · unfold placeAgain
            split
            · exact slot
            · exact slot
            · exact still.reviveRecord (found j is) _ slot
          · exact new
        · exact new
  unfold Machine.placeInternal
  dsimp only
  split
  · rw [emptyReleaseSet_rt]
    exact placed _ rfl rfl rfl
  · rw [emptyReleaseSet_rt]
    exact placed _ rfl rfl rfl
  · exact placed _ rfl rfl rfl

theorem StillAt.withdraw (still : StillAt i e) (slot : s.rt.slots[i.val] = e) (found : ∀ j, s.find k o = some j → j ≠ i) :
    (withdraw k o s).rt.slots[i.val] = e := by
  unfold Machine.withdraw
  split
  · next j is => exact still.ownerRetire (found j is) slot
  · exact slot

theorem StillAt.amendDegrade (still : StillAt i e) (slot : s.rt.slots[i.val] = e) (found : ∀ j, s.find .sensorDegrade .plaus = some j → j ≠ i) (x : Scope) :
    (amendDegrade x s).rt.slots[i.val] = e := by
  unfold Machine.amendDegrade
  split
  · next j is =>
    split
    · exact slot
    · unfold amendOne
      dsimp only
      split
      · exact slot
      · split
        · exact slot
        · split
          · exact slot
          · split
            · exact slot
            · exact still.amendRecord (found j is) _ _ slot
  · exact slot

/-- PLAUS's taking of the degraded-sensor set leaves a slot alone that is neither its record's nor the one that is free. -/
theorem StillAt.watchDegraded (still : StillAt i e) (slot : s.rt.slots[i.val] = e)
    (found : ∀ x : State, x.rt.slots[i.val] = e → ∀ j, x.find .sensorDegrade .plaus = some j → j ≠ i) (free : ∀ j, freeSlotFor s .plaus = some j → j ≠ i) :
    (watchDegraded s).rt.slots[i.val] = e := by
  unfold Machine.watchDegraded
  split
  · exact slot
  · dsimp only
    split
    · exact slot
    · unfold degradedChanged
      split
      · exact still.withdraw (s := { s with degraded := degradedNow s }) slot (found _ slot)
      · dsimp only
        split
        · have placed := still.placeInternal (s := { s with degraded := degradedNow s }) slot (found _ slot) free (some (degradedScope (degradedNow s)))
          exact still.amendDegrade placed (found _ placed) _
        · exact still.amendDegrade (s := { s with degraded := degradedNow s }) slot (found _ slot) _

section Occupied

variable {g : BitVec 3} (still : StillAt i ⟨g, some r⟩)

include still

theorem watchDegraded_stays (slot : s.rt.slots[i.val] = ⟨g, some r⟩) (other : r.kind ≠ .sensorDegrade) : (watchDegraded s).rt.slots[i.val] = ⟨g, some r⟩ :=
  still.watchDegraded slot (fun _ slot _ => find_ne (congrArg SlotEntry.record slot) other) fun _ => freeSlotFor_ne (congrArg SlotEntry.record slot)

theorem watchCritical_stays (slot : s.rt.slots[i.val] = ⟨g, some r⟩) (other : r.kind ≠ .airCritical) : (watchCritical s).rt.slots[i.val] = ⟨g, some r⟩ := by
  have stands : s.recordAt i = some r := congrArg SlotEntry.record slot
  unfold watchCritical
  split
  · exact slot
  · split
    · exact still.placeInternal slot (fun j is => find_ne stands other is) (fun j is => freeSlotFor_ne stands is) none
    · exact still.withdraw slot fun j is => find_ne stands other is

theorem startWatching_stays (slot : s.rt.slots[i.val] = ⟨g, some r⟩) (other : r.kind ≠ .sensorDegrade) (other' : r.kind ≠ .airCritical) :
    (startWatching s).rt.slots[i.val] = ⟨g, some r⟩ := by
  have watched := watchDegraded_stays still slot other
  unfold startWatching
  dsimp only
  split
  · exact watchCritical_stays still watched other'
  · exact watched

end Occupied

end Sys2Proof.Machine
end

section
/-! PROOFS. PLAUS's placements and withdrawals (R27), HEARTBEAT and the heartbeat timer (O9). -/

namespace Sys2Proof.Machine

variable {s t : State} {i j : Slot} {r q : Record} {k : Kind} {o : Owner} {x : Option Scope}

/-! ### A record placed from its profile row (R27) -/

/-- The record that an internal owner's placement creates, with a scope of its own or the row's (R7, R27). -/
def State.scopedRecord (s : State) (k : Kind) (o : Owner) (x : Option Scope) : Record :=
  newRecord s { kind := k, owner := o, supplied := { scope := x } } none 1

theorem scopedRecord_fromRow (kind : k ≠ .kneel) (immediate : k.trigger = .immediate) :
    (s.scopedRecord k o x).FromRow k o (s.profile k) ∧ (s.scopedRecord k o x).scope = x.getD (s.profile k).scope := by
  constructor
  · simp [State.scopedRecord, newRecord, Record.FromRow, immediate, takeNat]
  · simp only [State.scopedRecord, newRecord, placedScope]
    cases x with
    | some y => rfl
    | none => simp [kind]

theorem scopedRecord_fresh (lists : ProfileCond.fixed .ownerRelease ∈ (s.profile k).conds) : (s.scopedRecord k o x).Fresh :=
  newRecord_fresh _ none 1 (List.mem_filterMap.2 ⟨_, lists, rfl⟩)

/-- R7: a placement that meets no live record creates one in the lowest FREE slot of its owner's class. -/
theorem placeRecord_row (permitted : k.permits o = true) (kind : k ≠ .kneel) (found : s.find k o = none) (free : freeSlotFor s o = some i)
    (lists : ProfileCond.fixed .ownerRelease ∈ (s.profile k).conds) :
    placeRecord { kind := k, owner := o, supplied := { scope := x } } s = ⟨.ok, some (s.handleAt i), s.placed i (s.scopedRecord k o x)⟩ := by
  have made := createRecord_alone (s := s) (i := i) (scopedRecord_fresh (s := s) (o := o) (x := x) lists) kind rfl
  have ok : suppliedOk (s.profile k) { scope := x } = true := rfl
  have whole : anyClamped { scope := x } = false := rfl
  unfold placeRecord placeNew
  simp only [permitted, ok, found, checkParent, free, whole]
  exact congrArg (Placed.mk _ _) made

theorem placeInternal_row (permitted : k.permits o = true) (kind : k ≠ .kneel) (kind' : k ≠ .supervisionLost) (found : s.find k o = none)
    (free : freeSlotFor s o = some i) (lists : ProfileCond.fixed .ownerRelease ∈ (s.profile k).conds) :
    placeInternal k o x s = s.placed i (s.scopedRecord k o x) := by
  unfold placeInternal
  rw [placeRecord_row permitted kind found free lists]
  dsimp only
  split
  · exact absurd rfl kind'
  · exact absurd rfl kind'
  · rfl

/-- R165: the placement of SUPERVISION_LOST empties the release set. -/
theorem placeInternal_lost (found : s.find .supervisionLost .plaus = none) (free : freeSlotFor s .plaus = some i)
    (lists : ProfileCond.fixed .ownerRelease ∈ (s.profile .supervisionLost).conds) :
    placeInternal .supervisionLost .plaus none s = emptyReleaseSet (s.placed i (s.scopedRecord .supervisionLost .plaus none)) := by
  unfold placeInternal
  rw [placeRecord_row (k := .supervisionLost) (x := none) rfl nofun found free lists]

/-! ### HEARTBEAT (R179) -/

section Heartbeat

variable {f : HostFrame} {w : HostOwner} {e : Nat}

theorem exec_heartbeat (live : s.resetHeld = false) (owner : FrameOwner f w) (payload : f.payload = []) :
    exec (.heartbeat f) s = .next (answer 0x23 .ok (heartbeatBytes (s.taking f)) (if s.hl.configured then beat (s.taking f) else s.taking f)) := by
  have fits : f.payload.length ≤ 26 := by rw [payload]; exact Nat.le_of_ble_eq_true rfl
  rw [exec_taken (c := .heartbeat f) rfl rfl live fits owner rfl, payload]
  rfl

theorem heartbeatBytes_eq (s : State) : heartbeatBytes s = u16 s.hl.flags.toNat ++ u16 s.hl.mask.toNat ++
    ([if s.hl.supervised then 0 else 1, if s.hl.configured then 1 else 0, if s.hl.service then 1 else 0] : List Byte) := by
  unfold heartbeatBytes
  simp only [List.append_assoc]
  cases s.hl.supervised <;> cases s.hl.configured <;> cases s.hl.service <;> rfl

/-- The part with its heartbeat timer started (R179). -/
def State.heard (s : State) : State := { s with hl := { s.hl with heartAt := some (s.now + 100 * ms) } }

theorem beat_supervised (supervised : s.hl.supervised = true) : beat s = s.heard := by
  unfold beat
  simp only [supervised]
  rfl

theorem beat_first (lost : s.hl.supervised = false) (silent : s.hl.heartAt = none) :
    beat s = { s with hl := { s.hl with heartAt := some (s.now + 100 * ms), runCount := 0 } } := by
  unfold beat
  simp only [lost, silent]
  rfl

theorem beat_counts (lost : s.hl.supervised = false) (running : s.hl.heartAt.isSome = true) (few : s.hl.runCount < 9) :
    beat s = { s with hl := { s.hl with heartAt := some (s.now + 100 * ms), runCount := s.hl.runCount + 1 } } := by
  unfold beat
  simp only [lost, running, if_neg (show ¬ 10 ≤ s.hl.runCount + 1 by omega)]
  rfl

theorem beat_regains (lost : s.hl.supervised = false) (running : s.hl.heartAt.isSome = true) (nine : s.hl.runCount = 9) :
    beat s = (regainSupervision s).heard := by
  unfold beat
  simp only [lost, running, if_pos (show 10 ≤ s.hl.runCount + 1 by omega)]
  rfl

/-- The part as its heartbeat timer has run out (R179). -/
def State.unheard (s : State) (e : Nat) : State :=
  { s with now := max s.now e, hl := { s.hl with heartAt := none, supervised := false, runCount := 0 } }

theorem exec_heartbeatTimerExpiry (live : s.resetHeld = false) (runs : s.hl.heartAt = some e) : exec .heartbeatTimerExpiry s = .next
    (if s.hl.supervised then placeInternal .supervisionLost .plaus none (s.unheard e) else s.unheard e) := by
  refine (running_next (f := heartExpiry) live).trans (congrArg Host.Outcome.next ?_)
  unfold heartExpiry
  simp only [runs]
  rfl

/-- Settles O9. -/
theorem heartbeats : Obligations.Heartbeats := by
  refine ⟨fun s f o bytes live owner payload is => ?_, fun s e live runs => ⟨fun lost => ?_, fun supervised found ⟨j, high, free⟩ lists => ?_⟩⟩
  · have run := exec_heartbeat live owner payload
    have returned : heartbeatBytes (s.taking f) = bytes := by
      rw [is]
      exact heartbeatBytes_eq _
    rw [returned] at run
    rw [run]
    refine ⟨fun config => ?_, fun configured supervised => ?_, fun configured lost silent => ?_, fun configured lost running few => ?_,
      fun configured lost running nine => ?_⟩
    · rw [if_neg (by rw [config]; nofun)]
      rfl
    · rw [if_pos configured, beat_supervised (s := s.taking f) supervised]
      rfl
    · rw [if_pos configured, beat_first (s := s.taking f) lost silent]
      rfl
    · rw [if_pos configured, beat_counts (s := s.taking f) lost running few]
      rfl
    · rw [if_pos configured, beat_regains (s := s.taking f) lost running nine]
      have table : TableOnly { s.taking f with hl := { (s.taking f).hl with supervised := true, runCount := 0 } } (regainSupervision (s.taking f)) :=
        withdraw_table ..
      refine ⟨_, rfl, ?_, ?_, ?_, rfl, fun absent => ?_, fun i r found stands goes => ?_⟩
      · exact (congrArg HostLink.supervised table.hl :)
      · exact (congrArg HostLink.runCount table.hl :)
      · exact congrArg (fun n => some (n + 100 * ms)) table.now
      · have none' : regainSupervision (s.taking f) = _ :=
          withdraw_of_none (s := { s.taking f with hl := { (s.taking f).hl with supervised := true, runCount := 0 } }) absent
        exact (congrArg State.rt none' :)
      · exact (withdraw_of_goesAtOnce (s := { s.taking f with hl := { (s.taking f).hl with supervised := true, runCount := 0 } }) found stands nofun goes).1
  · rw [exec_heartbeatTimerExpiry live runs, if_neg (by rw [lost]; nofun), State.unheard, ← lost]
  · obtain ⟨i, is⟩ := freeSlotFor_eq_some (s := s) (o := .plaus) (decide_eq_true high) free
    have placed := placeInternal_lost (s := s.unheard e) found is lists
    have made := scopedRecord_fromRow (s := s.unheard e) (k := .supervisionLost) (o := .plaus) (x := none) nofun rfl
    rw [exec_heartbeatTimerExpiry live runs, if_pos supervised, placed, emptyReleaseSet, setReleaseSet_eq]
    generalize (s.unheard e).scopedRecord .supervisionLost .plaus none = r at made
    have table := placed_table i r (s.unheard e)
    have stands := (placed_changes i r (s.unheard e)).recordAt_self
    generalize (s.unheard e).placed i r = t at table stands
    refine ⟨_, i, r, rfl, ?_, ?_, ?_, stands, made.1, rfl, table.sp, table.mc, table.bc, table.js, ?_⟩
    · exact (congrArg HostLink.supervised table.hl :)
    · exact (congrArg HostLink.heartAt table.hl :)
    · exact (congrArg HostLink.runCount table.hl :)
    · exact (congrArg DoorLines.ramp table.dl :)

end Heartbeat

end Sys2Proof.Machine
end

section
/-! PROOFS. CONFIG_DONE and the START_HOLD that it lets go (R176, O10). -/

namespace Sys2Proof.Machine

variable {s t : State} {i j : Slot} {r : Record} {g : BitVec 3}

/-! ### A LATCHED record that an evaluation lets go -/

theorem enterReleasing_outlived (i : Slot) (r : Record) (s : State) : Outlived s (enterReleasing i r s) :=
  (changeRecord_outlived (f := Record.release s.now) (fun _ => ⟨rfl, rfl, rfl, rfl⟩) i s).trans
    ((formEnvelope_outlived _).trans (noticeRising_outlived i r _))

theorem returnActive_outlived (i : Slot) (s : State) : Outlived s (returnActive i s) :=
  (changeRecord_outlived (f := Record.reactivate) (fun _ => ⟨rfl, rfl, rfl, rfl⟩) i s).trans (formEnvelope_outlived _)

theorem Outlived.childless (h : Outlived s t) (lives : t.recordAt i ≠ none) (childless : s.hasChild i = false) : t.hasChild i = false := by
  rw [Bool.eq_false_iff] at childless ⊢
  intro has
  obtain ⟨j, q, stands, parent⟩ := hasChild_eq_true_iff.mp has
  obtain ⟨p, stands', parent'⟩ := mem_childrenOf.mp (h.child lives stands parent)
  exact childless (hasChild_eq_true_iff.mpr ⟨j, p, stands', parent'⟩)

/-- The slot of a record that may go: the record as it was, or released. -/
def State.MayGo (s : State) (i : Slot) (g : BitVec 3) (r : Record) (x : State) : Prop :=
  TableOnly s x ∧ Outlived s x ∧ (x.rt.slots[i.val] = ⟨g, some r⟩ ∨ x.rt.slots[i.val] = ⟨g, some (r.released s.now)⟩)

section Goes

variable (kind : r.kind ≠ .kneel) (active : r.state = .active) (latched : r.mode = .latched) (delay : 0 < r.delay)
  (childless : s.hasChild i = false) (holds : ∀ x, TableOnly s x → r.conds.all (condHolds x i r) = true)

include kind active latched delay childless holds

/-- R13: its own evaluation releases it; R19: one in RELEASING goes on. -/
theorem State.MayGo.own {x : State} (may : s.MayGo i g r x) (n : Nat) :
    s.MayGo i g r (evaluate [] (n + 1) i x) ∧ (evaluate [] (n + 1) i x).rt.slots[i.val] = ⟨g, some (r.released s.now)⟩ := by
  obtain ⟨table, lived, slot | slot⟩ := may
  · have stands : x.recordAt i = some r := congrArg SlotEntry.record slot
    have releasable : releasable x i r = true := by
      unfold Machine.releasable
      rw [holds x table, lived.childless (by rw [stands]; nofun) childless]
      rfl
    have goes : evaluate [] (n + 1) i x = enterReleasing i r x := (evaluate_goes stands kind active releasable [] n).2.1 (.inl delay)
    have released : (enterReleasing i r x).rt.slots[i.val] = ⟨g, some (r.released s.now)⟩ := by
      rw [(enterReleasing_changes stands kind).slot, if_pos rfl, slot, table.now]
    rw [goes]
    exact ⟨⟨table.trans (enterReleasing_table ..), lived.trans (enterReleasing_outlived _ _ _), .inr released⟩, released⟩
  · have still : evaluate [] (n + 1) i x = x := stillAt_latched (r := r.released s.now) rfl latched g (n + 1) x slot
    rw [still]
    exact ⟨⟨table, lived, .inr slot⟩, slot⟩

theorem State.MayGo.evaluate {x : State} (may : s.MayGo i g r x) (n : Nat) (j : Slot) : s.MayGo i g r (evaluate [] n j x) :=
  evaluate_keeps (P := s.MayGo i g r) (mine := (· = i))
    (fun j q x other may => ⟨may.1.trans (enterReleasing_table ..), may.2.1.trans (enterReleasing_outlived _ _ _), by
      rw [enterReleasing_slot_ne other]
      exact may.2.2⟩)
    (fun j q x other may => ⟨may.1.trans (freeSlot_table ..), may.2.1.trans (freeSlot_outlived _ _ _), by
      rw [freeSlot_slot_ne other]
      exact may.2.2⟩)
    (fun j x other may => ⟨may.1.trans (returnActive_table ..), may.2.1.trans (returnActive_outlived _ _), by
      rw [returnActive_slot_ne other]
      exact may.2.2⟩) []
    (fun n j x here may => by
      subst here
      cases n with
      | zero => exact may
      | succ n => exact (may.own kind active latched delay childless holds n).1) n j x may

/-- R20: when its turn among the evaluations has come, it is RELEASING. -/
theorem evaluations_released (slot : s.rt.slots[i.val] = ⟨g, some r⟩) {xs : List Slot} (member : i ∈ xs) :
    (xs.foldl (fun s j => evalRecord j s) s).rt.slots[i.val] = ⟨g, some (r.released s.now)⟩ := by
  obtain ⟨pre, post, rfl⟩ := List.append_of_mem member
  rw [List.foldl_append, List.foldl_cons]
  have before : s.MayGo i g r (pre.foldl (fun s j => evalRecord j s) s) :=
    foldl_rel (fun x y : State => s.MayGo i g r x → s.MayGo i g r y) (fun _ => id) (fun h k => k ∘ h) _
      (fun x j may => may.evaluate kind active latched delay childless holds evalDepth j) pre s ⟨.refl s, .refl s, .inl slot⟩
  have turned := (before.own kind active latched delay childless holds 64).2
  exact (stillAt_latched (r := r.released s.now) rfl latched g).evaluations evalDepth post turned

end Goes

/-! ### CONFIG_DONE -/

section ConfigDone

variable {f : HostFrame} {o : HostOwner}

theorem exec_configDone (live : s.resetHeld = false) (owner : FrameOwner f o) (payload : f.payload = []) : exec (.configDone f) s =
    .next (if s.hl.configured then answer 0x33 .already [] (s.taking f) else answer 0x33 .ok [] (configure (s.taking f))) := by
  have fits : f.payload.length ≤ 26 := by rw [payload]; exact Nat.le_of_ble_eq_true rfl
  rw [exec_taken (c := .configDone f) rfl rfl live fits owner rfl, payload]
  unfold bodyConfigDone
  have same : (s.taking f).hl.configured = s.hl.configured := rfl
  cases configured : s.hl.configured with
  | true => rw [if_pos (same.trans configured)]; rfl
  | false => rw [if_neg (by rw [same, configured]; nofun)]; rfl

/-- The part as it becomes CONFIGURED. -/
def State.configuring (s : State) : State := { s with hl := { s.hl with configured := true } }

/-- The part as heartbeat supervision begins (R176, R179). -/
def State.supervising (s : State) : State := { s with hl := { s.hl with supervised := true, runCount := 0, heartAt := some (s.now + 100 * ms) } }

theorem configure_eq (s : State) : configure s = (startWatching (evalListing (· == .configDone) s.configuring)).supervising := rfl

theorem configure_sense (s : State) : SenseOnly s.configuring (startWatching (evalListing (· == .configDone) s.configuring)) :=
  (evalListing_table ..).sense.trans (startWatching_sense _)

theorem startWatching_sp (s : State) : (startWatching s).sp = s.sp := by
  unfold startWatching
  dsimp only
  split
  · exact (watchCritical_table _).sp.trans (watchDegraded_sp s)
  · exact watchDegraded_sp s

/-- R176: a START_HOLD that waits for nothing else goes to RELEASING. -/
theorem configure_startHold (stands : s.recordAt i = some r) (kind : r.kind = .startHold) (active : r.state = .active) (latched : r.mode = .latched)
    (conds : r.conds = [.configDone, .allDoorsLocked]) (locked : ∀ d : Door, (s.line d).door = .locked) (childless : s.hasChild i = false)
    (delay : 0 < r.delay) : (configure s).recordAt i = some (r.released s.now) := by
  have slot : s.configuring.rt.slots[i.val] = ⟨(s.rt.slots[i.val]).gen, some r⟩ := by rw [← stands]; rfl
  have holds (x : State) (table : TableOnly s.configuring x) : r.conds.all (condHolds x i r) = true := by
    have lines (n : Nat) (door : n < 4) : (x.dl.lines[n]).door = .locked := by
      simp only [table.dl]
      exact locked ⟨n, door⟩
    have configured : x.hl.configured = true := (congrArg HostLink.configured table.hl :)
    rw [conds]
    simp [condHolds, configured, lines]
  have listed : i ∈ listing s.configuring (· == .configDone) := mem_listing (x := .configDone) stands (by simp [conds]) rfl
  have released := evaluations_released (s := s.configuring) (by rw [kind]; nofun) active latched delay childless holds slot listed
  have stays := startWatching_stays (stillAt_latched (r := r.released s.now) rfl latched _) (s := evalListing (· == .configDone) s.configuring) released
    (by rw [show (r.released s.now).kind = .startHold from kind]; nofun) (by rw [show (r.released s.now).kind = .startHold from kind]; nofun)
  exact congrArg SlotEntry.record stays

/-- Settles O10. -/
theorem configDoneTaken : Obligations.ConfigDoneTaken := by
  intro s f o live owner payload
  rw [exec_configDone live owner payload]
  refine ⟨fun configured => by rw [if_pos configured]; rfl, fun config => ?_⟩
  rw [if_neg (by rw [config]; nofun)]
  have startHold := fun i r => configure_startHold (s := s.taking f) (i := i) (r := r)
  rw [configure_eq] at startHold ⊢
  have table := configure_sense (s.taking f)
  have sp : (startWatching (evalListing (· == .configDone) (s.taking f).configuring)).sp = s.sp :=
    (startWatching_sp _).trans (evalListing_table ..).sp
  generalize startWatching (evalListing (· == .configDone) (s.taking f).configuring) = t at startHold table sp ⊢
  refine ⟨_, rfl, ?_, rfl, rfl, ?_, rfl, table.mc, sp, table.bc, table.js, table.dl, table.dt,
    fun i r stands kind active latched conds locked childless delay => ?_⟩
  · exact (congrArg HostLink.configured table.hl :)
  · exact congrArg (fun n => some (n + 100 * ms)) table.now
  · exact ⟨_, startHold i r stands kind active latched conds locked childless delay, rfl, rfl⟩

end ConfigDone

end Sys2Proof.Machine
end

section
/-! PROOFS. The degraded-sensor set and what PLAUS does at a change of it (R61, R62, R28). -/

namespace Sys2Proof.Machine

variable {s t u : State} {i j : Slot} {r q : Record} {k : Kind} {o : Owner}

/-! ### The bits of the degraded-sensor set (R61) -/

theorem bitIf_getLsbD {w n m : Nat} (b : Bool) (small : n < w) : (bitIf (w := w) n b).getLsbD m = (b && decide (n = m)) := by
  unfold bitIf
  cases b with
  | false => simp
  | true =>
    rw [if_pos rfl, BitVec.getLsbD_ofNat, Nat.testBit_two_pow, Bool.true_and]
    by_cases here : n = m
    · simp [here, here ▸ small]
    · simp [here]

theorem foldl_bits_getLsbD (p : Channel → Bool) (n : Nat) (xs : List Channel) (x : BitVec 23) :
    (xs.foldl (fun acc ch => acc ||| bitIf ch.val (p ch)) x).getLsbD n = (x.getLsbD n || xs.any fun ch => p ch && decide (ch.val = n)) := by
  induction xs generalizing x with
  | nil => simp
  | cons ch xs ih =>
    have small : ch.val < 23 := by have := ch.isLt; omega
    rw [List.foldl_cons, ih, BitVec.getLsbD_or, bitIf_getLsbD _ small, List.any_cons, Bool.or_assoc]

theorem degradedNow_bit (s : State) (n : Nat) : (degradedNow s).getLsbD n =
    (((List.finRange 21).any fun ch => channelDegraded s ch && decide (ch.val = n)) ||
      (!s.mc.joint.usable && decide (21 = n)) || (!s.mc.actuator.usable && decide (22 = n))) := by
  unfold degradedNow
  rw [BitVec.getLsbD_or, BitVec.getLsbD_or, bitIf_getLsbD _ (by omega), bitIf_getLsbD _ (by omega), foldl_bits_getLsbD]
  simp

theorem degradedNow_channel (s : State) (ch : Channel) : (degradedNow s).getLsbD ch.val = channelDegraded s ch := by
  have below := ch.isLt
  rw [degradedNow_bit, decide_eq_false (by omega : 21 ≠ ch.val), decide_eq_false (by omega : 22 ≠ ch.val), Bool.and_false, Bool.and_false,
    Bool.or_false, Bool.or_false, Bool.eq_iff_iff, List.any_eq_true]
  constructor
  · rintro ⟨c, -, is⟩
    rw [Bool.and_eq_true, decide_eq_true_iff] at is
    rw [← Fin.ext is.2]
    exact is.1
  · exact fun is => ⟨ch, List.mem_finRange ch, by simp [is]⟩

theorem degradedNow_joint (s : State) : (degradedNow s).getLsbD 21 = !s.mc.joint.usable := by
  have channels : ((List.finRange 21).any fun ch => channelDegraded s ch && decide (ch.val = 21)) = false := by
    refine List.any_eq_false.mpr fun ch _ => ?_
    have := ch.isLt
    simp [show ch.val ≠ 21 by omega]
  rw [degradedNow_bit, channels]
  simp

theorem degradedNow_actuator (s : State) : (degradedNow s).getLsbD 22 = !s.mc.actuator.usable := by
  have channels : ((List.finRange 21).any fun ch => channelDegraded s ch && decide (ch.val = 22)) = false := by
    refine List.any_eq_false.mpr fun ch _ => ?_
    have := ch.isLt
    simp [show ch.val ≠ 22 by omega]
  rw [degradedNow_bit, channels]
  simp

theorem degradedNow_chamber (s : State) (c : Corner) : (degradedNow s).getLsbD c.val = true ↔ (s.chamber c).state ≠ .valid := by
  have small := c.isLt
  rw [degradedNow_channel s ⟨c.val, by omega⟩]
  simp [channelDegraded, State.chamber, show ¬ 12 ≤ c.val by omega]

theorem degradedNow_bellows (s : State) (c : Corner) : (degradedNow s).getLsbD (6 + c.val) = true ↔ (s.bellows c).state ≠ .valid := by
  have small := c.isLt
  rw [degradedNow_channel s ⟨6 + c.val, by omega⟩]
  simp [channelDegraded, State.bellows, show ¬ 12 ≤ 6 + c.val by omega]

theorem degradedNow_height (s : State) (c : Corner) :
    (degradedNow s).getLsbD (12 + c.val) = true ↔ s.heightRecord c = .stale ∨ (s.corner c).check = .degraded := by
  have small := c.isLt
  rw [degradedNow_channel s ⟨12 + c.val, by omega⟩]
  simp [channelDegraded, State.heightRecord, show 12 + c.val < 18 by omega]

theorem degradedNow_high {n : Nat} (low : 18 ≤ n) (high : n < 21) : (degradedNow s).getLsbD n = true ↔ (s.sample ⟨n, high⟩).state ≠ .valid := by
  rw [degradedNow_channel s ⟨n, high⟩]
  simp [channelDegraded, State.sample, show ¬ n < 18 by omega]

theorem usable_iff (a : AngleCounter) : (!a.usable) = true ↔ a.calibrated = false ∨ a.valid = false := by
  unfold AngleCounter.usable
  cases a.calibrated <;> simp

/-- A word of 23 bits by its bits, corner by corner. -/
theorem degraded_ext {x y : BitVec 23}
    (corners : ∀ c : Corner, (x.getLsbD c.val = y.getLsbD c.val) ∧ (x.getLsbD (6 + c.val) = y.getLsbD (6 + c.val)) ∧
      (x.getLsbD (12 + c.val) = y.getLsbD (12 + c.val)))
    (high : ∀ n, 18 ≤ n → n < 23 → x.getLsbD n = y.getLsbD n) : x = y := by
  refine BitVec.eq_of_getLsbD_eq fun n small => ?_
  by_cases chamber : n < 6
  · exact (corners ⟨n, chamber⟩).1
  by_cases bellows : n < 12
  · have bit := (corners ⟨n - 6, by omega⟩).2.1
    rwa [show 6 + (n - 6) = n by omega] at bit
  by_cases height : n < 18
  · have bit := (corners ⟨n - 12, by omega⟩).2.2
    rwa [show 12 + (n - 12) = n by omega] at bit
  · exact high n (by omega) small

theorem plausCurrent_iff : s.PlausCurrent ↔ s.degraded = degradedNow s := by
  unfold State.PlausCurrent
  constructor
  · rintro ⟨corners, pedal, pedal', reservoir, joint, actuator⟩
    refine degraded_ext (fun c => ?_) fun n low high => ?_
    · obtain ⟨chamber, bellows, height⟩ := corners c
      exact ⟨Bool.eq_iff_iff.mpr (chamber.trans (degradedNow_chamber s c).symm), Bool.eq_iff_iff.mpr (bellows.trans (degradedNow_bellows s c).symm),
        Bool.eq_iff_iff.mpr (height.trans (degradedNow_height s c).symm)⟩
    · rw [Bool.eq_iff_iff]
      rcases (by omega : n = 18 ∨ n = 19 ∨ n = 20 ∨ n = 21 ∨ n = 22) with rfl | rfl | rfl | rfl | rfl
      · exact pedal.trans (degradedNow_high (by omega) (by omega)).symm
      · exact pedal'.trans (degradedNow_high (by omega) (by omega)).symm
      · exact reservoir.trans (degradedNow_high (by omega) (by omega)).symm
      · rw [joint, degradedNow_joint, usable_iff]
        rfl
      · rw [actuator, degradedNow_actuator, usable_iff]
        rfl
  · intro is
    rw [is]
    refine ⟨fun c => ⟨degradedNow_chamber s c, degradedNow_bellows s c, degradedNow_height s c⟩, degradedNow_high (by omega) (by omega),
      degradedNow_high (by omega) (by omega), degradedNow_high (by omega) (by omega), ?_, ?_⟩
    · rw [degradedNow_joint, usable_iff]
      rfl
    · rw [degradedNow_actuator, usable_iff]
      rfl

theorem cornerDegraded_iff (c : Corner) : s.CornerDegraded c ↔ ((degradedNow s).getLsbD c.val = true ∨ (degradedNow s).getLsbD (6 + c.val) = true ∨
    (degradedNow s).getLsbD (12 + c.val) = true) := by
  rw [degradedNow_chamber, degradedNow_bellows, degradedNow_height]
  rfl

theorem someDegraded_iff : s.SomeDegraded ↔ degradedNow s ≠ 0 := by
  have high : ((s.sample 18).state ≠ .valid ∨ (s.sample 19).state ≠ .valid ∨ (s.sample 20).state ≠ .valid ∨
      ∃ a : Angle, (s.angle a).calibrated = false ∨ (s.angle a).valid = false) ↔ ∃ n, 18 ≤ n ∧ n < 23 ∧ (degradedNow s).getLsbD n = true := by
    have angles : (∃ a : Angle, (s.angle a).calibrated = false ∨ (s.angle a).valid = false) ↔
        ((degradedNow s).getLsbD 21 = true ∨ (degradedNow s).getLsbD 22 = true) := by
      rw [degradedNow_joint, degradedNow_actuator, usable_iff, usable_iff]
      exact ⟨fun ⟨a, is⟩ => by cases a with | joint => exact .inl is | actuator => exact .inr is,
        fun is => is.elim (fun is => ⟨.joint, is⟩) fun is => ⟨.actuator, is⟩⟩
    have pedal : (s.sample 18).state ≠ .valid ↔ _ := (degradedNow_high (n := 18) (by omega) (by omega)).symm
    have pedal' : (s.sample 19).state ≠ .valid ↔ _ := (degradedNow_high (n := 19) (by omega) (by omega)).symm
    have reservoir : (s.sample 20).state ≠ .valid ↔ _ := (degradedNow_high (n := 20) (by omega) (by omega)).symm
    rw [angles, pedal, pedal', reservoir]
    constructor
    · rintro (is | is | is | is | is)
      · exact ⟨18, by omega, by omega, is⟩
      · exact ⟨19, by omega, by omega, is⟩
      · exact ⟨20, by omega, by omega, is⟩
      · exact ⟨21, by omega, by omega, is⟩
      · exact ⟨22, by omega, by omega, is⟩
    · rintro ⟨n, low, high, is⟩
      rcases (by omega : n = 18 ∨ n = 19 ∨ n = 20 ∨ n = 21 ∨ n = 22) with rfl | rfl | rfl | rfl | rfl
      · exact .inl is
      · exact .inr (.inl is)
      · exact .inr (.inr (.inl is))
      · exact .inr (.inr (.inr (.inl is)))
      · exact .inr (.inr (.inr (.inr is)))
  unfold State.SomeDegraded
  rw [high]
  simp only [cornerDegraded_iff]
  constructor
  · rintro some zero
    simp [zero] at some
  · intro some
    by_contra none'
    rw [not_or] at none'
    obtain ⟨corners, rest⟩ := none'
    refine some (degraded_ext (fun c => ?_) fun n low high => ?_)
    · have none' := not_exists.mp corners c
      simp only [not_or, Bool.not_eq_true] at none'
      simp [none']
    · have none' := not_exists.mp rest n
      simpa [low, high] using none'

theorem degradedScope_has (x : BitVec 23) (c : Corner) : (degradedScope x).has c = (x.getLsbD c.val || x.getLsbD (6 + c.val) || x.getLsbD (12 + c.val)) := by
  have small := c.isLt
  simp [degradedScope, Scope.has, small]

theorem degradedScope_iff {x : Scope} : s.DegradedScope x ↔ x = degradedScope (degradedNow s) := by
  have has (c : Corner) : (degradedScope (degradedNow s)).has c = true ↔ s.CornerDegraded c := by
    rw [degradedScope_has, cornerDegraded_iff, Bool.or_eq_true, Bool.or_eq_true, or_assoc]
  constructor
  · intro scope
    refine BitVec.eq_of_getLsbD_eq fun n small => ?_
    exact Bool.eq_iff_iff.mpr ((scope ⟨n, small⟩).trans (has ⟨n, small⟩).symm)
  · rintro rfl
    exact has

/-! ### PLAUS's taking of the set (R28, R62) -/

theorem degradedNow_congr (states : ∀ ch, (t.sample ch).state = (s.sample ch).state) (joint : t.mc.joint.usable = s.mc.joint.usable)
    (actuator : t.mc.actuator.usable = s.mc.actuator.usable) (check : ∀ c, (t.corner c).check = (s.corner c).check) : degradedNow t = degradedNow s := by
  have channel (ch : Channel) : channelDegraded t ch = channelDegraded s ch := by
    unfold channelDegraded
    simp only [show (t.sp.samples[ch.val]).state = (s.sp.samples[ch.val]).state from states ch, check]
  unfold degradedNow
  simp only [channel, joint, actuator]

theorem CornersStand.check (h : CornersStand s t) (c : Corner) : (t.corner c).check = (s.corner c).check := by rw [(h.corner c).eq]

theorem watchDegraded_set (s : State) : degradedNow (watchDegraded s) = degradedNow s :=
  degradedNow_congr (fun ch => by rw [State.sample, watchDegraded_sp]; rfl) (by rw [watchDegraded_mc]) (by rw [watchDegraded_mc])
    (cornersStand_frame.watchDegraded s).check

theorem amendDegrade_table (x : Scope) (s : State) : TableOnly s (amendDegrade x s) := by
  unfold amendDegrade
  split
  · split
    · exact .refl s
    · exact amendOne_table ..
  · exact .refl s

theorem degradedChanged_table (old new : BitVec 23) (s : State) : TableOnly s (degradedChanged old new s) := by
  unfold degradedChanged
  split
  · exact withdraw_table ..
  · dsimp only
    split
    · exact (placeInternal_table .sensorDegrade .plaus _ s (by decide)).trans (amendDegrade_table ..)
    · exact amendDegrade_table ..

/-- PLAUS in CONFIGURED acts on the set as it stands. -/
theorem watchDegraded_degraded (configured : s.hl.configured = true) : (watchDegraded s).degraded = degradedNow s := by
  by_cases same : degradedNow s = s.degraded
  · unfold watchDegraded
    simp [configured, same]
  · unfold watchDegraded
    simp only [configured, same, if_false, Bool.not_true, Bool.false_eq_true]
    exact (degradedChanged_table s.degraded (degradedNow s) _).degraded

theorem watchDegraded_current (configured : s.hl.configured = true) : (watchDegraded s).PlausCurrent :=
  plausCurrent_iff.mpr ((watchDegraded_degraded configured).trans (watchDegraded_set s).symm)

theorem watchDegraded_still (same : s.degraded = degradedNow s) : watchDegraded s = s := by
  unfold watchDegraded
  simp [same]

/-- The part as PLAUS has taken the set, before it acts on it. -/
def State.minded (s : State) : State := { s with degraded := degradedNow s }

theorem watchDegraded_changed (configured : s.hl.configured = true) (other : s.degraded ≠ degradedNow s) :
    watchDegraded s = degradedChanged s.degraded (degradedNow s) s.minded := by
  unfold watchDegraded
  simp [configured, Ne.symm other, State.minded]

/-- The one record of its kind and owner is the one that a search finds. -/
theorem ChangesOnly.find (changes : ChangesOnly i r s t) (absent : s.find k o = none) (kind : r.kind = k) (owner : r.owner = o) : t.find k o = some i := by
  cases found : t.find k o with
  | none => exact absurd owner (find_eq_none found changes.recordAt_self kind)
  | some j =>
    obtain ⟨q, stands, kind', owner'⟩ := find_eq_some found
    rw [changes.recordAt] at stands
    split at stands
    · next here => rw [here]
    · exact absurd owner' (find_eq_none absent stands kind')

/-- R28: when the set was empty PLAUS places SENSOR_DEGRADE with the degraded corners as its scope. -/
theorem watchDegraded_places (configured : s.hl.configured = true) (empty : s.degraded = 0) (some' : degradedNow s ≠ 0)
    (found : s.find .sensorDegrade .plaus = none) (free : freeSlotFor s .plaus = some i)
    (lists : ProfileCond.fixed .ownerRelease ∈ (s.profile .sensorDegrade).conds) :
    watchDegraded s = s.minded.placed i (s.minded.scopedRecord .sensorDegrade .plaus (some (degradedScope (degradedNow s)))) := by
  have placed := placeInternal_row (s := s.minded) (k := .sensorDegrade) (o := .plaus) (x := some (degradedScope (degradedNow s))) rfl nofun nofun found free lists
  have here := (placed_changes i (s.minded.scopedRecord .sensorDegrade .plaus (some (degradedScope (degradedNow s)))) s.minded).find found rfl rfl
  have stands := (placed_changes i (s.minded.scopedRecord .sensorDegrade .plaus (some (degradedScope (degradedNow s)))) s.minded).recordAt_self
  have scope := (scopedRecord_fromRow (s := s.minded) (k := .sensorDegrade) (o := .plaus) (x := some (degradedScope (degradedNow s))) nofun rfl).2
  rw [watchDegraded_changed configured (empty ▸ Ne.symm some'), degradedChanged, if_neg some']
  dsimp only
  rw [if_pos empty, placed, amendDegrade, here]
  dsimp only
  rw [stands]
  exact if_pos (congrArg some scope)

theorem recordAt_names (stands : s.recordAt i = some r) : s.names (s.handleAt i) = true := by
  have record : (s.rt.slots[i.val]).record.isSome = true := by
    rw [show (s.rt.slots[i.val]).record = some r from stands]
    rfl
  simp [State.names, State.handleAt, record]

/-- R28, R23: PLAUS amends the scope of its record that waits for its owner. -/
theorem watchDegraded_amends (configured : s.hl.configured = true) (was : s.degraded ≠ 0) (some' : degradedNow s ≠ 0) (other : s.degraded ≠ degradedNow s)
    (found : s.find .sensorDegrade .plaus = some i) (stands : s.recordAt i = some r) (active : r.state = .active) (waits : r.ownerRelease = false)
    (lists : Cond.ownerRelease ∈ r.conds) :
    watchDegraded s = if r.scope = degradedScope (degradedNow s) then s.minded else s.minded.amended i (.scope (degradedScope (degradedNow s))) := by
  have found' : s.minded.find .sensorDegrade .plaus = some i := found
  have stands' : s.minded.recordAt i = some r := stands
  have owner : r.owner = .plaus := by
    obtain ⟨q, here, -, is⟩ := find_eq_some found
    cases stands.symm.trans here
    exact is
  rw [watchDegraded_changed configured other, degradedChanged, if_neg some']
  dsimp only
  rw [if_neg was, amendDegrade, found']
  dsimp only
  rw [stands']
  simp only [Option.map_some, Option.some.injEq]
  refine if_congr Iff.rfl rfl ?_
  have takes := amendOne_takes (s := s.minded) (w := .plaus) (e := ⟨some (s.minded.handleAt i), .scope (degradedScope (degradedNow s))⟩) rfl
    (recordAt_names stands') stands' owner rfl
  refine (congrArg Prod.snd takes).trans (amendRecord_waits stands' active (.inl ⟨.ownerRelease, lists, ?_⟩))
  exact waits

/-- R28: when the set becomes empty PLAUS withdraws its record. -/
theorem watchDegraded_withdraws (configured : s.hl.configured = true) (was : s.degraded ≠ 0) (none' : degradedNow s = 0) :
    watchDegraded s = withdraw .sensorDegrade .plaus s.minded := by
  rw [watchDegraded_changed configured (by rw [none']; exact was), degradedChanged, if_pos none']

end Sys2Proof.Machine
end

section
/-! PROOFS. PLAUS at a word, an age, a mark and CONFIG_DONE (O24). -/

namespace Sys2Proof.Machine

variable {s t u : State} {i j : Slot} {r : Record} {ch : Channel} {a : Angle}

/-! ### What sampling leaves for PLAUS -/

/-- The part with other samples, counts, flags and clock; no record and no corner is touched. -/
def State.sensing (s : State) (now : Nat) (sp : SensePort) (mc : MotionCounters) (flags : BitVec 11) : State :=
  { s with now := now, sp := sp, mc := mc, hl := { s.hl with flags := flags } }

/-- PLAUS looks at the set, or the set is as it was. -/
def State.Follows (s t : State) : Prop :=
  ∃ now sp mc flags, t = watchDegraded (s.sensing now sp mc flags) ∨ (t = s.sensing now sp mc flags ∧ degradedNow t = degradedNow s)

/-- Channels whose samples reach no corner and no comparator. -/
def Quiet (ch : Channel) : Prop := ch.val < 12 ∨ ch = 18 ∨ ch = 19

theorem Quiet.height (quiet : Quiet ch) : ¬ (12 ≤ ch.val ∧ ch.val < 18) := by
  rcases quiet with low | rfl | rfl
  · omega
  · decide
  · decide

theorem Quiet.reservoir (quiet : Quiet ch) : ch.val ≠ 20 := by
  rcases quiet with low | rfl | rfl
  · omega
  · decide
  · decide

theorem changeSample_minds (ch : Channel) {f : Sample → Sample} (kept : ∀ x, (f x).state = x.state) (s : State) :
    degradedNow (changeSample ch f s) = degradedNow s := by
  refine degradedNow_congr (fun d => ?_) rfl rfl fun _ => rfl
  unfold State.sample changeSample
  rw [upd_get]
  split
  · next here =>
    subst here
    exact kept _
  · rfl

theorem setSampleState_follows (quiet : Quiet ch) (x : SampleState) {now : Nat} {sp : SensePort} {mc : MotionCounters} {flags : BitVec 11}
    (same : degradedNow (s.sensing now sp mc flags) = degradedNow s) : s.Follows (setSampleState ch x (s.sensing now sp mc flags)) := by
  unfold setSampleState
  split
  · exact ⟨_, _, _, _, .inr ⟨rfl, same⟩⟩
  · unfold sampleStateChanged
    dsimp only
    rw [dif_neg quiet.height]
    simp only [quiet.reservoir, decide_false, Bool.false_and, Bool.false_eq_true, if_false]
    exact ⟨_, _, _, _, .inl rfl⟩

theorem goodSample_follows (quiet : Quiet ch) (v : Nat) (s : State) : s.Follows (goodSample ch v s) := by
  unfold goodSample
  dsimp only
  rw [dif_neg quiet.height, if_neg quiet.reservoir]
  exact setSampleState_follows (s := s) (now := s.now) (mc := s.mc) (flags := s.hl.flags) quiet .valid
    (changeSample_minds ch (f := fun x => { x with value := min v (channelTop ch), ageAt := some (s.now + agePeriod) }) (fun _ => rfl) s)

theorem faultSample_follows (quiet : Quiet ch) (s : State) : s.Follows (faultSample ch s) :=
  setSampleState_follows (s := s) (now := s.now) (mc := s.mc) (flags := s.hl.flags) quiet .fault
    (changeSample_minds ch (f := fun x => { x with ageAt := some (s.now + agePeriod) }) (fun _ => rfl) s)

theorem ageOut_follows (quiet : Quiet ch) (s : State) : s.Follows (ageOut ch s) := by
  unfold ageOut
  split
  · exact ⟨s.now, s.sp, s.mc, s.hl.flags, .inr ⟨rfl, rfl⟩⟩
  · next e _ =>
    have same := changeSample_minds ch (f := fun x => { x with ageAt := none }) (fun _ => rfl) (atLeast e s)
    dsimp only
    split
    · exact setSampleState_follows (s := s) (now := max s.now e) (mc := s.mc) (flags := s.hl.flags) quiet .stale same
    · exact ⟨_, _, s.mc, s.hl.flags, .inr ⟨rfl, same⟩⟩

theorem stepAngle_follows (a : Angle) (g : AngleCounter → AngleCounter) (s : State) : s.Follows (stepAngle a g s) := by
  have changed : changeAngle a g s = s.sensing s.now s.sp (changeAngle a g s).mc s.hl.flags := by
    cases a with
    | joint => rfl
    | actuator => rfl
  unfold stepAngle
  dsimp only
  split
  · next kept =>
    refine ⟨s.now, s.sp, (changeAngle a g s).mc, s.hl.flags, .inr ⟨changed, ?_⟩⟩
    have usable (b : Angle) : ((changeAngle a g s).angle b).usable = (s.angle b).usable := by
      by_cases here : b = a
      · subst here
        rw [AngleCounter.usable, kept.1, kept.2]
        rfl
      · rw [changeAngle_angle, if_neg here]
    refine degradedNow_congr (fun ch => ?_) (usable .joint) (usable .actuator) fun c => ?_
    · rw [changed]
      rfl
    · rw [changed]
      rfl
  · refine ⟨s.now, s.sp, (changeAngle a g s).mc, (setFlag .sensor s).hl.flags, .inl ?_⟩
    exact congrArg (fun x => watchDegraded (setFlag .sensor x)) changed

/-- A word, an age or a mark that reaches no corner and no comparator. -/
theorem quiet_follows {c : Instr} (live : s.resetHeld = false) (awake : s.inReset .sense = false) (run : exec c s = .next t)
    (sampled : (∃ (ch : Channel) (fault : Bool) (v : BitVec 11), (ch.val < 12 ∨ ch = 18 ∨ ch = 19) ∧
      (c = .sampleWord (BitVec.ofNat 5 ch.val) fault v ∨ c = .sampleAgeExpiry ch)) ∨ ∃ a, c = .centreMark a) : s.Follows t := by
  rcases sampled with ⟨ch, fault, v, quiet, rfl | rfl⟩ | ⟨a, rfl⟩
  · have small : (BitVec.ofNat 5 ch.val).toNat = ch.val := by
      have := ch.isLt
      rw [BitVec.toNat_ofNat]
      omega
    cases (running_next (f := takeSample (BitVec.ofNat 5 ch.val) fault v) live).symm.trans run
    unfold takeSample
    rw [if_neg (by rw [awake]; nofun)]
    simp only [small, ch.isLt, dif_pos]
    split
    · exact faultSample_follows quiet s
    · exact goodSample_follows quiet _ s
  · cases (running_next (f := ageOut ch) live).symm.trans run
    exact ageOut_follows quiet s
  · cases (exec_centreMark live a).symm.trans run
    rw [if_neg (by rw [awake]; nofun)]
    exact stepAngle_follows a _ s

/-! ### A change of the degraded-sensor set (R28, R62) -/

section Set

variable (follows : s.Follows t)

include follows

theorem State.Follows.off (off : s.hl.configured = false) : t.rt = s.rt ∧ t.degraded = s.degraded := by
  obtain ⟨now, sp, mc, flags, rfl | ⟨rfl, -⟩⟩ := follows
  · rw [watchDegraded_off (s := s.sensing now sp mc flags) off]
    exact ⟨rfl, rfl⟩
  · exact ⟨rfl, rfl⟩

theorem State.Follows.watched (current : s.PlausCurrent) : ∃ now sp mc flags,
    t = watchDegraded (s.sensing now sp mc flags) ∧ degradedNow t = degradedNow (s.sensing now sp mc flags) := by
  obtain ⟨now, sp, mc, flags, rfl | ⟨rfl, same⟩⟩ := follows
  · exact ⟨now, sp, mc, flags, rfl, watchDegraded_set _⟩
  · exact ⟨now, sp, mc, flags, (watchDegraded_still (s := s.sensing now sp mc flags) ((plausCurrent_iff.mp current).trans same.symm)).symm, rfl⟩

theorem State.Follows.rests (current : s.PlausCurrent) (healthy : ¬ s.SomeDegraded) (healthy' : ¬ t.SomeDegraded) : t.rt = s.rt := by
  obtain ⟨now, sp, mc, flags, is, set⟩ := follows.watched current
  rw [someDegraded_iff, not_not] at healthy healthy'
  have still := watchDegraded_still (s := s.sensing now sp mc flags) ((plausCurrent_iff.mp current).trans (healthy.trans (healthy'.symm.trans set)))
  rw [is, still]
  rfl

variable (configured : s.hl.configured = true) (current : s.PlausCurrent)

include configured current

theorem State.Follows.stays_current : t.PlausCurrent := by
  obtain ⟨now, sp, mc, flags, rfl, -⟩ := follows.watched current
  exact watchDegraded_current (s := s.sensing now sp mc flags) configured

theorem State.Follows.places (healthy : ¬ s.SomeDegraded) (some' : t.SomeDegraded) (found : s.find .sensorDegrade .plaus = none)
    (room : ∃ i : Slot, 24 ≤ i.val ∧ s.recordAt i = none) (lists : ProfileCond.fixed .ownerRelease ∈ (s.profile .sensorDegrade).conds) :
    ∃ i r, t.recordAt i = some r ∧ r.FromRow .sensorDegrade .plaus (s.profile .sensorDegrade) ∧ t.DegradedScope r.scope ∧ t.EnvelopeLaw := by
  obtain ⟨now, sp, mc, flags, is, set⟩ := follows.watched current
  obtain ⟨j, high, free⟩ := room
  rw [someDegraded_iff, not_not] at healthy
  rw [someDegraded_iff, set] at some'
  obtain ⟨i, first⟩ := freeSlotFor_eq_some (s := s.sensing now sp mc flags) (o := .plaus) (decide_eq_true high) free
  have placed := watchDegraded_places (s := s.sensing now sp mc flags) configured ((plausCurrent_iff.mp current).trans healthy) some' found first lists
  have made := scopedRecord_fromRow (s := (s.sensing now sp mc flags).minded) (k := .sensorDegrade) (o := .plaus)
    (x := some (degradedScope (degradedNow (s.sensing now sp mc flags)))) nofun rfl
  refine ⟨i, _, ?_, made.1, degradedScope_iff.mpr (made.2.trans ?_), ?_⟩
  · rw [is, placed]
    exact (placed_changes ..).recordAt_self
  · rw [set]
    rfl
  · rw [is, placed]
    exact formEnvelope_envelopeLaw _

theorem State.Follows.amends (some' : s.SomeDegraded) (some'' : t.SomeDegraded) (found : s.find .sensorDegrade .plaus = some i)
    (stands : s.recordAt i = some r) (scope : s.DegradedScope r.scope) (active : r.state = .active) (waits : r.ownerRelease = false)
    (lists : Cond.ownerRelease ∈ r.conds) : ∃ x, t.DegradedScope x ∧ t.recordAt i = some { r with scope := x } ∧ (x = r.scope → t.rt = s.rt) := by
  obtain ⟨now, sp, mc, flags, is, set⟩ := follows.watched current
  rw [someDegraded_iff, ← plausCurrent_iff.mp current] at some'
  rw [someDegraded_iff, set] at some''
  refine ⟨degradedScope (degradedNow t), degradedScope_iff.mpr rfl, ?_⟩
  rw [degradedScope_iff, ← plausCurrent_iff.mp current] at scope
  by_cases same : s.degraded = degradedNow (s.sensing now sp mc flags)
  · have still := watchDegraded_still (s := s.sensing now sp mc flags) same
    rw [set, ← same, ← scope, is, still]
    exact ⟨stands, fun _ => rfl⟩
  · have amended := watchDegraded_amends (s := s.sensing now sp mc flags) configured some' some'' same found stands active waits lists
    rw [set, is, amended]
    split
    · next alike =>
      rw [← alike]
      exact ⟨stands, fun _ => rfl⟩
    · next other =>
      refine ⟨?_, fun alike => absurd alike.symm other⟩
      exact (amended_changes (s := (s.sensing now sp mc flags).minded) stands _).recordAt_self

theorem State.Follows.withdraws (some' : s.SomeDegraded) (healthy : ¬ t.SomeDegraded) (found : s.find .sensorDegrade .plaus = some i)
    (stands : s.recordAt i = some r) (goes : s.GoesAtOnce i r) : t.recordAt i = none ∧ t.EnvelopeLaw := by
  obtain ⟨now, sp, mc, flags, is, set⟩ := follows.watched current
  rw [someDegraded_iff, ← plausCurrent_iff.mp current] at some'
  rw [someDegraded_iff, not_not, set] at healthy
  rw [is, watchDegraded_withdraws (s := s.sensing now sp mc flags) configured some' healthy]
  exact withdraw_of_goesAtOnce (s := (s.sensing now sp mc flags).minded) found stands nofun goes

end Set

/-! ### PLAUS's operations create no record of another kind -/

theorem kneelChanged_outlived (k : Kind) (s : State) : Outlived s (kneelChanged k s) := by
  unfold kneelChanged
  split
  · exact evaluations_outlived [] _ s
  · exact .refl s

theorem retire_outlived (i : Slot) (s : State) : Outlived s (retire i s) := by
  unfold retire
  split
  · exact .refl s
  · exact (freeSlot_outlived i _ s).trans (evaluations_outlived [] _ _)

theorem checkRetire_outlived (i : Slot) (s : State) : Outlived s (checkRetire i s) := by
  unfold checkRetire
  split
  · split
    · exact retire_outlived i s
    · exact .refl s
  · exact .refl s

theorem ownerRetire_outlived (i : Slot) (s : State) : Outlived s (ownerRetire i s).2 := by
  have told : Outlived s (changeRecord i (fun r => { r with ownerRelease := true }) s) := changeRecord_outlived (f := Record.told) (fun _ => ⟨rfl, rfl, rfl, rfl⟩) i s
  unfold ownerRetire
  split
  · exact .refl s
  · split
    · exact retire_outlived i s
    · split
      · exact .refl s
      · exact told.trans (evaluate_outlived [] evalDepth i _)
    · exact .refl s

theorem withdraw_outlived (k : Kind) (o : Owner) (s : State) : Outlived s (withdraw k o s) := by
  unfold withdraw
  split
  · exact ownerRetire_outlived _ s
  · exact .refl s

theorem apply_keepsName (c : Change) : KeepsName c.apply := by
  intro r
  unfold Change.apply
  split
  all_goals exact ⟨rfl, rfl, rfl, rfl⟩

theorem amendRecord_outlived (i : Slot) (r : Record) (c : Change) (s : State) : Outlived s (amendRecord i r c s) := by
  have amended : Outlived s (s.amended i c) := (changeRecord_outlived (apply_keepsName c) i s).trans (formEnvelope_outlived _)
  have noticed : Outlived s (if c.isScope then noticeRising i (c.apply r) (s.amended i c) else s.amended i c) := by
    split
    · exact amended.trans (noticeRising_outlived _ _ _)
    · exact amended
  cases state : r.state with
  | armed =>
    rw [amendRecord_armed state]
    exact amended
  | active =>
    rw [amendRecord_active state]
    exact amended.trans (evaluate_outlived [] evalDepth i _)
  | releasing =>
    unfold amendRecord
    simp only [state]
    split
    · exact noticed.trans ((returnActive_outlived i _).trans (evaluate_outlived [] evalDepth i _))
    · exact noticed.trans (checkRetire_outlived i _)

theorem amendDegrade_outlived (x : Scope) (s : State) : Outlived s (amendDegrade x s) := by
  unfold amendDegrade
  split
  · split
    · exact .refl s
    · unfold amendOne
      dsimp only
      split
      · exact .refl s
      · split
        · exact .refl s
        · split
          · exact .refl s
          · split
            · exact .refl s
            · exact amendRecord_outlived _ _ _ s
  · exact .refl s

theorem reviveRecord_outlived (i : Slot) (k : Kind) (s : State) : Outlived s (reviveRecord i k s) :=
  (changeRecord_outlived (f := fun r => { r with ownerRelease := false }) (fun _ => ⟨rfl, rfl, rfl, rfl⟩) i s).trans ((returnActive_outlived i _).trans
    ((kneelChanged_outlived k _).trans (evaluate_outlived [] evalDepth i _)))

theorem Outlived.find_none {k : Kind} {o : Owner} (h : Outlived s t) (absent : s.find k o = none) : t.find k o = none := by
  cases found : t.find k o with
  | none => rfl
  | some j =>
    obtain ⟨q, stands, kind, owner⟩ := find_eq_some found
    obtain ⟨-, p, was, -, -, kind', owner'⟩ := h j q stands
    exact absurd (owner'.trans owner) (find_eq_none absent was (kind'.trans kind))

theorem placed_find_none {k : Kind} {o : Owner} (absent : s.find k o = none) (other : r.kind ≠ k) : (s.placed i r).find k o = none := by
  cases found : (s.placed i r).find k o with
  | none => rfl
  | some j =>
    obtain ⟨q, stands, kind, owner⟩ := find_eq_some found
    rw [(placed_changes i r s).recordAt] at stands
    split at stands
    · cases stands
      exact absurd kind other
    · exact absurd owner (find_eq_none absent stands kind)

theorem placeInternal_find_none {k k' : Kind} {o o' : Owner} (absent : s.find k o = none) (other : k' ≠ k) (x : Option Scope) :
    (placeInternal k' o' x s).find k o = none := by
  have placed (p : Placement) (kind : p.kind = k') (rootless : p.parent = none) : (placeRecord p s).state.find k o = none := by
    have new : (placeNew p s).state.find k o = none := by
      unfold placeNew
      rw [rootless]
      dsimp only [checkParent]
      split
      · exact absent
      · next j _ =>
        rw [createRecord_rootless (r := newRecord s p none 1) rfl]
        have made : (s.placed j (newRecord s p none 1)).find k o = none := placed_find_none absent (kind.symm ▸ other : p.kind ≠ k)
        exact ((kneelChanged_outlived _ _).trans (evaluate_outlived [] evalDepth j _)).find_none made
    unfold placeRecord
    split
    · exact absent
    · split
      · exact absent
      · split
        · split
          · unfold placeAgain
            split
            · exact absent
            · exact absent
            · exact (reviveRecord_outlived _ _ s).find_none absent
          · exact new
        · exact new
  have emptied (y : State) (h : y.find k o = none) : (emptyReleaseSet y).find k o = none := (outlived_of_rt (emptyReleaseSet_rt y)).find_none h
  unfold placeInternal
  dsimp only
  split
  · exact emptied _ (placed _ rfl rfl)
  · exact emptied _ (placed _ rfl rfl)
  · exact placed _ rfl rfl

theorem watchDegraded_find_none {k : Kind} {o : Owner} (absent : s.find k o = none) (other : .sensorDegrade ≠ k) : (watchDegraded s).find k o = none := by
  unfold watchDegraded
  split
  · exact absent
  · dsimp only
    split
    · exact absent
    · unfold degradedChanged
      split
      · exact (withdraw_outlived _ _ _).find_none absent
      · dsimp only
        refine (amendDegrade_outlived _ _).find_none ?_
        split
        · exact placeInternal_find_none (s := { s with degraded := degradedNow s }) absent other _
        · exact absent

/-! ### The comparators of the reservoir (R51) -/

theorem reserveEvent_reserve (x : Level) (s : State) : (reserveEvent x s).lc.reserve = x := by
  have arbitrated (y : State) : (arbitrate y).lc.reserve = y.lc.reserve := (arbitrate_commands (fun _ => True) y).stands.reserve
  have stopped (y : State) : (forAll 6 (fun c s => stopLevel c .first s) y).lc.reserve = y.lc.reserve :=
    (forAll_stands (f := fun c s => stopLevel c .first s) (fun c s => (stopLevel_commands (fun _ => True) c .first s).stands) y).reserve
  unfold reserveEvent
  dsimp only
  split
  · rfl
  · split
    · exact arbitrated _
    · exact stopped _

variable {l m n : Level}

/-- The comparators read anew: AIR is set and the Levelling Controller told, before PLAUS looks at CRITICAL. -/
theorem setComparators_eq (l m n : Level) (s : State) : ∃ u : State, u.rt = s.rt ∧ u.sp = { s.sp with reserve := l, low := m, critical := n } ∧
    u.hl.configured = s.hl.configured ∧ u.lc.reserve = (if l = s.sp.reserve then s.lc.reserve else l) ∧
    setComparators l m n s = if n = s.sp.critical then u else watchCritical u := by
  have set (b : Bool) (x : State) : setFlagIf b .air x = { x with hl := { x.hl with flags := (setFlagIf b .air x).hl.flags } } := by
    unfold setFlagIf
    split
    · rfl
    · rfl
  unfold setComparators
  dsimp only
  rw [set]
  generalize (setFlagIf (l != s.sp.reserve || m != s.sp.low || n != s.sp.critical) Flag.air _).hl.flags = flags
  refine ⟨_, ?_, ?_, ?_, ?_, rfl⟩
  · split
    · rfl
    · exact (reserveEvent_only ..).rt
  · split
    · rfl
    · exact (reserveEvent_only ..).sp
  · split
    · rfl
    · exact (congrArg HostLink.configured (reserveEvent_only ..).hl :)
  · split
    · rfl
    · exact reserveEvent_reserve ..

end Sys2Proof.Machine
end

section
/-! PROOFS. PLAUS at a reservoir word and at CONFIG_DONE (R51, R62, O24). -/

namespace Sys2Proof.Machine

variable {s t u : State} {i j : Slot} {r : Record} {k : Kind} {o : Owner}

theorem find_of_rt (same : t.rt = s.rt) : t.find k o = s.find k o := by
  unfold State.find State.recordAt
  rw [same]

theorem goesAtOnce_of_rt (same : t.rt = s.rt) : t.GoesAtOnce i r ↔ s.GoesAtOnce i r := by
  unfold State.GoesAtOnce State.hasChild State.handleAt
  rw [same]

/-! ### A record of PLAUS placed from its row -/

/-- R62, R27: the record of AIR_CRITICAL is placed from its row. -/
theorem watchCritical_places (configured : s.hl.configured = true) (below : s.sp.critical = .below) (found : s.find .airCritical .plaus = none)
    (high : 24 ≤ j.val) (free : s.recordAt j = none) (lists : ProfileCond.fixed .ownerRelease ∈ (s.profile .airCritical).conds) :
    ∃ i r, (watchCritical s).recordAt i = some r ∧ r.FromRow .airCritical .plaus (s.profile .airCritical) ∧ (watchCritical s).EnvelopeLaw := by
  obtain ⟨i, first⟩ := freeSlotFor_eq_some (o := .plaus) (decide_eq_true high) free
  have placed := placeInternal_row (k := .airCritical) (o := .plaus) (x := none) rfl nofun nofun found first lists
  have taken : watchCritical s = placeInternal .airCritical .plaus none s := by
    unfold watchCritical
    simp [configured, below]
  rw [taken, placed]
  exact ⟨i, _, (placed_changes ..).recordAt_self, (scopedRecord_fromRow (k := .airCritical) nofun rfl).1, formEnvelope_envelopeLaw _⟩

theorem watchCritical_withdraws (configured : s.hl.configured = true) (above : s.sp.critical = .above) :
    watchCritical s = withdraw .airCritical .plaus s := by
  unfold watchCritical
  simp [configured, above]

/-! ### A reservoir word (R51) -/

/-- The part as the reservoir's sample has taken a good word. -/
def State.filled (s : State) (v : Nat) : State := changeSample 20 (fun r => { r with value := v, ageAt := some (s.now + 30 * ms) }) s

theorem exec_reservoirWord (live : s.resetHeld = false) (awake : s.inReset .sense = false) (valid : (s.sample 20).state = .valid) (v : BitVec 11) :
    exec (.sampleWord 20 false v) s = .next (evalComparators (min v.toNat 1200) (s.filled (min v.toNat 1200))) := by
  refine (running_next (f := takeSample 20 false v) live).trans (congrArg Host.Outcome.next ?_)
  have still : ((s.filled (min v.toNat 1200)).sample 20).state = .valid := by
    unfold State.filled State.sample changeSample
    rw [upd_get_self]
    exact valid
  have set : setSampleState 20 .valid (s.filled (min v.toNat 1200)) = s.filled (min v.toNat 1200) := if_pos still
  unfold takeSample
  rw [if_neg (by rw [awake]; nofun)]
  change goodSample 20 v.toNat s = _
  unfold goodSample
  dsimp only
  rw [dif_neg (by decide)]
  exact congrArg (evalComparators (min v.toNat 1200)) set

theorem reservoir_follows (live : s.resetHeld = false) (awake : s.inReset .sense = false) (valid : (s.sample 20).state = .valid) {v : BitVec 11}
    (run : exec (.sampleWord 20 false v) s = .next t) :
    (t.flag .air = true ↔ s.flag .air = true ∨ t.sp.reserve ≠ s.sp.reserve ∨ t.sp.low ≠ s.sp.low ∨ t.sp.critical ≠ s.sp.critical) ∧
    ∃ u : State, u.rt = s.rt ∧ u.hl.configured = s.hl.configured ∧ u.sp.critical = t.sp.critical ∧
      u.lc.reserve = (if t.sp.reserve = s.sp.reserve then s.lc.reserve else t.sp.reserve) ∧
      t = if t.sp.critical = s.sp.critical then u else watchCritical u := by
  cases (exec_reservoirWord live awake valid v).symm.trans run
  unfold evalComparators
  rw [setComparators_air, setComparators_sp]
  refine ⟨Iff.rfl, ?_⟩
  obtain ⟨u, rt, sp, configured, reserve, is⟩ := setComparators_eq _ _ _ (s.filled (min v.toNat 1200))
  exact ⟨u, rt, configured, congrArg SensePort.critical sp, reserve, is⟩

/-! ### CONFIG_DONE -/

theorem degradedNow_table (table : TableOnly s t) (stands : CornersStand s t) : degradedNow t = degradedNow s :=
  degradedNow_congr (fun ch => by rw [State.sample, table.sp]; rfl) (by rw [table.mc]) (by rw [table.mc]) stands.check

theorem State.PlausCurrent.table (current : s.PlausCurrent) (table : TableOnly s t) (stands : CornersStand s t) : t.PlausCurrent :=
  plausCurrent_iff.mpr (table.degraded.trans ((plausCurrent_iff.mp current).trans (degradedNow_table table stands).symm))

/-- The part as the records that list CONFIG_DONE have been looked at (R176). -/
def State.begun (s : State) : State := evalListing (· == .configDone) s.configuring

theorem begun_table (s : State) : TableOnly s.configuring s.begun := evalListing_table ..

theorem begun_outlived (s : State) : Outlived s s.begun := evaluations_outlived [] _ s.configuring

theorem begun_set (s : State) : degradedNow s.begun = degradedNow s :=
  (degradedNow_table (begun_table s) (cornersStand_frame.evalListing _ _)).trans (degradedNow_congr (fun _ => rfl) rfl rfl fun _ => rfl)

theorem begun_configured (s : State) : s.begun.hl.configured = true := (congrArg HostLink.configured (begun_table s).hl :)

theorem begun_profile (s : State) (k : Kind) : s.begun.profile k = s.profile k := by
  unfold State.profile
  rw [(begun_table s).profiles]
  rfl

/-- What PLAUS's taking of CRITICAL, if it is BELOW, leaves of the taking of the set. -/
theorem startWatching_links (s : State) : TableOnly (watchDegraded s) (startWatching s) ∧ CornersStand (watchDegraded s) (startWatching s) := by
  unfold startWatching
  dsimp only
  split
  · exact ⟨watchCritical_table _, cornersStand_frame.watchCritical _⟩
  · exact ⟨.refl _, .refl _⟩

theorem startWatching_current (configured : s.hl.configured = true) : (startWatching s).PlausCurrent :=
  (watchDegraded_current configured).table (startWatching_links s).1 (startWatching_links s).2

theorem startWatching_set (s : State) : degradedNow (startWatching s) = degradedNow s :=
  (degradedNow_table (startWatching_links s).1 (startWatching_links s).2).trans (watchDegraded_set s)

theorem startWatching_degrades (empty : s.degraded = 0) (some' : s.SomeDegraded) (found : s.find .sensorDegrade .plaus = none) (high : 24 ≤ i.val)
    (free : s.recordAt i = none) (lists : ProfileCond.fixed .ownerRelease ∈ (s.profile .sensorDegrade).conds) :
    ∃ k r, (startWatching s.begun).recordAt k = some r ∧ r.FromRow .sensorDegrade .plaus (s.profile .sensorDegrade) ∧
      r.scope = degradedScope (degradedNow s) := by
  obtain ⟨k, first⟩ := freeSlotFor_eq_some (s := s.begun) (o := .plaus) (decide_eq_true high) ((begun_outlived s).free free)
  rw [someDegraded_iff, ← begun_set] at some'
  have lists' : ProfileCond.fixed .ownerRelease ∈ (s.begun.profile .sensorDegrade).conds := by
    rw [begun_profile]
    exact lists
  have placed := watchDegraded_places (begun_configured s) ((begun_table s).degraded.trans empty) some' ((begun_outlived s).find_none found) first lists'
  have made := scopedRecord_fromRow (s := s.begun.minded) (k := .sensorDegrade) (o := .plaus) (x := some (degradedScope (degradedNow s.begun))) nofun rfl
  have fresh := scopedRecord_fresh (s := s.begun.minded) (o := .plaus) (x := some (degradedScope (degradedNow s.begun))) lists'
  have kind : (s.begun.minded.scopedRecord .sensorDegrade .plaus (some (degradedScope (degradedNow s.begun)))).kind = .sensorDegrade := rfl
  generalize s.begun.minded.scopedRecord .sensorDegrade .plaus (some (degradedScope (degradedNow s.begun))) = r at placed made fresh kind
  have slot := ((placed_changes k r s.begun.minded).slot k).trans (if_pos rfl)
  rw [← placed] at slot
  have stays : (startWatching s.begun).rt.slots[k.val] = ⟨(s.begun.minded.rt.slots[k.val]).gen, some r⟩ := by
    unfold startWatching
    dsimp only
    split
    · exact watchCritical_stays (stillAt_fresh fresh _) slot (by rw [kind]; nofun)
    · exact slot
  refine ⟨k, r, congrArg SlotEntry.record stays, ?_, ?_⟩
  · rw [← begun_profile]
    exact made.1
  · rw [← begun_set]
    exact made.2

theorem startWatching_critical (below : s.sp.critical = .below) (found : s.find .airCritical .plaus = none) (high : 24 ≤ i.val) (high' : 24 ≤ j.val)
    (other : i ≠ j) (free : s.recordAt i = none) (free' : s.recordAt j = none)
    (lists : ProfileCond.fixed .ownerRelease ∈ (s.profile .airCritical).conds) :
    ∃ k r, (startWatching s.begun).recordAt k = some r ∧ r.FromRow .airCritical .plaus (s.profile .airCritical) := by
  have critical : (watchDegraded s.begun).sp.critical = .below := by
    rw [watchDegraded_sp, (begun_table s).sp]
    exact below
  have still {l : Slot} (free : s.recordAt l = none) (spared : ∀ k, freeSlotFor s.begun .plaus = some k → k ≠ l) : (watchDegraded s.begun).recordAt l = none := by
    have slot : s.begun.rt.slots[l.val] = ⟨(s.begun.rt.slots[l.val]).gen, none⟩ := congrArg (SlotEntry.mk _) ((begun_outlived s).free free)
    refine congrArg SlotEntry.record ((stillAt_free l _).watchDegraded slot (fun x slot k found => ?_) spared)
    rintro rfl
    obtain ⟨q, stands, -⟩ := find_eq_some found
    cases stands.symm.trans (congrArg SlotEntry.record slot)
  have room : ∃ l : Slot, 24 ≤ l.val ∧ (watchDegraded s.begun).recordAt l = none := by
    by_cases taken : freeSlotFor s.begun .plaus = some i
    · refine ⟨j, high', still free' fun k first => ?_⟩
      cases taken.symm.trans first
      exact other
    · exact ⟨i, high, still free fun k first same => taken (same ▸ first)⟩
  obtain ⟨l, high, free⟩ := room
  have sense := watchDegraded_sense s.begun
  have profile : (watchDegraded s.begun).profile .airCritical = s.profile .airCritical := by
    rw [← begun_profile (s := s), State.profile, sense.profiles]
    rfl
  have configured : (watchDegraded s.begun).hl.configured = true := (congrArg HostLink.configured sense.hl :).trans (begun_configured s)
  obtain ⟨k, r, stands, row, -⟩ := watchCritical_places configured critical
    (watchDegraded_find_none ((begun_outlived s).find_none found) nofun) high free (by rw [profile]; exact lists)
  rw [profile] at row
  refine ⟨k, r, ?_, row⟩
  unfold startWatching
  dsimp only
  rw [if_pos critical]
  exact stands

/-- Settles O24. -/
theorem plausFollows : Obligations.PlausFollows := by
  refine ⟨fun s t c live awake run sampled => ?_, fun s t v live awake valid run => ?_,
    fun s t f o i j live config empty owner payload run high high' other free free' => ?_⟩
  · have follows := quiet_follows live awake run sampled
    exact ⟨follows.off, fun configured current => ⟨follows.stays_current configured current, follows.rests current,
      follows.places configured current, fun i r found stands =>
        ⟨fun some' some'' scope active waits lists => follows.amends configured current some' some'' found stands scope active waits lists,
         fun some' healthy goes => follows.withdraws configured current some' healthy found stands goes⟩⟩⟩
  · obtain ⟨air, u, rt, configured, critical, reserve, is⟩ := reservoir_follows live awake valid run
    refine ⟨air, ?_, fun quiet => ?_, fun on below above found ⟨j, high, free⟩ lists => ?_, fun on above below i r found stands goes => ?_⟩
    · by_cases same : t.sp.critical = s.sp.critical
      · rw [if_pos same] at is
        rw [← reserve, ← is]
      · rw [if_neg same] at is
        rw [← reserve, is]
        exact (cornersStand_frame.watchCritical u).reserve
    · by_cases same : t.sp.critical = s.sp.critical
      · rw [if_pos same] at is
        rw [is, rt]
      · rw [if_neg same, watchCritical_off (configured.trans (quiet.resolve_right same))] at is
        rw [is, rt]
    · rw [if_neg (by rw [below, above]; nofun)] at is
      have profile : u.profile .airCritical = s.profile .airCritical := by rw [State.profile, rt]; rfl
      have places := watchCritical_places (s := u) (configured.trans on) (critical.trans below) ((find_of_rt rt).trans found) high
        ((outlived_of_rt rt).free free) (by rw [profile]; exact lists)
      rw [profile, ← is] at places
      exact places
    · rw [if_neg (by rw [below, above]; nofun), watchCritical_withdraws (configured.trans on) (critical.trans above)] at is
      rw [is]
      have stands' : u.recordAt i = some r := by rw [State.recordAt, rt]; exact stands
      exact withdraw_of_goesAtOnce ((find_of_rt rt).trans found) stands' nofun ((goesAtOnce_of_rt rt).mpr goes)
  · have done := exec_configDone live owner payload
    rw [if_neg (by rw [config]; nofun), configure_eq] at done
    cases done.symm.trans run
    have current := startWatching_current (begun_configured (s.taking f))
    have set := (startWatching_set (s.taking f).begun).trans (begun_set _)
    have degrades := startWatching_degrades (s := s.taking f) (i := i) empty
    have critical := startWatching_critical (s := s.taking f) (i := i) (j := j)
    change degradedNow _ = degradedNow s at set
    rw [show (evalListing (· == .configDone) (s.taking f).configuring) = (s.taking f).begun from rfl]
    generalize startWatching (s.taking f).begun = t at current set degrades critical ⊢
    refine ⟨current, fun some' found lists => ?_, fun below found lists => critical below found high high' other free free' lists⟩
    obtain ⟨k, r, stands, row, scope⟩ := degrades some' found high free lists
    refine ⟨k, r, stands, row, degradedScope_iff.mpr (scope.trans (congrArg degradedScope ?_))⟩
    exact set.symm

end Sys2Proof.Machine
end

section
/-! PROOFS. A corner whose sensor check is not NORMAL is left alone by the forming of the envelope (R108, R117); how a corner meets its height
record (R117, R118). -/

namespace Sys2Proof.Machine

variable {s t u : State} {c d : Corner}

/-! ### Properties of the corners that PLAUS leaves standing -/

/-- Of the controller only the rising list differs, and no corner's valve. -/
structure LevelKept (s t : State) : Prop where
  lc     : t.lc = { s.lc with rising := t.lc.rising }
  valves : t.valves.level = s.valves.level
  reset  : t.inReset .level = s.inReset .level

theorem LevelKept.corner (h : LevelKept s t) (c : Corner) : t.corner c = s.corner c := by
  rw [State.corner, h.lc]
  rfl

theorem LevelKept.granted (h : LevelKept s t) (c : Corner) : t.granted c = s.granted c := granted_eq_of (by rw [h.lc]) c

/-- What the forming of the envelope keeps, the table's operations keep. -/
theorem FormStable.frame {P : State → Prop} (h : FormStable P) (kept : ∀ {s t}, LevelKept s t → P s → P t) : TableFrame fun s t => P s → P t where
  refl _ := id
  trans h k := k ∘ h
  records _ _ := kept ⟨rfl, rfl, rfl⟩
  form _ := h.form
  rising _ _ := kept ⟨rfl, rfl, rfl⟩
  flag _ := kept ⟨rfl, rfl, rfl⟩
  service _ := kept ⟨rfl, rfl, rfl⟩
  degraded _ _ := kept ⟨rfl, rfl, rfl⟩
  doors s := kept (by
    rw [emptyReleaseSet, setReleaseSet_eq]
    exact ⟨rfl, rfl, rfl⟩)

/-- A corner that is not NORMAL and does not wait, with its pair and its grant. -/
def State.Spared (c : Corner) (v : Pair) (g : Bool) (s : State) : Prop :=
  s.inReset .level = false ∧ (s.corner c).check ≠ .normal ∧ (s.corner c).waiting = none ∧ s.valves.level[c.val] = v ∧ s.granted c = g

/-- R108: no command is formed for it. -/
theorem spared_formStable (c : Corner) (v : Pair) (g : Bool) : FormStable (State.Spared c v g) where
  stored h := h
  inhibit _ h := h
  offset {s} d f h := by
    obtain ⟨live, check, out, level, granted⟩ := h
    refine ⟨live, ?_, ?_, level, granted⟩
    all_goals
      by_cases here : d = c
      · subst here
        rw [changeCorner_corner_self]
        assumption
      · rw [changeCorner_corner_ne _ _ here]
        assumption
  halt h := h
  command {s} d _ h := by
    obtain ⟨live, check, out, level, granted⟩ := h
    by_cases here : c = d
    · subst here
      have idle : commandFromLast c s = s := by
        unfold commandFromLast
        dsimp only
        split
        · exact if_neg (by simp [check])
        · rfl
      rw [idle]
      exact ⟨live, check, out, level, granted⟩
    · obtain ⟨out', granted', level'⟩ := (commandFromLast_awaits live here).kept out
      exact ⟨((commandFromLast_only d s).inReset .level).trans live, by rw [(commandFromLast_commands d s).stands.check]; exact check,
        out'.trans out, level'.trans level, granted'.trans granted⟩

theorem spared_frame (c : Corner) (v : Pair) (g : Bool) : TableFrame fun s t => State.Spared c v g s → State.Spared c v g t :=
  (spared_formStable c v g).frame fun kept ⟨live, check, out, level, granted⟩ =>
    ⟨kept.reset.trans live, by rw [kept.corner]; exact check, by rw [kept.corner]; exact out, by rw [kept.valves]; exact level,
      (kept.granted c).trans granted⟩

/-! ### The freezing of a corner (R117) -/

/-- The part as a corner has left the waiting set and dropped its samples. -/
def State.emptied (s : State) (c : Corner) : State := changeCorner c (fun r => { r with sum := 0, count := 0, last := none }) (leaveWaiting c s)

theorem emptied_corner (s : State) (c : Corner) : (s.emptied c).corner c = { s.corner c with waiting := none, sum := 0, count := 0, last := none } := by
  rw [State.emptied, changeCorner_corner_self, leaveWaiting, changeCorner_corner_self]

/-- A corner whose program, if it holds a grant, has a completion, gives its grant back when its FILL is stopped. -/
theorem stopFill_ungrants (live : s.inReset .level = false) (out : (s.corner c).waiting = none)
    (rule : s.granted c = true → s.valves.level[c.val].first.prog.completes = true) : (stopLevel c .first s).granted c = false := by
  by_cases completes : s.valves.level[c.val].first.prog.completes = true
  · have holds : (s.valves.level[c.val].at .first).holds = true := by
      simpa [Generator.holds, Pair.at] using Program.completes_ne_idle completes
    have stopped : stopLevel c .first s = handLevel c .first .idle s := if_pos holds
    rw [stopped]
    exact handLevel_ungrants live out completes
  · have ungranted : s.granted c = false := Bool.eq_false_iff.mpr fun held => completes (rule held)
    have uncut : s.valves.level[c.val].cuts .first .first .idle = false := Bool.eq_false_iff.mpr completes
    unfold stopLevel
    split
    · rw [handLevel_uncut live uncut]
      exact ungranted
    · exact ungranted

/-- The part as a corner's FILL is stopped on its way to freezing. -/
def State.stilled (s : State) (c : Corner) : State := stopLevel c .first (s.emptied c)

theorem stilled_live (live : s.inReset .level = false) (c : Corner) : (s.stilled c).inReset .level = false :=
  ((stopLevel_only c .first (s.emptied c)).inReset .level).trans live

theorem freeze_pair (live : s.inReset .level = false) (c : Corner) :
    ((freeze c s).gen (.fill c)).prog = .idle ∧ ((freeze c s).gen (.cornerExhaust c)).prog = .idle ∧ ((freeze c s).corner c).waiting = none := by
  obtain ⟨first, out⟩ := stopLevel_pair (s := s.emptied c) (c := c) live (by rw [emptied_corner]) .first
  obtain ⟨second, out'⟩ := stopLevel_pair (s := s.stilled c) (stilled_live live c) out .second
  have pair : (freeze c s).valves.level[c.val] = (((s.emptied c).valves.level[c.val]).stopped s.now .first).stopped (s.stilled c).now .second := by
    exact second.trans (congrArg (Pair.stopped (s.stilled c).now .second) first)
  refine ⟨?_, ?_, out'⟩
  · have kept := Pair.stopped_other (s.stilled c).now .second (((s.emptied c).valves.level[c.val]).stopped s.now .first)
    have idle := Pair.stopped_prog s.now .first ((s.emptied c).valves.level[c.val])
    exact (congrArg (fun x : Pair => x.first.prog) pair).trans ((congrArg Generator.prog kept).trans idle)
  · have idle := Pair.stopped_prog (s.stilled c).now .second (((s.emptied c).valves.level[c.val]).stopped s.now .first)
    exact (congrArg (fun x : Pair => x.second.prog) pair).trans idle

theorem freeze_stands (c : Corner) (s : State) : CornersStand (s.emptied c) (freeze c s) :=
  (stopLevel_commands (fun _ => True) c .first (s.emptied c)).stands.trans (stopLevel_commands (fun _ => True) c .second (s.stilled c)).stands

theorem freeze_ungrants (live : s.inReset .level = false) (rule : s.granted c = true → s.valves.level[c.val].first.prog.completes = true) :
    (freeze c s).granted c = false :=
  (granted_eq_of (congrArg LevellingController.grants (stopExhaust_lc c (s.stilled c))) c).trans
    (stopFill_ungrants (s := s.emptied c) live (by rw [emptied_corner]) rule)

/-! ### A corner meets its height record (R117, R118) -/

/-- What the meeting of a height record looks at is as in another state. -/
structure Alike (c : Corner) (s t : State) : Prop where
  held       : t.resetHeld = s.resetHeld
  reset      : t.inReset .level = s.inReset .level
  check      : (t.corner c).check = (s.corner c).check
  strobe     : (t.corner c).strobe = (s.corner c).strobe
  checkAt    : (t.corner c).checkAt = (s.corner c).checkAt
  recoveryAt : (t.corner c).recoveryAt = (s.corner c).recoveryAt
  granted    : t.granted c = s.granted c
  level      : t.valves.level = s.valves.level

/-- What the meeting of a height record looks at is as in `s`, and a granted corner's FILL completes if `s` meets the fill law. -/
structure SameCheck (c : Corner) (s t : State) : Prop where
  check      : (t.corner c).check = (s.corner c).check
  strobe     : (t.corner c).strobe = (s.corner c).strobe
  checkAt    : (t.corner c).checkAt = (s.corner c).checkAt
  recoveryAt : (t.corner c).recoveryAt = (s.corner c).recoveryAt
  completes  : s.FillLaw → t.granted c = true → t.valves.level[c.val].first.prog.completes = true

/-- R110: a granted corner's FILL runs a program that completes. -/
theorem State.FillLaw.completes (law : s.FillLaw) (live : s.resetHeld = false) (granted : s.granted c = true) :
    s.valves.level[c.val].first.prog.completes = true :=
  have rules := fillLaw_iff.mp law live
  rules.completes c ((rules.granted c).mp granted)

theorem Alike.same (alike : Alike c s t) (up : s.resetHeld = false) : SameCheck c s t := by
  refine ⟨alike.check, alike.strobe, alike.checkAt, alike.recoveryAt, fun law granted => ?_⟩
  rw [alike.level]
  exact law.completes up (alike.granted.symm.trans granted)

/-- R117: a NORMAL corner is frozen, and `f` says what becomes of its check. -/
theorem SameCheck.frozen (alike : SameCheck c s t) (live : t.inReset .level = false) {f : CornerRecord → CornerRecord}
    (own : ∀ r : CornerRecord, f r = { r with check := (f r).check, strobe := (f r).strobe, checkAt := (f r).checkAt }) :
    (changeCorner c f (freeze c t)).Frozen c ∧ ((changeCorner c f (freeze c t)).corner c).recoveryAt = (s.corner c).recoveryAt ∧
      (s.FillLaw → (changeCorner c f (freeze c t)).granted c = false) := by
  obtain ⟨fill, exhaust, out⟩ := freeze_pair live c
  have corner := ((freeze_stands c t).corner c).eq
  rw [emptied_corner] at corner
  have changed : (changeCorner c f (freeze c t)).corner c = _ := (changeCorner_corner_self _ c f).trans (own _)
  refine ⟨⟨fill, exhaust, ?_, ?_, ?_, ?_⟩, ?_, fun law => freeze_ungrants live (alike.completes law)⟩
  · rw [changed]
    exact out
  · rw [changed, corner]
  · rw [changed, corner]
  · rw [changed, corner]
  · rw [changed, corner]
    exact alike.recoveryAt

theorem freeze_now (c : Corner) (s : State) : (freeze c s).now = s.now :=
  (stopLevel_only c .second (s.stilled c)).now.trans (stopLevel_only c .first (s.emptied c)).now

theorem declareDegraded_corner (c : Corner) (s : State) :
    (declareDegraded c s).corner c = { (freeze c s).corner c with check := .degraded, checkAt := none } := changeCorner_corner_self ..

theorem freeze_strobe (c : Corner) (s : State) : ((freeze c s).corner c).strobe = (s.corner c).strobe := by
  rw [((freeze_stands c s).corner c).eq, emptied_corner]

theorem beginStrobe_corner (c : Corner) (s : State) :
    (beginStrobe c s).corner c = { (freeze c s).corner c with check := .strobe, strobe := true, checkAt := some (s.now + 20 * ms) } := changeCorner_corner_self ..

theorem declareDegraded_met (alike : SameCheck c s t) (live : t.inReset .level = false) {x : SampleState}
    (normal : (s.corner c).check = .normal) (is : checkAfter .normal (s.corner c).recoveryAt.isSome x = .degraded) :
    s.HeightMet (declareDegraded c t) c x := by
  obtain ⟨frozen, recovery, ungrants⟩ := alike.frozen live (f := fun r => { r with check := .degraded, checkAt := none }) fun _ => rfl
  rw [changeCorner_corner_self] at recovery
  unfold State.HeightMet
  dsimp only
  rw [normal, is, declareDegraded_corner, freeze_strobe, alike.strobe]
  exact ⟨rfl, fun _ _ => ⟨frozen, recovery, ungrants⟩, nofun, fun _ _ => ⟨rfl, rfl⟩, nofun, nofun⟩

theorem beginStrobe_met (alike : SameCheck c s t) (live : t.inReset .level = false) {x : SampleState}
    (normal : (s.corner c).check = .normal) (is : checkAfter .normal (s.corner c).recoveryAt.isSome x = .strobe) :
    s.HeightMet (beginStrobe c t) c x := by
  obtain ⟨frozen, recovery, ungrants⟩ := alike.frozen live (f := fun r => { r with check := .strobe, strobe := true, checkAt := some (t.now + 20 * ms) }) fun _ => rfl
  rw [changeCorner_corner_self] at recovery
  have now : (beginStrobe c t).now = t.now := freeze_now c t
  unfold State.HeightMet
  dsimp only
  rw [normal, is, beginStrobe_corner, now]
  exact ⟨rfl, fun _ _ => ⟨frozen, recovery, ungrants⟩, fun _ _ => ⟨rfl, rfl⟩, nofun, nofun, nofun⟩

theorem recoverCorner_met {x : SampleState} (degraded : (s.corner c).check = .degraded)
    (is : checkAfter .degraded (s.corner c).recoveryAt.isSome x = .normal) : s.HeightMet (recoverCorner c t) c x := by
  have corner : (recoverCorner c t).corner c = { t.corner c with check := .normal, checkAt := none, recoveryAt := some (t.now + 60000 * ms) } :=
    changeCorner_corner_self ..
  have flag : (recoverCorner c t).flag .sensor = true := by
    rw [recoverCorner, setFlag_flag]
    rfl
  unfold State.HeightMet
  dsimp only
  rw [degraded, is, corner]
  exact ⟨rfl, nofun, nofun, nofun, fun _ _ => ⟨rfl, rfl, flag⟩, nofun⟩

/-- A corner that a height record's state does not move is as it was. -/
theorem SameCheck.met (alike : SameCheck c s t) {x : SampleState} (is : checkAfter (s.corner c).check (s.corner c).recoveryAt.isSome x = (s.corner c).check) :
    s.HeightMet t c x := by
  unfold State.HeightMet
  dsimp only
  rw [is]
  refine ⟨alike.check, fun normal other => absurd normal other, fun normal strobe => ?_, fun normal degraded => ?_, fun degraded normal => ?_,
    fun _ => ⟨alike.strobe, alike.checkAt, alike.recoveryAt⟩⟩
  · cases normal.symm.trans strobe
  · cases normal.symm.trans degraded
  · cases degraded.symm.trans normal

/-- R117, R118. -/
theorem meetHeight_met (alike : SameCheck c s t) (live : t.inReset .level = false) (x : SampleState) :
    s.HeightMet (meetHeight c x t) c x := by
  unfold meetHeight
  rw [alike.check, alike.recoveryAt]
  cases check : (s.corner c).check with
  | normal =>
    cases x with
    | valid => exact alike.met (by rw [check]; rfl)
    | stale => exact declareDegraded_met alike live check rfl
    | fault =>
      dsimp only
      split
      · next window => exact declareDegraded_met alike live check (if_pos window)
      · next window => exact beginStrobe_met alike live check (if_neg window)
  | degraded =>
    cases x with
    | valid => exact recoverCorner_met check rfl
    | stale => exact alike.met (by rw [check]; rfl)
    | fault => exact alike.met (by rw [check]; rfl)
  | strobe => exact alike.met (by rw [check]; rfl)
  | wait => exact alike.met (by rw [check]; rfl)

/-- What PLAUS does next leaves a met height record met. -/
theorem State.HeightMet.carry {x : SampleState} (met : s.HeightMet u c x) (live : u.inReset .level = false) (stands : (u.corner c).Stands (t.corner c))
    (spared : ∀ v g, u.Spared c v g → t.Spared c v g) (now : t.now = u.now) (flags : FlagsStay u t) : s.HeightMet t c x := by
  obtain ⟨check, frozen, strobes, declares, recovers, rests⟩ := met
  have corner := stands.eq
  unfold State.HeightMet
  dsimp only
  rw [show (t.corner c).check = (u.corner c).check by rw [corner], now, show (t.corner c).recoveryAt = (u.corner c).recoveryAt by rw [corner],
    show (t.corner c).strobe = (u.corner c).strobe by rw [corner], show (t.corner c).checkAt = (u.corner c).checkAt by rw [corner]]
  refine ⟨check, fun normal other => ?_, strobes, declares, fun degraded normal => ?_, rests⟩
  · obtain ⟨⟨fill, exhaust, out, sum, count, last⟩, recovery, ungranted⟩ := frozen normal other
    obtain ⟨-, -, out', level, granted⟩ := spared _ _ ⟨live, check ▸ other, out, rfl, rfl⟩
    refine ⟨⟨?_, ?_, out', ?_, ?_, ?_⟩, recovery, fun law => granted.trans (ungranted law)⟩
    · exact (congrArg (fun x : Pair => x.first.prog) level).trans fill
    · exact (congrArg (fun x : Pair => x.second.prog) level).trans exhaust
    · rw [corner]
      exact sum
    · rw [corner]
      exact count
    · rw [corner]
      exact last
  · obtain ⟨checkAt, recovery, flag⟩ := recovers degraded normal
    exact ⟨checkAt, recovery, flags.stays .sensor flag⟩

end Sys2Proof.Machine
end

section
/-! PROOFS. What a sample word and an age timer leave in the Sense Port, in the flags and in the corner of a height (R44 to R47, R102). -/

namespace Sys2Proof.Machine

variable {s t u : State} {c : Corner} {ch : Channel} {x : SampleState} {l m n : Level} {v : Nat}

/-! ### Flags -/

theorem LevelOnly.flagsStay (h : LevelOnly s t) : FlagsStay s t := h.recordFlag.toFlagsStay

theorem setFlag_flagsStay (fl : Flag) (s : State) : FlagsStay s (setFlag fl s) := ⟨fun _ set => setFlag_stays set⟩

theorem watchDegraded_flagsStay (s : State) : FlagsStay s (watchDegraded s) := (recordFlag_frame.watchDegraded s).toFlagsStay

theorem heightState_flagsStay (c : Corner) (x : SampleState) (s : State) : FlagsStay s (heightState c x s) := by
  unfold heightState
  split
  · exact .refl s
  · unfold meetHeight
    split
    · split
      · exact (declareDegraded_only c s).flagsStay
      · exact (beginStrobe_only c s).flagsStay
    · exact (declareDegraded_only c s).flagsStay
    · exact (changeCorner_only c _ s).flagsStay.trans (setFlag_flagsStay ..)
    · exact .refl s

theorem setComparators_flagsStay (l m n : Level) (s : State) : FlagsStay s (setComparators l m n s) := by
  have told (y : State) : FlagsStay y (if l = s.sp.reserve then y else reserveEvent l y) := by
    split
    · exact .refl y
    · exact (reserveEvent_only l y).flagsStay
  have watched (y : State) : FlagsStay y (if n = s.sp.critical then y else watchCritical y) := by
    split
    · exact .refl y
    · exact (recordFlag_frame.watchCritical y).toFlagsStay
  have set (b : Bool) (y : State) : FlagsStay y (setFlagIf b .air y) := ⟨fun fl set => by rw [setFlagIf_flag, set]; rfl⟩
  have read : FlagsStay s { s with sp := { s.sp with reserve := l, low := m, critical := n } } := ⟨fun _ => id⟩
  exact (read.trans (set _ _)).trans ((told _).trans (watched _))

theorem sampleStateChanged_flagsStay (ch : Channel) (x : SampleState) (s : State) : FlagsStay (setFlag .sensor s) (sampleStateChanged ch x s) := by
  have heights (y : State) : FlagsStay y (if h : 12 ≤ ch.val ∧ ch.val < 18 then heightState ⟨ch.val - 12, by omega⟩ x y else y) := by
    split
    · exact heightState_flagsStay ..
    · exact .refl y
  have reservoir (y : State) : FlagsStay y (if ch.val = 20 && x != .valid then setComparators .below y.sp.low y.sp.critical y else y) := by
    split
    · exact setComparators_flagsStay ..
    · exact .refl y
  exact (heights _).trans ((reservoir _).trans (watchDegraded_flagsStay _))

/-- R47: a change of a record's state sets SENSOR. -/
theorem setSampleState_sets (other : (s.sample ch).state ≠ x) : (setSampleState ch x s).flag .sensor = true := by
  unfold setSampleState
  rw [if_neg other]
  refine (sampleStateChanged_flagsStay ch x _).stays .sensor ?_
  rw [setFlag_flag]
  rfl

/-! ### The Sense Port -/

theorem reservoir_iff : ch.val = 20 ↔ ch = 20 := ⟨fun h => Fin.ext h, fun h => by rw [h]; rfl⟩

theorem setSampleState_sp (ch : Channel) (x : SampleState) (s : State) : (setSampleState ch x s).sp =
    { s.sp with samples := upd s.sp.samples ch fun r => { r with state := x }
                reserve := if (s.sample ch).state ≠ x ∧ ch = 20 ∧ x ≠ .valid then .below else s.sp.reserve } := by
  by_cases same : (s.sample ch).state = x
  · have kept : upd s.sp.samples ch (fun r => { r with state := x }) = s.sp.samples := upd_fixed (by rw [← same]; rfl)
    have still : setSampleState ch x s = s := if_pos same
    rw [still, kept, if_neg (fun h => h.1 same)]
  · have changed : setSampleState ch x s = sampleStateChanged ch x (changeSample ch (fun r => { r with state := x }) s) := if_neg same
    rw [changed, sampleStateChanged_sp]
    have reservoir : (decide (ch.val = 20) && x != .valid) = true ↔ (s.sample ch).state ≠ x ∧ ch = 20 ∧ x ≠ .valid := by
      rw [Bool.and_eq_true, decide_eq_true_iff, bne_iff_ne, reservoir_iff]
      exact ⟨fun h => ⟨same, h⟩, And.right⟩
    rw [if_congr reservoir rfl rfl]
    rfl

/-- The part with the value and the age of a good word stored, and a height with its corner (R44, R102). -/
def State.worded (s : State) (ch : Channel) (v : Nat) : State :=
  let t := changeSample ch (fun r => { r with value := v, ageAt := some (s.now + 30 * ms) }) s
  if h : 12 ≤ ch.val ∧ ch.val < 18 then heightWord ⟨ch.val - 12, by omega⟩ v t else t

theorem goodSample_eq (ch : Channel) (v : Nat) (s : State) : goodSample ch v s =
    if ch.val = 20 then evalComparators (min v (channelTop ch)) (setSampleState ch .valid (s.worded ch (min v (channelTop ch))))
    else setSampleState ch .valid (s.worded ch (min v (channelTop ch))) := rfl

theorem worded_only (s : State) (ch : Channel) (v : Nat) :
    LevelOnly (changeSample ch (fun r => { r with value := v, ageAt := some (s.now + 30 * ms) }) s) (s.worded ch v) := by
  unfold State.worded
  dsimp only
  split
  · exact heightWord_only ..
  · exact .refl _

theorem worded_sp (s : State) (ch : Channel) (v : Nat) :
    (s.worded ch v).sp = { s.sp with samples := upd s.sp.samples ch fun r => { r with value := v, ageAt := some (s.now + 30 * ms) } } :=
  (worded_only s ch v).sp

theorem worded_sense (s : State) (ch : Channel) (v : Nat) : SenseOnly s (s.worded ch v) :=
  (senseOnly_samples s _).trans (worded_only s ch v).table.sense

theorem upd_upd {α : Type} {k : Nat} (w : Vector α k) (i : Fin k) (f g : α → α) : upd (upd w i f) i g = upd w i fun a => g (f a) := by
  unfold upd
  simp

/-- The samples after a good word, whose state is VALID from here on. -/
theorem valid_sp (s : State) (ch : Channel) (v : Nat) : (setSampleState ch .valid (s.worded ch v)).sp =
    { s.sp with samples := upd s.sp.samples ch fun _ => ⟨v, .valid, some (s.now + 30 * ms)⟩ } := by
  rw [setSampleState_sp, worded_sp, if_neg (fun h => h.2.2 rfl), upd_upd]

theorem goodSample_sense (ch : Channel) (v : Nat) (s : State) : SenseOnly s (goodSample ch v s) := by
  have set := (worded_sense s ch (min v (channelTop ch))).trans (setSampleState_sense ch .valid _)
  rw [goodSample_eq]
  split
  · exact set.trans (setComparators_sense ..)
  · exact set

theorem goodSample_sp (ch : Channel) (v : Nat) (s : State) : (goodSample ch v s).sp =
    { s.sp with samples := upd s.sp.samples ch fun _ => ⟨min v (channelTop ch), .valid, some (s.now + 30 * ms)⟩
                reserve := if ch = 20 then comparatorAfter s.hl.params.reserve (min v (channelTop ch)) s.sp.reserve else s.sp.reserve
                low := if ch = 20 then comparatorAfter s.hl.params.low (min v (channelTop ch)) s.sp.low else s.sp.low
                critical := if ch = 20 then comparatorAfter s.hl.params.critical (min v (channelTop ch)) s.sp.critical else s.sp.critical } := by
  rw [goodSample_eq]
  have sense := (worded_sense s ch (min v (channelTop ch))).trans (setSampleState_sense ch .valid _)
  have params : (setSampleState ch .valid (s.worded ch (min v (channelTop ch)))).hl.params = s.hl.params := (congrArg HostLink.params sense.hl :)
  split
  · next here =>
    simp only [reservoir_iff.mp here, if_true] at params ⊢
    unfold evalComparators
    dsimp only
    rw [setComparators_sp, valid_sp, params, compare_eq, compare_eq, compare_eq]
  · next other =>
    simp only [mt reservoir_iff.mpr other, if_false]
    exact valid_sp ..

/-- The part with the age of a fault word stored (R45). -/
def State.faulted (s : State) (ch : Channel) : State := changeSample ch (fun r => { r with ageAt := some (s.now + 30 * ms) }) s

theorem faultSample_eq (ch : Channel) (s : State) : faultSample ch s = setSampleState ch .fault (s.faulted ch) := rfl

theorem faultSample_sense (ch : Channel) (s : State) : SenseOnly s (faultSample ch s) :=
  (senseOnly_samples s _).trans (setSampleState_sense ch .fault _)

theorem faulted_state (s : State) (ch : Channel) : ((s.faulted ch).sample ch).state = (s.sample ch).state := by
  unfold State.faulted State.sample changeSample
  rw [upd_get_self]

theorem faultSample_sp (ch : Channel) (s : State) : (faultSample ch s).sp =
    { s.sp with samples := upd s.sp.samples ch fun r => ⟨r.value, .fault, some (s.now + 30 * ms)⟩
                reserve := if (s.sample ch).state ≠ .fault ∧ ch = 20 then .below else s.sp.reserve } := by
  rw [faultSample_eq, setSampleState_sp, faulted_state, if_congr (and_congr_right fun _ => and_iff_left nofun) rfl rfl]
  unfold State.faulted changeSample
  rw [upd_upd]

/-- A word to a channel there is (R44, R45). -/
theorem exec_sampleWord (live : s.resetHeld = false) (awake : s.inReset .sense = false) (ch : Channel) (fault : Bool) (v : BitVec 11) :
    exec (.sampleWord (BitVec.ofNat 5 ch.val) fault v) s = .next (if fault then faultSample ch s else goodSample ch v.toNat s) := by
  have small : (BitVec.ofNat 5 ch.val).toNat = ch.val := by
    have := ch.isLt
    rw [BitVec.toNat_ofNat]
    omega
  refine (running_next (f := takeSample (BitVec.ofNat 5 ch.val) fault v) live).trans (congrArg Host.Outcome.next ?_)
  unfold takeSample
  rw [if_neg (by rw [awake]; nofun)]
  simp only [small, ch.isLt, dif_pos]

end Sys2Proof.Machine
end

section
/-! PROOFS. A height's word, fault and age reach its corner (R102, R117, R118). -/

namespace Sys2Proof.Machine

variable {s t y : State} {c : Corner} {ch : Channel} {x : SampleState} {v : Nat}

/-! ### A change of a height record reaches its corner -/

/-- The part as a record's state has changed, before its corner, the comparators and PLAUS are told (R47). -/
def State.marking (s : State) (ch : Channel) (x : SampleState) : State := setFlag .sensor (changeSample ch (fun r => { r with state := x }) s)

theorem setSampleState_height (height : ch.val = 12 + c.val) (other : (s.sample ch).state ≠ x) :
    setSampleState ch x s = watchDegraded (heightState c x (s.marking ch x)) := by
  have small := c.isLt
  have corner : (⟨ch.val - 12, by omega⟩ : Corner) = c := Fin.ext (by simp only [height]; omega)
  have reservoir : ch.val ≠ 20 := by omega
  unfold setSampleState
  rw [if_neg other]
  unfold sampleStateChanged
  dsimp only
  rw [dif_pos (by omega : 12 ≤ ch.val ∧ ch.val < 18), if_neg (by simp [reservoir]), corner]
  rfl

theorem setSampleState_met (alike : Alike c s y) (live : s.inReset .level = false) (up : s.resetHeld = false) (height : ch.val = 12 + c.val)
    (other : (y.sample ch).state ≠ x) : s.HeightMet (setSampleState ch x y) c x := by
  have marked : Alike c s (y.marking ch x) :=
    ⟨alike.held, alike.reset, alike.check, alike.strobe, alike.checkAt, alike.recoveryAt, alike.granted, alike.level⟩
  have met := meetHeight_met (marked.same up) (marked.reset.trans live) x
  have told : heightState c x (y.marking ch x) = meetHeight c x (y.marking ch x) := if_neg (by rw [marked.reset, live]; nofun)
  have table := meetHeight_table c x (y.marking ch x)
  have live' : (meetHeight c x (y.marking ch x)).inReset .level = false := (table.inReset .level).trans (marked.reset.trans live)
  rw [setSampleState_height height other, told]
  exact met.carry live' ((cornersStand_frame.watchDegraded _).corner c) (fun v g => (spared_frame c v g).watchDegraded _) (watchDegraded_sense _).now
    (watchDegraded_flagsStay _)

/-- R122: in a LEVEL reset the corner's check stays. -/
theorem setSampleState_check (reset : s.inReset .level = true) (height : ch.val = 12 + c.val) :
    ((setSampleState ch x s).corner c).check = (s.corner c).check := by
  by_cases same : (s.sample ch).state = x
  · have still : setSampleState ch x s = s := if_pos same
    rw [still]
  · have told : heightState c x (s.marking ch x) = s.marking ch x := if_pos reset
    rw [setSampleState_height height same, told, (cornersStand_frame.watchDegraded _).check]
    rfl

/-! ### The words of a height -/

theorem worded_height (height : ch.val = 12 + c.val) (v : Nat) (s : State) :
    s.worded ch v = heightWord c v (changeSample ch (fun r => { r with value := v, ageAt := some (s.now + 30 * ms) }) s) := by
  have small := c.isLt
  have corner : (⟨ch.val - 12, by omega⟩ : Corner) = c := Fin.ext (by simp only [height]; omega)
  unfold State.worded
  dsimp only
  rw [dif_pos (by omega : 12 ≤ ch.val ∧ ch.val < 18), corner]

theorem worded_alike (height : ch.val = 12 + c.val) (v : Nat) (s : State) : Alike c s (s.worded ch v) := by
  rw [worded_height height]
  unfold heightWord
  split
  · exact ⟨rfl, rfl, rfl, rfl, rfl, rfl, rfl, rfl⟩
  · refine ⟨rfl, rfl, ?_, ?_, ?_, ?_, rfl, rfl⟩
    all_goals
      rw [changeCorner_corner_self]
      rfl

theorem worded_state (s : State) (ch : Channel) (v : Nat) : ((s.worded ch v).sample ch).state = (s.sample ch).state := by
  unfold State.sample
  rw [worded_sp]
  dsimp only
  rw [upd_get_self]

/-- R102: a good word of a NORMAL corner's height is added to its accumulator. -/
theorem goodSample_adds (height : ch.val = 12 + c.val) (live : s.inReset .level = false) (normal : (s.corner c).check = .normal)
    (room : (s.corner c).count < 4095) (v : Nat) : ((goodSample ch v s).corner c).sum = (s.corner c).sum + min v 400 ∧
      ((goodSample ch v s).corner c).count = (s.corner c).count + 1 := by
  have small := c.isLt
  have top : channelTop ch = 400 := by
    unfold channelTop
    rw [if_neg (by omega), if_pos (by omega)]
  have added : (s.worded ch (min v 400)).corner c = { s.corner c with sum := (s.corner c).sum + min v 400, count := (s.corner c).count + 1 } := by
    rw [worded_height height]
    unfold heightWord
    rw [if_neg ?_, changeCorner_corner_self]
    · rfl
    · have same : (changeSample ch (fun r => { r with value := min v 400, ageAt := some (s.now + 30 * ms) }) s).corner c = s.corner c := rfl
      have reset : (changeSample ch (fun r => { r with value := min v 400, ageAt := some (s.now + 30 * ms) }) s).inReset .level = false := live
      rw [same, reset, normal]
      simp
      omega
  have stands : CornersStand (s.worded ch (min v 400)) (setSampleState ch .valid (s.worded ch (min v 400))) := by
    by_cases same : ((s.worded ch (min v 400)).sample ch).state = .valid
    · have still : setSampleState ch .valid (s.worded ch (min v 400)) = s.worded ch (min v 400) := if_pos same
      rw [still]
      exact .refl _
    · have check : ((s.worded ch (min v 400)).corner c).check = .normal := by rw [added]; exact normal
      have told : heightState c .valid ((s.worded ch (min v 400)).marking ch .valid) = (s.worded ch (min v 400)).marking ch .valid := by
        unfold heightState meetHeight
        have marked : (((s.worded ch (min v 400)).marking ch .valid).corner c).check = .normal := check
        rw [marked]
        split
        · rfl
        · rfl
      rw [setSampleState_height height same, told]
      exact (CornersStand.of_lc (s := s.worded ch (min v 400)) (t := (s.worded ch (min v 400)).marking ch .valid) rfl).trans (cornersStand_frame.watchDegraded _)
  rw [goodSample_eq, if_neg (by omega), top, (stands.corner c).eq, added]
  exact ⟨rfl, rfl⟩

/-! ### Age timers -/

/-- The part as a record's age timer has run out (R46). -/
def State.aged (s : State) (ch : Channel) (e : Nat) : State := changeSample ch (fun r => { r with ageAt := none }) (atLeast e s)

theorem aged_state (s : State) (ch : Channel) (e : Nat) : ((s.aged ch e).sample ch).state = (s.sample ch).state := by
  unfold State.aged State.sample changeSample
  rw [upd_get_self]
  rfl

theorem exec_sampleAgeExpiry {e : Nat} (live : s.resetHeld = false) (runs : (s.sample ch).ageAt = some e) :
    exec (.sampleAgeExpiry ch) s = .next (if (s.sample ch).state = .valid then setSampleState ch .stale (s.aged ch e) else s.aged ch e) := by
  refine (running_next (f := ageOut ch) live).trans (congrArg Host.Outcome.next ?_)
  unfold ageOut
  rw [runs, ← aged_state s ch e]
  rfl

theorem aged_sense (s : State) (ch : Channel) (e : Nat) : SenseOnly (atLeast e s) (s.aged ch e) := senseOnly_samples ..

theorem aged_sp (s : State) (ch : Channel) (e : Nat) : (setSampleState ch .stale (s.aged ch e)).sp =
    { s.sp with samples := upd s.sp.samples ch fun r => ⟨r.value, .stale, none⟩
                reserve := if (s.sample ch).state ≠ .stale ∧ ch = 20 then .below else s.sp.reserve } := by
  rw [setSampleState_sp, aged_state, if_congr (and_congr_right fun _ => and_iff_left nofun) rfl rfl]
  unfold State.aged changeSample
  rw [upd_upd]
  rfl

/-! ### PLAUS's placement tells no corner (R39) -/

/-- Every corner and every valve is as it was. -/
def State.CornersRest (s t : State) : Prop := (∀ k : Corner, t.corner k = s.corner k) ∧ t.valves = s.valves

theorem State.CornersRest.refl (s : State) : s.CornersRest s := ⟨fun _ => rfl, rfl⟩

theorem State.CornersRest.of_lc (corners : t.lc.corners = s.lc.corners) (valves : t.valves = s.valves) : s.CornersRest t :=
  ⟨fun k => by rw [State.corner, corners]; rfl, valves⟩

variable {i : Slot} {r : Record} {k : Kind} {o : Owner}

theorem FreesOnly.find (frees : FreesOnly i s t) (absent : s.find k o = none) : t.find k o = none := by
  cases found : t.find k o with
  | none => rfl
  | some j =>
    obtain ⟨q, stands, kind, owner⟩ := find_eq_some found
    rw [frees.recordAt] at stands
    split at stands
    · cases stands
    · exact absurd owner (find_eq_none absent stands kind)

/-- A record that is no KNEEL and has no parent, placed ACTIVE into a FREE slot: it stands, has gone to RELEASING, or has gone altogether, and
no corner is told. -/
theorem createRecord_rests (law : s.EnvelopeLaw) (free : s.recordAt i = none) (kind : r.kind ≠ .kneel) (parent : r.parent = none)
    (active : r.state = .active) :
    s.CornersRest (createRecord i r s) ∧
      ((∃ q, ChangesOnly i q s (createRecord i r s) ∧ q.kind = r.kind ∧ q.owner = r.owner ∧ q.scope = r.scope) ∨ FreesOnly i s (createRecord i r s)) := by
  have changes := placed_changes i r s
  have offsetless : s.Offsetless i := fun q stands => by cases free.symm.trans stands
  have put : Unsent s (s.placed i r) :=
    (putRecord_changes i r s).unsent (offsetPart_of_ne kind) offsetless law ⟨putRecord_table .., rfl, rfl, rfl⟩ rfl
  have placed : s.CornersRest (s.placed i r) := .of_lc (by rw [put.lc]) put.valves
  have law' : (s.placed i r).EnvelopeLaw := formEnvelope_envelopeLaw _
  have created : createRecord i r s = evalRecord i (s.placed i r) := by
    rw [createRecord_rootless parent]
    unfold kneelChanged
    rw [if_neg kind]
  have stands := changes.recordAt_self
  rw [created]
  cases leaves : releasable (s.placed i r) i r with
  | false =>
    rw [evalRecord_unreleasable stands active leaves]
    exact ⟨placed, .inl ⟨r, changes, rfl, rfl, rfl⟩⟩
  | true =>
    obtain ⟨-, stays, goes⟩ := evaluate_goes stands kind active leaves [] 64
    have entered := enterReleasing_changes stands kind
    have part := offsetPart_of_ne (r := r) kind
    have sent : Unsent (s.placed i r) (enterReleasing i r (s.placed i r)) := by
      rw [enterReleasing_eq kind]
      exact (changeRecord_changes stands _).unsent (offsetPart_of_ne (r := r.release (s.placed i r).now) kind) (.of_stands stands part) law'
        (changeRecord_unsent ..) rfl
    have entered' : s.CornersRest (enterReleasing i r (s.placed i r)) := .of_lc (by rw [sent.lc, put.lc]) (sent.valves.trans put.valves)
    by_cases lingers : r.Lingers
    · have stays : evalRecord i (s.placed i r) = _ := stays lingers
      rw [stays]
      exact ⟨entered', .inl ⟨_, changes.trans entered, rfl, rfl, rfl⟩⟩
    · have goes : evalRecord i (s.placed i r) = _ := goes lingers parent
      rw [goes]
      obtain ⟨lc, valves⟩ := freeSlot_lc (i := i) (s := enterReleasing i r (s.placed i r))
        (.of_stands entered.recordAt_self (offsetPart_of_ne (r := r.released (s.placed i r).now) kind)) (enterReleasing_envelopeLaw ..)
        (r.released (s.placed i r).now)
      refine ⟨.of_lc ?_ ?_, .inr ((changes.trans entered).frees (freeSlot_frees ..))⟩
      · rw [lc]
        exact (congrArg LevellingController.corners (sent.lc.trans put.lc) :)
      · exact valves.trans (sent.valves.trans put.valves)

/-- R7: what comes of PLAUS's placement of SENSOR_DEGRADE where none lives. -/
theorem placeDegrade_cases (found : s.find .sensorDegrade .plaus = none) (x : Scope) :
    placeInternal .sensorDegrade .plaus (some x) s = s ∨ ∃ i, s.recordAt i = none ∧
      placeInternal .sensorDegrade .plaus (some x) s = createRecord i (s.scopedRecord .sensorDegrade .plaus (some x)) s := by
  have ok : suppliedOk (s.profile .sensorDegrade) { scope := some x } = true := rfl
  have permitted : Kind.sensorDegrade.permits .plaus = true := rfl
  unfold placeInternal placeRecord placeNew
  simp only [permitted, ok, found, checkParent]
  cases first : freeSlotFor s .plaus with
  | none => exact .inl rfl
  | some i => exact .inr ⟨i, (freeSlotFor_some first).2, rfl⟩

theorem amendDegrade_rests {x : Scope} (found : ∀ i, s.find .sensorDegrade .plaus = some i → (s.recordAt i).map (·.scope) = some x) : amendDegrade x s = s := by
  unfold amendDegrade
  split
  · next i is => exact if_pos (found i is)
  · rfl

theorem amendDegrade_left {x : Scope} (absent : s.find .sensorDegrade .plaus = none)
    (left : (∃ q, ChangesOnly i q s t ∧ q.kind = .sensorDegrade ∧ q.owner = .plaus ∧ q.scope = x) ∨ FreesOnly i s t) : amendDegrade x t = t := by
  refine amendDegrade_rests fun j is => ?_
  rcases left with ⟨q, changes, kind, owner, scope⟩ | frees
  · cases (changes.find absent kind owner).symm.trans is
    rw [changes.recordAt_self]
    exact congrArg some scope
  · cases (frees.find absent).symm.trans is

/-- R28, R39: where no SENSOR_DEGRADE lives, PLAUS's taking of the set tells no corner. -/
theorem watchDegraded_rests (law : s.EnvelopeLaw) (found : s.find .sensorDegrade .plaus = none) : s.CornersRest (watchDegraded s) := by
  cases configured : s.hl.configured with
  | false =>
    rw [watchDegraded_off configured]
    exact .refl s
  | true =>
    by_cases same : s.degraded = degradedNow s
    · rw [watchDegraded_still same]
      exact .refl s
    have found' : s.minded.find .sensorDegrade .plaus = none := found
    have silent {y : State} (absent : y.find .sensorDegrade .plaus = none) (x : Scope) : amendDegrade x y = y :=
      amendDegrade_rests fun i is => by cases absent.symm.trans is
    have minded : s.CornersRest s.minded := .of_lc rfl rfl
    rw [watchDegraded_changed configured same, degradedChanged]
    split
    · rw [withdraw_of_none found']
      exact minded
    · dsimp only
      split
      · rcases placeDegrade_cases found' (degradedScope (degradedNow s)) with none' | ⟨i, free, created⟩
        · rw [none', silent found']
          exact minded
        · rw [created]
          obtain ⟨⟨corners, valves⟩, left⟩ := createRecord_rests (s := s.minded) (i := i)
            (r := s.minded.scopedRecord .sensorDegrade .plaus (some (degradedScope (degradedNow s)))) law free nofun rfl rfl
          have rests : amendDegrade (degradedScope (degradedNow s)) _ = _ := amendDegrade_left found' left
          rw [rests]
          exact ⟨corners, valves⟩
      · rw [silent found']
        exact minded

end Sys2Proof.Machine
end

section
/-! PROOFS. The comparators of the reservoir and the fills (R48, R51, R110, R111); sample words and age timers (O30). -/

namespace Sys2Proof.Machine

variable {s t y z : State} {c d k : Corner} {l m n : Level} {x : SampleState} {v : Nat}

/-! ### The comparators read anew -/

/-- The part as its comparators have been read anew, before the Levelling Controller and PLAUS are told (R51). -/
def State.reading (s : State) (l m n : Level) (flags : BitVec 11) : State :=
  { s with sp := { s.sp with reserve := l, low := m, critical := n }, hl := { s.hl with flags := flags } }

/-- A change of RESERVE that moves no CRITICAL reaches the Levelling Controller alone. -/
theorem setComparators_steady (steady : n = s.sp.critical) (moves : l ≠ s.sp.reserve) :
    ∃ flags, setComparators l m n s = reserveEvent l (s.reading l m n flags) := by
  refine ⟨(setFlagIf (l != s.sp.reserve || m != s.sp.low || n != s.sp.critical) .air
    { s with sp := { s.sp with reserve := l, low := m, critical := n } }).hl.flags, ?_⟩
  unfold setComparators
  dsimp only
  rw [if_neg moves, if_pos steady]
  unfold setFlagIf
  split
  · rfl
  · rfl

/-! ### RESERVE goes BELOW (R111) -/

theorem Pair.stopped_closed {x : Pair} {side : Side} (runs : (x.at side).prog ≠ .idle) (now : Nat) : ((x.stopped now side).at side).isOpen = false := by
  have holds : (x.at side).holds = true := by simpa [Generator.holds] using runs
  unfold Pair.stopped
  rw [if_pos holds]
  cases side with
  | first => rfl
  | second => rfl

theorem stopFill_below (live : s.inReset .level = false) (below : s.lc.reserve = .below) (c : Corner) :
    (stopLevel c .first s).lc.corners = s.lc.corners ∧ (stopLevel c .first s).lc.reserve = .below ∧
      (stopLevel c .first s).valves.level = upd s.valves.level c (Pair.stopped s.now .first) := by
  have stopped (holds : (s.valves.level[c.val].at .first).holds = true) :
      (s.handed c .first .idle).level = upd s.valves.level c (Pair.stopped s.now .first) := by
    unfold State.handed
    exact upd_congr (if_pos holds).symm
  unfold stopLevel
  split
  · next holds =>
    by_cases cuts : s.valves.level[c.val].cuts .first .first .idle = true
    · rw [handLevel_cut live cuts, returnGrant_eq,
        arbitrate_below (s := State.ungrant { s with valves := s.handed c .first .idle } c) below]
      exact ⟨rfl, below, stopped holds⟩
    · rw [handLevel_uncut live (by simpa using cuts)]
      exact ⟨rfl, below, stopped holds⟩
  · next idle =>
    refine ⟨rfl, below, (upd_fixed ?_).symm⟩
    exact if_neg idle

/-- RESERVE at BELOW stops every fill and leaves the exhausts and the controller's corners. -/
theorem reserveBelow_live (live : s.inReset .level = false) (c : Corner) : (reserveEvent .below s).lc.corners = s.lc.corners ∧
    (reserveEvent .below s).valves.level[c.val] = (s.valves.level[c.val]).stopped s.now .first := by
  have cut : reserveEvent .below s = forAll 6 (fun c s => stopLevel c .first s) { s with lc := { s.lc with reserve := .below } } := if_neg (by
    change ¬ s.inReset .level = true
    rw [live]
    nofun)
  obtain ⟨⟨-, -, -, corners⟩, stopped⟩ := forAll_own (n := 6) (f := fun c s => stopLevel c .first s)
    (x := { s with lc := { s.lc with reserve := .below } })
    (I := fun y => y.inReset .level = false ∧ y.lc.reserve = .below ∧ y.now = s.now ∧ y.lc.corners = s.lc.corners)
    (Pre := fun c y => y.valves.level[c.val] = s.valves.level[c.val])
    (Post := fun c y => y.valves.level[c.val] = (s.valves.level[c.val]).stopped s.now .first)
    (fun c y ⟨live, below, now, corners⟩ =>
      have only := stopLevel_only c .first y
      have left := stopFill_below live below c
      ⟨(only.inReset .level).trans live, left.2.1, only.now.trans now, left.1.trans corners⟩)
    (fun c d y ⟨live, below, _, _⟩ other pre => by
      rw [(stopFill_below live below c).2.2, upd_get_ne _ _ other]
      exact pre)
    (fun c d y ⟨live, below, _, _⟩ other post => by
      rw [(stopFill_below live below c).2.2, upd_get_ne _ _ other]
      exact post)
    (fun c y ⟨live, below, now, _⟩ pre => by
      rw [(stopFill_below live below c).2.2, upd_get_self, pre, now])
    ⟨live, rfl, rfl, rfl⟩ (fun _ => rfl)
  rw [cut]
  exact ⟨corners, stopped c⟩

/-- R111: RESERVE at BELOW cuts every fill. -/
theorem reserveBelow_left (rules : FillRules s) (k : Corner) :
    (reserveEvent .below s).granted k = false ∧ ((reserveEvent .below s).gen (.fill k)).prog = .idle ∧
    (s.granted k = true → ((reserveEvent .below s).gen (.fill k)).isOpen = false) ∧
    (reserveEvent .below s).corner k = s.corner k ∧ (reserveEvent .below s).gen (.cornerExhaust k) = s.gen (.cornerExhaust k) := by
  have after := rules.reserveEvent .below
  have out := after.cut (reserveEvent_reserve .below s) k
  refine ⟨out, after.idle_of_ungranted out, ?_⟩
  cases live : s.inReset .level with
  | true =>
    have still : reserveEvent .below s = { s with lc := { s.lc with reserve := .below } } := if_pos live
    rw [still]
    exact ⟨fun held => absurd (((rules.stands live).2 k).2.2.symm.trans held) nofun, rfl, rfl⟩
  | false =>
    obtain ⟨corners, level⟩ := reserveBelow_live live k
    refine ⟨fun held => ?_, by rw [State.corner, corners]; rfl, ?_⟩
    · have runs : ((s.valves.level[k.val]).at .first).prog ≠ .idle := (rules.granted k).mp held
      exact (congrArg (fun x : Pair => x.first.isOpen) level).trans (Pair.stopped_closed runs s.now)
    · exact (congrArg Pair.second level).trans (Pair.stopped_other s.now .first _)

/-! ### A fill that has been cut stays closed while RESERVE reads BELOW -/

/-- RESERVE reads BELOW, and a corner's FILL is IDLE and closed, without a grant. -/
def State.Shut (k : Corner) (s : State) : Prop :=
  s.inReset .level = false ∧ s.lc.reserve = .below ∧ s.granted k = false ∧ (s.valves.level[k.val]).first.prog = .idle ∧
    (s.valves.level[k.val]).first.isOpen = false

theorem Pair.hand_second_idle {pr : Pair} (idle : pr.first.prog = .idle) (closed : pr.first.isOpen = false) (now : Nat) (p : Program) :
    (pr.hand now .second p).first.prog = .idle ∧ (pr.hand now .second p).first.isOpen = false := by
  have other : (pr.hand now .second p).first = if p.inRange = .idle then pr.first else pr.first.toIdle now := Pair.hand_other now .second p pr
  rw [other]
  split
  · exact ⟨idle, closed⟩
  · exact ⟨rfl, rfl⟩

theorem State.Shut.handLevel (shut : s.Shut k) (c : Corner) (side : Side) (p : Program) (own : c = k → side = .second) : (handLevel c side p s).Shut k := by
  obtain ⟨live, below, out, idle, closed⟩ := shut
  have only := handLevel_only c side p s
  have level : (s.handed c side p).level[k.val].first.prog = .idle ∧ (s.handed c side p).level[k.val].first.isOpen = false := by
    rw [handed_level]
    split
    · next here =>
      subst here
      rw [own rfl]
      exact Pair.hand_second_idle idle closed s.now p
    · exact ⟨idle, closed⟩
  refine ⟨(only.inReset .level).trans live, ?_⟩
  by_cases cuts : s.valves.level[c.val].cuts side .first p = true
  · rw [handLevel_cut live cuts, returnGrant_eq, arbitrate_below (s := State.ungrant { s with valves := s.handed c side p } c) below]
    refine ⟨below, ?_, level⟩
    rw [← Bool.not_eq_true, ungrant_granted]
    exact fun held => by cases out.symm.trans held.1
  · rw [handLevel_uncut live (by simpa using cuts)]
    exact ⟨below, out, level⟩

theorem shut_commandStable (k : Corner) : CommandStable (State.Shut k) where
  outcome _ _ h := h
  leave _ h := h
  stopFill {s} c h := by
    unfold stopLevel
    split
    · next holds =>
      refine h.handLevel c .first .idle fun here => ?_
      subst here
      obtain ⟨_, _, _, idle, _⟩ := h
      simp [Generator.holds, Pair.at, idle] at holds
    · exact h
  exhaust c p h := h.handLevel c .second p fun _ => rfl
  fill {s} afresh c e p _ h := by
    rw [commandFill_eq]
    split
    · next granted =>
      split
      · refine h.handLevel c .first p fun here => ?_
        subst here
        cases h.2.2.1.symm.trans granted
      · exact h
    · have stopped : (stopLevel c .second s).Shut k := by
        unfold stopLevel
        split
        · exact h.handLevel c .second .idle fun _ => rfl
        · exact h
      have joined : (joinWaiting c ⟨e, p⟩ (stopLevel c .second s)).Shut k := stopped
      rw [arbitrate_below joined.2.1]
      exact joined

theorem shut_frame (k : Corner) : TableFrame fun s t => State.Shut k s → State.Shut k t :=
  FormStable.frame (P := State.Shut k)
    { stored := id, inhibit := fun _ => id, offset := fun _ _ => id, halt := id
      command := fun c _ => (shut_commandStable k).commandFromLast c }
    fun kept ⟨live, below, out, idle, closed⟩ =>
      ⟨kept.reset.trans live, by rw [kept.lc]; exact below, (kept.granted k).trans out, by rw [kept.valves]; exact idle, by rw [kept.valves]; exact closed⟩

theorem fillRules_frame : TableFrame fun s t => FillRules s → FillRules t :=
  fill_formStable.frame fun {s t} kept rules => by
    have moved := rules.level (x := t.lc) (by rw [kept.lc]) (by rw [kept.lc]) (fun c => .inl (by rw [kept.lc]))
      fun reset => by
        rw [kept.lc]
        exact ⟨(rules.stands reset).1, fun c => ((rules.stands reset).2 c).2.1⟩
    exact moved.same kept.valves rfl fun reset => kept.reset.symm.trans reset

/-! ### RESERVE goes ABOVE (R110, R111) -/

theorem giveGrant_waitError (d : Corner) (w : WaitEntry) (s : State) :
    (giveGrant d w s).waitError = fun k => if k = d then none else s.waitError k := by
  funext k
  rw [State.waitError, giveGrant_corner]
  by_cases here : d = k
  · rw [if_pos here, if_pos here.symm]
    rfl
  · rw [if_neg here, if_neg (Ne.symm here)]
    rfl

/-- R110: the second free grant goes to the next corner of those the first has left. -/
theorem arbitrate_second {w : WaitEntry} (live : s.inReset .level = false) (above : s.lc.reserve = .above) (free : s.freeGrants = 2)
    (next : IsNext s.waitError d) (next' : IsNext (fun k => if k = d then none else s.waitError k) c) (waits : (s.corner c).waiting = some w)
    (ok : w.prog.inRange.completes = true) : (arbitrate s).FillsWith c w.prog.inRange := by
  have other : d ≠ c := by
    rintro rfl
    have some' := next'.1
    simp at some'
  obtain ⟨v, waits', -⟩ := waitError_eq_some.mp (Option.eq_some_of_isSome next.1)
  have grantFree {x : State} (some' : 1 ≤ x.freeGrants) : x.GrantFree := by
    by_contra taken
    rw [State.GrantFree, not_or] at taken
    rw [State.freeGrants, if_neg taken.1, if_neg taken.2] at some'
    omega
  have first : s.GrantFree := grantFree (by omega)
  have left := giveGrant_freeGrants (c := d) v first
  have second : (giveGrant d v s).GrantFree := grantFree (by omega)
  rw [← giveGrant_waitError d v s] at next'
  have waits'' : ((giveGrant d v s).corner c).waiting = some w := by rw [giveGrant_corner, if_neg other, waits]
  rw [arbitrate, arbitrateOnce_next above first next waits', arbitrateOnce_next ((giveGrant_reserve ..).trans above) second next' waits'']
  exact giveGrant_fillsWith (((giveGrant_only d v s).inReset .level).trans live) second ok

/-- R110: the corners that the arbiter does not come to are as they were. -/
theorem arbitrate_passes (live : s.inReset .level = false) (first : ¬ IsNext s.waitError c)
    (second : ∀ d, IsNext s.waitError d → ¬ IsNext (fun k => if k = d then none else s.waitError k) c) : s.FillKept (arbitrate s) c := by
  rcases arbitrateOnce_cases s with ⟨same, -⟩ | ⟨d, w, -, free, -, next, given⟩
  · rw [arbitrate, same, same]
    exact .refl s c
  · have other : d ≠ c := fun here => first (here ▸ next)
    have kept := giveGrant_fillKept (w := w) live free other
    rw [arbitrate, given]
    rcases arbitrateOnce_cases (giveGrant d w s) with ⟨same, -⟩ | ⟨e, v, -, free', -, next', given'⟩
    · rw [same]
      exact kept
    · rw [giveGrant_waitError] at next'
      rw [given']
      exact kept.trans (giveGrant_fillKept (((giveGrant_only d w s).inReset .level).trans live) free' fun here => second d next (here ▸ next'))

theorem reserveAbove_live (live : s.inReset .level = false) : reserveEvent .above s = arbitrate { s with lc := { s.lc with reserve := .above } } :=
  if_neg (by
    change ¬ s.inReset .level = true
    rw [live]
    nofun)

/-! ### The reservoir is lost (R49, R111) -/

/-- A fault or an age of the reservoir's record takes RESERVE to BELOW, before PLAUS looks at the set. -/
theorem setSampleState_reservoir {now : Nat} {sp : SensePort} {flags : BitVec 11} (lost : x ≠ .valid) (other : ((s.sensing now sp s.mc flags).sample 20).state ≠ x)
    (above : sp.reserve = .above) : (setSampleState 20 x (s.sensing now sp s.mc flags)).flag .air = true ∧
      ∃ sp' flags', setSampleState 20 x (s.sensing now sp s.mc flags) = watchDegraded (reserveEvent .below (s.sensing now sp' s.mc flags')) := by
  have changed : setSampleState 20 x (s.sensing now sp s.mc flags) =
      watchDegraded (setComparators .below sp.low sp.critical ((s.sensing now sp s.mc flags).marking 20 x)) := by
    unfold setSampleState
    rw [if_neg other]
    unfold sampleStateChanged
    dsimp only
    rw [dif_neg (by decide), if_pos (by simp [lost])]
    rfl
  have moves : Level.below ≠ ((s.sensing now sp s.mc flags).marking 20 x).sp.reserve := by
    change Level.below ≠ sp.reserve
    rw [above]
    nofun
  obtain ⟨flags', told⟩ := setComparators_steady (s := (s.sensing now sp s.mc flags).marking 20 x) (l := .below) (m := sp.low) (n := sp.critical) rfl moves
  refine ⟨?_, ?_⟩
  · rw [changed]
    exact (watchDegraded_flagsStay _).stays .air ((setComparators_air ..).mpr (.inr (.inl moves)))
  · rw [changed, told]
    exact ⟨_, flags', rfl⟩

/-- R111: no FILL is left, whatever PLAUS does next. -/
theorem fillsCut_left (law : s.FillLaw) (up : s.resetHeld = false) {now : Nat} {sp : SensePort} {flags : BitVec 11} (k : Corner) :
    (watchDegraded (reserveEvent .below (s.sensing now sp s.mc flags))).granted k = false ∧
    ((watchDegraded (reserveEvent .below (s.sensing now sp s.mc flags))).gen (.fill k)).prog = .idle ∧
    (s.granted k = true → ((watchDegraded (reserveEvent .below (s.sensing now sp s.mc flags))).gen (.fill k)).isOpen = false) ∧
    (s.hl.configured = false ∨ (s.EnvelopeLaw ∧ s.find .sensorDegrade .plaus = none) →
      (watchDegraded (reserveEvent .below (s.sensing now sp s.mc flags))).corner k = s.corner k ∧
      (watchDegraded (reserveEvent .below (s.sensing now sp s.mc flags))).gen (.cornerExhaust k) = s.gen (.cornerExhaust k)) := by
  have rules : FillRules (s.sensing now sp s.mc flags) := (fillLaw_iff.mp law up).same rfl rfl id
  obtain ⟨out, idle, closed, corner, exhaust⟩ := reserveBelow_left rules k
  have after := rules.reserveEvent .below
  have only := reserveEvent_only .below (s.sensing now sp s.mc flags)
  have below : (reserveEvent .below (s.sensing now sp s.mc flags)).lc.reserve = .below := reserveEvent_reserve ..
  generalize reserveEvent .below (s.sensing now sp s.mc flags) = u at *
  have left := fillRules_frame.watchDegraded u after
  have out' := left.cut ((cornersStand_frame.watchDegraded u).reserve.trans below) k
  refine ⟨out', left.idle_of_ungranted out', fun held => ?_, fun quiet => ?_⟩
  · have live : u.inReset .level = false := by
      rw [only.inReset, Bool.eq_false_iff]
      exact fun reset => absurd (((rules.stands reset).2 k).2.2.symm.trans held) nofun
    exact ((shut_frame k).watchDegraded u ⟨live, below, out, idle, closed held⟩).2.2.2.2
  · have rests : u.CornersRest (watchDegraded u) := by
      rcases quiet with off | ⟨law, found⟩
      · rw [watchDegraded_off ((congrArg HostLink.configured only.hl :).trans off)]
        exact .refl u
      · refine watchDegraded_rests ?_ ((find_of_rt only.rt).trans found)
        rw [State.EnvelopeLaw, only.eu, only.rt]
        exact law
    refine ⟨(rests.1 k).trans corner, ?_⟩
    exact (congrArg (fun v : Valves => v.level[k.val].second) rests.2).trans exhaust

end Sys2Proof.Machine
end

section
/-! PROOFS. Sample words, age timers and words that stop short (O30). -/

namespace Sys2Proof.Machine

variable {s t : State} {c d k : Corner} {ch : Channel} {v : BitVec 11} {e : Nat}

theorem sample_of_upd {sp : SensePort} {f : Sample → Sample} (samples : t.sp.samples = upd sp.samples ch f) (y : Channel) :
    t.sample y = if ch = y then f sp.samples[ch.val] else sp.samples[y.val] := by
  rw [State.sample, samples, upd_get]

/-- What a word to a channel leaves in its record and elsewhere (R44, R45, R48). -/
theorem word_left (ch : Channel) (fault : Bool) (v : BitVec 11) : SenseOnly s (if fault then faultSample ch s else goodSample ch v.toNat s) ∧
    (if fault then faultSample ch s else goodSample ch v.toNat s).sp.samples = upd s.sp.samples ch (fun r =>
      if fault then ⟨r.value, .fault, some (s.now + 30 * ms)⟩ else ⟨min v.toNat (channelTop ch), .valid, some (s.now + 30 * ms)⟩) ∧
    (if fault then faultSample ch s else goodSample ch v.toNat s).sp.discards = s.sp.discards ∧
    ((s.sample ch).state ≠ (if fault then .fault else .valid) → (if fault then faultSample ch s else goodSample ch v.toNat s).flag .sensor = true) := by
  cases fault with
  | true =>
    refine ⟨faultSample_sense ch s, ?_, ?_, fun other => setSampleState_sets (s := s.faulted ch) (by rw [faulted_state]; exact other)⟩
    · exact congrArg SensePort.samples (faultSample_sp ch s)
    · exact (congrArg SensePort.discards (faultSample_sp ch s) :)
  | false =>
    refine ⟨goodSample_sense ch _ s, ?_, ?_, fun other => ?_⟩
    · exact congrArg SensePort.samples (goodSample_sp ch _ s)
    · exact (congrArg SensePort.discards (goodSample_sp ch _ s) :)
    · have set := setSampleState_sets (s := s.worded ch (min v.toNat (channelTop ch))) (x := .valid) (by rw [worded_state]; exact other)
      change (goodSample ch v.toNat s).flag .sensor = true
      rw [goodSample_eq]
      split
      · exact (setComparators_flagsStay ..).stays .sensor set
      · exact set

/-- A good word of a record that is VALID already, for a channel that reaches nobody. -/
theorem goodSample_quiet (quiet : Quiet ch) (valid : (s.sample ch).state = .valid) (v : Nat) :
    goodSample ch v s = s.withSample ch ⟨min v 1000, .valid, some (s.now + 30 * ms)⟩ := by
  have top : channelTop ch = 1000 := by
    rcases quiet with low | rfl | rfl
    · exact if_pos low
    · rfl
    · rfl
  have plain : s.worded ch (min v 1000) = changeSample ch (fun r => { r with value := min v 1000, ageAt := some (s.now + 30 * ms) }) s :=
    dif_neg quiet.height
  have still : setSampleState ch .valid (s.worded ch (min v 1000)) = s.worded ch (min v 1000) := if_pos ((worded_state ..).trans valid)
  rw [goodSample_eq, if_neg quiet.reservoir, top, still, plain, ← valid]
  rfl

/-- A height's word meets its corner, or in a LEVEL reset leaves its check (R117, R118, R122). -/
theorem word_met (height : ch.val = 12 + c.val) (up : s.resetHeld = false) {fault : Bool} {x : SampleState} (is : x = if fault then .fault else .valid)
    (other : (s.sample ch).state ≠ x) (v : BitVec 11) :
    (s.inReset .level = false → s.HeightMet (if fault then faultSample ch s else goodSample ch v.toNat s) c x) ∧
    (s.inReset .level = true → ((if fault then faultSample ch s else goodSample ch v.toNat s).corner c).check = (s.corner c).check) := by
  have small := c.isLt
  subst is
  cases fault with
  | true =>
    have alike : Alike c s (s.faulted ch) := ⟨rfl, rfl, rfl, rfl, rfl, rfl, rfl, rfl⟩
    exact ⟨fun live => setSampleState_met (ch := ch) alike live up height ((faulted_state s ch).symm ▸ other),
      fun reset => setSampleState_check (s := s.faulted ch) reset height⟩
  | false =>
    have alike := worded_alike height (min v.toNat (channelTop ch)) s
    have good : goodSample ch v.toNat s = setSampleState ch .valid (s.worded ch (min v.toNat (channelTop ch))) := by
      rw [goodSample_eq, if_neg (by omega)]
    change (_ → s.HeightMet (goodSample ch v.toNat s) c .valid) ∧ (_ → ((goodSample ch v.toNat s).corner c).check = _)
    rw [good]
    exact ⟨fun live => setSampleState_met alike live up height (by rw [worded_state]; exact other),
      fun reset => (setSampleState_check (alike.reset.trans reset) height).trans alike.check⟩

/-- A good word of the VALID reservoir that moves RESERVE and no CRITICAL (R51, R111). -/
theorem exec_reserveWord (live : s.resetHeld = false) (awake : s.inReset .sense = false) (valid : (s.sample 20).state = .valid)
    (steady : comparatorAfter s.hl.params.critical (min v.toNat 1200) s.sp.critical = s.sp.critical) {l : Level}
    (reads : comparatorAfter s.hl.params.reserve (min v.toNat 1200) s.sp.reserve = l) (moves : l ≠ s.sp.reserve)
    (run : exec (.sampleWord 20 false v) s = .next t) :
    t.flag .air = true ∧ ∃ sp flags, t = reserveEvent l (s.sensing s.now sp s.mc flags) := by
  cases (exec_reservoirWord live awake valid v).symm.trans run
  have compares : evalComparators (min v.toNat 1200) (s.filled (min v.toNat 1200)) = setComparators l
      (compare s.hl.params.low (min v.toNat 1200) s.sp.low) s.sp.critical (s.filled (min v.toNat 1200)) := by
    have reserve : compare s.hl.params.reserve (min v.toNat 1200) s.sp.reserve = l := (compare_eq ..).trans reads
    have critical : compare s.hl.params.critical (min v.toNat 1200) s.sp.critical = s.sp.critical := (compare_eq ..).trans steady
    have reserve' : compare (s.filled (min v.toNat 1200)).hl.params.reserve (min v.toNat 1200) (s.filled (min v.toNat 1200)).sp.reserve = l := reserve
    have critical' : compare (s.filled (min v.toNat 1200)).hl.params.critical (min v.toNat 1200) (s.filled (min v.toNat 1200)).sp.critical =
      s.sp.critical := critical
    unfold evalComparators
    dsimp only
    rw [reserve', critical']
    rfl
  rw [compares]
  obtain ⟨flags, told⟩ := setComparators_steady (s := s.filled (min v.toNat 1200)) (l := l) (m := compare s.hl.params.low (min v.toNat 1200) s.sp.low)
    (n := s.sp.critical) rfl moves
  refine ⟨(setComparators_air ..).mpr (.inr (.inl moves)), ?_⟩
  rw [told]
  exact ⟨_, flags, rfl⟩

/-- The part with RESERVE held at ABOVE. -/
def State.above (s : State) : State := { s with lc := { s.lc with reserve := .above } }

/-- A fault word and the age of the reservoir's record, as a change of its state. -/
theorem reservoirLost_runs {c : Instr} (live : s.resetHeld = false) (valid : (s.sample 20).state = .valid)
    (lost : (s.inReset .sense = false ∧ ∃ v, c = .sampleWord 20 true v) ∨ ((s.sample 20).ageAt = some e ∧ c = .sampleAgeExpiry 20)) :
    ∃ x now sp flags, x ≠ .valid ∧ ((s.sensing now sp s.mc flags).sample 20).state ≠ x ∧
      exec c s = .next (setSampleState 20 x (s.sensing now sp s.mc flags)) ∧
      sp.reserve = s.sp.reserve ∧ sp.low = s.sp.low ∧ sp.critical = s.sp.critical := by
  rcases lost with ⟨awake, v, rfl⟩ | ⟨runs, rfl⟩
  · refine ⟨.fault, s.now, (s.faulted 20).sp, s.hl.flags, nofun, ?_, exec_sampleWord live awake 20 true v, rfl, rfl, rfl⟩
    have state := faulted_state s 20
    change ((s.faulted 20).sample 20).state ≠ _
    rw [state, valid]
    nofun
  · have run := exec_sampleAgeExpiry live runs
    rw [if_pos valid] at run
    refine ⟨.stale, max s.now e, (s.aged 20 e).sp, s.hl.flags, nofun, ?_, run, rfl, rfl, rfl⟩
    have state := aged_state s 20 e
    change ((s.aged 20 e).sample 20).state ≠ _
    rw [state, valid]
    nofun

/-- Settles O30. -/
theorem sampleEvents : Obligations.SampleEvents := by
  refine ⟨fun s v fault live => ⟨fun channel reset => ?_, fun channel awake large => ?_, fun ch awake => ?_, fun ch awake quiet valid => ?_,
      fun c ch height awake leveling normal room => ?_, fun c ch x height awake is other => ?_⟩,
    fun s t v p live awake leveling is valid steady run => ⟨fun below rises grants => ?_, fun above falls law => ?_⟩,
    fun s c e live valid above lost => ?_, fun s ch e live => ⟨fun awake => ?_, fun reset => ?_, fun runs other => ?_, fun runs valid => ?_⟩⟩
  · exact (running_next (f := takeSample channel fault v) live).trans (congrArg Host.Outcome.next (if_pos reset))
  · refine (running_next (f := takeSample channel fault v) live).trans (congrArg Host.Outcome.next ?_)
    unfold takeSample
    rw [if_neg (by rw [awake]; nofun), dif_neg (by omega)]
    rfl
  · obtain ⟨sense, samples, discards, sets⟩ := word_left (s := s) ch fault v
    have here := sample_of_upd samples ch
    rw [if_pos rfl] at here
    rw [exec_sampleWord live awake ch fault v]
    refine ⟨_, rfl, ?_, fun y other => ?_, discards, fun moved => sets ?_, sense.mc, sense.bc, sense.js, sense.dl, sense.dt, fun other => ?_,
      fun here good => ?_, fun here bad => ?_⟩
    · rw [here]
      cases fault with
      | true => rfl
      | false => rfl
    · rw [sample_of_upd samples y, if_neg (Ne.symm other)]
      rfl
    · rw [here] at moved
      cases fault with
      | true => exact moved
      | false => exact moved
    · cases fault with
      | true =>
        change (faultSample ch s).sp.reserve = _ ∧ (faultSample ch s).sp.low = _ ∧ (faultSample ch s).sp.critical = _
        rw [faultSample_sp]
        exact ⟨if_neg fun h => other h.2, rfl, rfl⟩
      | false =>
        change (goodSample ch v.toNat s).sp.reserve = _ ∧ (goodSample ch v.toNat s).sp.low = _ ∧ (goodSample ch v.toNat s).sp.critical = _
        rw [goodSample_sp]
        exact ⟨if_neg other, if_neg other, if_neg other⟩
    · subst here good
      change (goodSample 20 v.toNat s).sp.reserve = _ ∧ (goodSample 20 v.toNat s).sp.low = _ ∧ (goodSample 20 v.toNat s).sp.critical = _
      rw [goodSample_sp]
      exact ⟨rfl, rfl, rfl⟩
    · subst here bad
      change (faultSample 20 s).sp.low = _ ∧ (faultSample 20 s).sp.critical = _ ∧ (_ → (faultSample 20 s).sp.reserve = _) ∧
        (_ → (faultSample 20 s).sp.reserve = _)
      rw [faultSample_sp]
      exact ⟨rfl, rfl, fun other => if_pos ⟨other, rfl⟩, fun same => if_neg fun h => h.1 same⟩
  · rw [exec_sampleWord live awake ch false v]
    exact congrArg Host.Outcome.next (goodSample_quiet quiet valid v.toNat)
  · rw [exec_sampleWord live awake ch false v]
    exact ⟨_, rfl, goodSample_adds height leveling normal room v.toNat⟩
  · rw [exec_sampleWord live awake ch fault v]
    exact ⟨_, rfl, word_met height live is other v⟩
  · subst is
    have reads : comparatorAfter s.hl.params.reserve (min v.toNat 1200) s.sp.reserve = .above := by
      unfold comparatorAfter
      rw [if_neg (by rw [below]; nofun), if_pos ⟨below, rises⟩]
    obtain ⟨air, sp, flags, told⟩ := exec_reserveWord live awake valid steady reads (by rw [below]; nofun) run
    have reserve := reserveEvent_reserve .above (s.sensing s.now sp s.mc flags)
    rw [told] at air ⊢
    rw [reserveAbove_live (s := s.sensing s.now sp s.mc flags) leveling] at air reserve ⊢
    have two : s.freeGrants = 2 := by
      unfold State.freeGrants
      rw [grants]
      rfl
    have free : s.GrantFree := .inl (by rw [grants]; rfl)
    exact ⟨reserve, air, fun c w next waits ok => arbitrate_fills (s := (s.sensing s.now sp s.mc flags).above) leveling rfl free next waits ok,
      fun c d w next next' waits ok => arbitrate_second (s := (s.sensing s.now sp s.mc flags).above) leveling rfl two next next' waits ok,
      fun c first second =>
        have kept := arbitrate_passes (s := (s.sensing s.now sp s.mc flags).above) leveling first second
        ⟨kept.1, kept.2.1, kept.2.2⟩⟩
  · subst is
    have reads : comparatorAfter s.hl.params.reserve (min v.toNat 1200) s.sp.reserve = .below := by
      unfold comparatorAfter
      rw [if_pos ⟨above, falls⟩]
    obtain ⟨air, sp, flags, told⟩ := exec_reserveWord live awake valid steady reads (by rw [above]; nofun) run
    have rules : FillRules (s.sensing s.now sp s.mc flags) := (fillLaw_iff.mp law live).same rfl rfl id
    rw [told] at air ⊢
    exact ⟨reserveEvent_reserve .below _, air, fun c =>
      have ⟨out, idle, closed, corner, exhaust⟩ := reserveBelow_left rules c
      ⟨out, idle, closed, corner, exhaust⟩⟩
  · obtain ⟨x, now, sp, flags, lost, other, run, reserve, low, critical⟩ := reservoirLost_runs live valid lost
    obtain ⟨air, sp', flags', told⟩ := setSampleState_reservoir lost other (reserve.trans above)
    have port := setSampleState_sp 20 x (s.sensing now sp s.mc flags)
    rw [if_pos ⟨other, rfl, lost⟩] at port
    refine ⟨_, run, congrArg SensePort.reserve port, (congrArg SensePort.low port).trans low, (congrArg SensePort.critical port).trans critical,
      ?_, air, fun law k => ?_⟩
    · rw [told]
      exact (cornersStand_frame.watchDegraded _).reserve.trans (reserveEvent_reserve ..)
    · rw [told]
      exact fillsCut_left law live k
  · exact (running_next (f := fun s => if s.inReset .sense then s else countDiscard s) live).trans
      (congrArg Host.Outcome.next (if_neg (by rw [awake]; nofun)))
  · exact (running_next (f := fun s => if s.inReset .sense then s else countDiscard s) live).trans (congrArg Host.Outcome.next (if_pos reset))
  · rw [exec_sampleAgeExpiry live runs, if_neg other]
    rfl
  · rw [exec_sampleAgeExpiry live runs, if_pos valid]
    have stale : ((s.aged ch e).sample ch).state ≠ .stale := by
      rw [aged_state, valid]
      nofun
    have sense := (aged_sense s ch e).trans (setSampleState_sense ch .stale (s.aged ch e))
    have port := aged_sp s ch e
    have samples : (setSampleState ch .stale (s.aged ch e)).sp.samples = upd s.sp.samples ch fun r => ⟨r.value, .stale, none⟩ :=
      congrArg SensePort.samples port
    refine ⟨_, rfl, sense.now, ?_, fun y other => ?_, setSampleState_sets stale, (congrArg SensePort.low port :), (congrArg SensePort.critical port :), ?_,
      fun c height => ⟨fun live' => ?_, fun reset => setSampleState_check (s := s.aged ch e) reset height⟩, sense.mc, sense.bc, sense.js, sense.dl, sense.dt⟩
    · rw [sample_of_upd samples ch, if_pos rfl]
      rfl
    · rw [sample_of_upd samples y, if_neg (Ne.symm other)]
      rfl
    · refine (congrArg SensePort.reserve port).trans (if_congr (and_iff_right ?_) rfl rfl)
      rw [valid]
      nofun
    · have alike : Alike c s (s.aged ch e) := ⟨rfl, rfl, rfl, rfl, rfl, rfl, rfl, rfl⟩
      exact setSampleState_met alike live' live height stale

end Sys2Proof.Machine
end

section
/-! PROOFS. Wheel pulses: distance (R15, R55), revolutions and the corners that count them (R101); O31. -/

namespace Sys2Proof.Machine

variable {s t y : State} {i k : Slot} {q r : Record} {c d : Corner} {inc : Nat}

/-! ### Distance (R15) -/

/-- The part as every RELEASING record has travelled an increment. -/
def State.travelled (s : State) (inc : Nat) : State :=
  { s with rt := { s.rt with slots := mapAll s.rt.slots fun _ e => { e with record := e.record.map (Record.travelled inc) } } }

theorem travelled_slot (s : State) (inc : Nat) (i : Slot) :
    (s.travelled inc).rt.slots[i.val] = ⟨(s.rt.slots[i.val]).gen, (s.recordAt i).map (Record.travelled inc)⟩ := by
  unfold State.travelled
  dsimp only
  rw [mapAll_get]
  rfl

theorem travelled_changeCount (s : State) (inc : Nat) : (s.travelled inc).rt.changeCount = s.rt.changeCount := by
  unfold State.travelled
  rfl

theorem mem_arriving : i ∈ arriving s inc ↔ ∃ r, s.recordAt i = some r ∧ r.state = .releasing ∧ 0 < r.distLeft ∧ r.distLeft ≤ inc := by
  unfold arriving
  rw [List.mem_filter, and_iff_right (show i ∈ allSlots from List.mem_finRange i)]
  cases s.recordAt i with
  | none => simp
  | some r => simp [Record.arrives, and_assoc]

/-- An increment that takes no record's distance to 0 moves the records alone. -/
theorem distanceIncrement_passes (none' : ∀ i r, s.recordAt i = some r → r.state = .releasing → 0 < r.distLeft → inc < r.distLeft) :
    distanceIncrement inc s = s.travelled inc := by
  have empty : arriving s inc = [] := List.eq_nil_iff_forall_not_mem.mpr fun i member => by
    obtain ⟨r, stands, releasing, runs, reached⟩ := mem_arriving.mp member
    exact absurd (none' i r stands releasing runs) (by omega)
  unfold distanceIncrement
  dsimp only
  rw [empty]
  rfl

/-- One that takes one record's distance to 0 has the envelope formed and that record checked (R15, R17). -/
theorem distanceIncrement_arrives (stands : s.recordAt k = some q) (releasing : q.state = .releasing) (runs : 0 < q.distLeft) (reached : q.distLeft ≤ inc)
    (others : ∀ i r, i ≠ k → s.recordAt i = some r → r.state = .releasing → 0 < r.distLeft → inc < r.distLeft) :
    distanceIncrement inc s = checkRetire k (formEnvelope (s.travelled inc)) := by
  have one : arriving s inc = [k] := by
    refine List.perm_singleton.mp ((List.perm_ext_iff_of_nodup ((List.nodup_finRange 32).filter _) (List.nodup_singleton k)).mpr fun i => ?_)
    rw [List.mem_singleton]
    constructor
    · intro member
      obtain ⟨r, stands', releasing', runs', reached'⟩ := mem_arriving.mp member
      by_contra other
      exact absurd (others i r other stands' releasing' runs') (by omega)
    · rintro rfl
      exact mem_arriving.mpr ⟨q, stands, releasing, runs, reached⟩
  unfold distanceIncrement
  dsimp only
  rw [one]
  rfl

/-- The record that arrives stands with no distance left, or retires when its release has run out. -/
theorem arrival_left (stands : s.recordAt k = some q) (releasing : q.state = .releasing) (reached : q.distLeft ≤ inc) (kind : q.kind ≠ .kneel)
    (parent : q.parent = none) {t : State} (is : t = checkRetire k (formEnvelope (s.travelled inc))) :
    t.EnvelopeLaw ∧ (∀ i : Slot, i ≠ k → t.rt.slots[i.val] = (s.travelled inc).rt.slots[i.val]) ∧
    (q.releaseLeft = 0 → t.rt.slots[k.val] = ⟨(s.rt.slots[k.val]).gen + 1, none⟩ ∧ t.rt.changeCount = s.rt.changeCount + 1 ∧ t.flag .record = true) ∧
    (0 < q.releaseLeft → t.rt.slots[k.val] = ⟨(s.rt.slots[k.val]).gen, some { q with distLeft := 0 }⟩ ∧ t.rt.changeCount = s.rt.changeCount) := by
  have moved : q.travelled inc = { q with distLeft := 0 } := by
    rw [Record.travelled, if_pos releasing, Nat.sub_eq_zero_of_le reached]
  have slot : (formEnvelope (s.travelled inc)).rt.slots[k.val] = ⟨(s.rt.slots[k.val]).gen, some { q with distLeft := 0 }⟩ := by
    rw [formEnvelope_rt, travelled_slot, stands, ← moved]
    rfl
  have stands' : (formEnvelope (s.travelled inc)).recordAt k = some { q with distLeft := 0 } := congrArg SlotEntry.record slot
  have count : (s.travelled inc).rt.changeCount = s.rt.changeCount := travelled_changeCount s inc
  by_cases idle : q.releaseLeft = 0
  · have gone : t = freeSlot k { q with distLeft := 0 } (formEnvelope (s.travelled inc)) := by
      rw [is, checkRetire_spent stands' (spent_iff.mpr ⟨releasing, idle, .inl rfl, .inl kind⟩), retire_alone stands' parent fun k => absurd k kind]
    have frees := freeSlot_frees k { q with distLeft := 0 } (formEnvelope (s.travelled inc))
    rw [← gone] at frees
    refine ⟨gone ▸ freeSlot_envelopeLaw .., fun i other => ?_, fun _ => ⟨?_, ?_, gone ▸ freeSlot_record ..⟩, fun runs => by omega⟩
    · rw [frees.slot, if_neg (Ne.symm other), formEnvelope_rt]
    · rw [frees.slot, if_pos rfl, slot]
    · rw [frees.2, formEnvelope_rt, count]
  · have stays : t = formEnvelope (s.travelled inc) := by
      rw [is]
      exact checkRetire_stays stands' fun spent => idle (spent_iff.mp spent).2.1
    rw [stays]
    exact ⟨formEnvelope_envelopeLaw _, fun i _ => by rw [formEnvelope_rt], fun zero => absurd zero idle, fun _ => ⟨slot, by rw [formEnvelope_rt, count]⟩⟩

/-! ### Revolutions (R101) -/

/-- What a full revolution of an axle makes of a corner's record, its entry in the waiting set aside (R101, R103 to R105). -/
def State.Revolves (s : State) (a : Axle) (c : Corner) (is : CornerRecord) : Prop :=
  is.offset = (s.corner c).offset ∧ is.haltHeight = (s.corner c).haltHeight ∧
  (c.val / 2 ≠ a.val ∨ (s.corner c).source ≠ .axleRev16 → is = s.corner c) ∧
  (c.val / 2 = a.val → (s.corner c).source = .axleRev16 → (s.corner c).revs < 15 → is = { s.corner c with revs := (s.corner c).revs + 1 }) ∧
  (c.val / 2 = a.val → (s.corner c).source = .axleRev16 → 15 ≤ (s.corner c).revs →
    ((s.corner c).check ≠ .normal ∨ (s.corner c).count = 0 → is = { s.corner c with revs := 0 }) ∧
    ((s.corner c).check = .normal → 0 < (s.corner c).count → ∀ err : Int,
      err = s.targetFor c is.phase - (((s.corner c).sum / (s.corner c).count : Nat) : Int) →
      is = { s.corner c with revs := 0, last := some ((s.corner c).sum / (s.corner c).count), sum := 0, count := 0, phase := is.phase,
                             outcome := some (judged err (s.bandIn s.lc.context)) }))

/-- The part in which a revolution is counted: no LEVEL reset, the context as it would be formed, no record in the rising list. -/
def State.Steady (s t : State) : Prop :=
  TableOnly s t ∧ t.inReset .level = false ∧ t.lc.context = s.lc.context ∧ t.formedContext = t.lc.context ∧ t.lc.rising = []

/-- A record with another's entry in the waiting set. -/
def CornerRecord.waitingAs (r q : CornerRecord) : CornerRecord := { r with waiting := q.waiting }

theorem formContext_still (same : s.formedContext = s.lc.context) : formContext s = s := by
  rw [formContext_eq]
  exact if_pos (.inr same)

/-- A control event in the context in hand, with no record in the rising list, before its corner is judged. -/
theorem transited_corner (same : s.formedContext = s.lc.context) (alone : s.lc.rising = []) (c d : Corner) (h : Nat) :
    (s.transited c h).lc.rising = [] ∧ (s.transited c h).corner d =
      if c = d then { s.corner c with last := some h, sum := 0, count := 0, phase := ((s.transited c h).corner c).phase } else s.corner d := by
  have still := formContext_still same
  have alone' : ((formContext s).averaged c h).lc.rising = [] := by
    rw [still]
    exact alone
  obtain ⟨-, -, lc⟩ := bandTransition_alone alone' c h
  have own : (s.transited c h).corner d = (((formContext s).averaged c h).toPhase c ((s.transited c h).corner c).phase).corner d := by
    unfold State.corner
    exact congrArg (fun lc : LevellingController => lc.corners[d.val]) lc
  refine ⟨(congrArg LevellingController.rising lc).trans alone', own.trans ?_⟩
  rw [toPhase_corner, averaged_corner, averaged_corner, if_pos rfl, still]
  by_cases own : c = d
  · rw [if_pos own, if_pos own]
  · rw [if_neg own, if_neg own, if_neg own]

/-- What a control event leaves of the other corners and of the controller. -/
theorem controlEvent_passes (live : s.inReset .level = false) (same : s.formedContext = s.lc.context) (alone : s.lc.rising = []) (c : Corner) :
    (controlEvent c s).lc.context = s.lc.context ∧ (controlEvent c s).lc.rising = [] ∧
    ∀ d, c ≠ d → ∀ q, ((controlEvent c s).corner d).waitingAs q = (s.corner d).waitingAs q := by
  by_cases works : (s.corner c).check = .normal ∧ 0 < (s.corner c).count
  · have event : controlEvent c s = judge false c _ (s.transited c _) := controlEvent_works works.1 works.2 rfl
    rw [event]
    generalize (s.corner c).sum / (s.corner c).count = h
    have commands := judge_commands false c h (s.transited c h)
    refine ⟨?_, ?_, fun d other q => ?_⟩
    · rw [commands.lc]
      exact (transited_context live c h).trans same
    · rw [commands.lc]
      exact (transited_corner same alone c c h).1
    · have corner := (transited_corner same alone c d h).2
      rw [if_neg other] at corner
      rw [commands.corner d, commands.other d (Ne.symm other), corner]
      rfl
  · have rests : (s.corner c).check ≠ .normal ∨ (s.corner c).count = 0 := by
      rcases not_and_or.mp works with check | count
      · exact .inl check
      · exact .inr (by omega)
    rw [controlEvent_rests rests, formContext_still same]
    exact ⟨rfl, alone, fun _ _ _ => rfl⟩

/-- What it leaves of its own. -/
theorem controlEvent_own (live : s.inReset .level = false) (same : s.formedContext = s.lc.context) (alone : s.lc.rising = [])
    (normal : (s.corner c).check = .normal) (samples : 0 < (s.corner c).count) (q : CornerRecord) :
    ((controlEvent c s).corner c).waitingAs q = { (s.corner c).waitingAs q with
      last := some ((s.corner c).sum / (s.corner c).count), sum := 0, count := 0, phase := ((controlEvent c s).corner c).phase
      outcome := some (judged (s.targetFor c ((controlEvent c s).corner c).phase - (((s.corner c).sum / (s.corner c).count : Nat) : Int))
        (s.bandIn s.lc.context)) } := by
  obtain ⟨is, table, -, -, err, -, outcome, phase, -⟩ := controlEvent_left live normal samples rfl rfl
  have corner := (transited_corner same alone c c ((s.corner c).sum / (s.corner c).count)).2
  rw [if_pos rfl] at corner
  have commands := judge_commands false c ((s.corner c).sum / (s.corner c).count) (s.transited c ((s.corner c).sum / (s.corner c).count))
  rw [← is] at commands
  have record := commands.corner c
  rw [corner, ← phase] at record
  have target : (controlEvent c s).targetFor c ((controlEvent c s).corner c).phase = s.targetFor c ((controlEvent c s).corner c).phase := by
    unfold State.targetFor
    rw [table.mc, table.hl, show ((controlEvent c s).corner c).haltHeight = (s.corner c).haltHeight by rw [record],
      show ((controlEvent c s).corner c).offset = (s.corner c).offset by rw [record]]
  rw [err, target, same] at outcome
  rw [outcome] at record
  unfold CornerRecord.waitingAs
  rw [record]

theorem revolveCorner_rests (rests : s.inReset .level = true ∨ (s.corner c).source ≠ .axleRev16) : revolveCorner c s = s :=
  if_pos (by
    rw [Bool.or_eq_true, bne_iff_ne]
    exact rests)

theorem revolveCorner_revolves (live : s.inReset .level = false) (source : (s.corner c).source = .axleRev16) :
    revolveCorner c s = if 15 ≤ (s.corner c).revs then controlEvent c (changeCorner c (fun r => { r with revs := 0 }) s)
      else changeCorner c (fun r => { r with revs := r.revs + 1 }) s :=
  if_neg (by simp [live, source])

/-- A corner's count of revolutions leaves the part in which they are counted. -/
theorem State.Steady.changeCorner (h : s.Steady y) (c : Corner) (f : CornerRecord → CornerRecord) : s.Steady (changeCorner c f y) := by
  obtain ⟨table, live, context, same, alone⟩ := h
  exact ⟨table.trans (changeCorner_only c f y).table, live, context, same, alone⟩

theorem State.Steady.controlEvent (h : s.Steady y) (c : Corner) : s.Steady (controlEvent c y) := by
  obtain ⟨table, live, context, same, alone⟩ := h
  have table' := controlEvent_table c y
  obtain ⟨context', alone', -⟩ := controlEvent_passes live same alone c
  refine ⟨table.trans table', (table'.inReset .level).trans live, context'.trans context, ?_, alone'⟩
  rw [context', ← same]
  unfold State.formedContext
  rw [table'.mc]

/-- A revolution keeps the part in which it is counted, and the other corners. -/
theorem revolveCorner_passes (h : s.Steady y) (c : Corner) :
    s.Steady (revolveCorner c y) ∧ ∀ d, c ≠ d → ∀ q, ((revolveCorner c y).corner d).waitingAs q = (y.corner d).waitingAs q := by
  by_cases source : (y.corner c).source = .axleRev16
  · rw [revolveCorner_revolves h.2.1 source]
    split
    · refine ⟨(h.changeCorner c _).controlEvent c, fun d other q => ?_⟩
      obtain ⟨-, live, -, same, alone⟩ := h.changeCorner c (fun r => { r with revs := 0 })
      rw [(controlEvent_passes live same alone c).2.2 d other q, changeCorner_corner_ne y _ other]
    · exact ⟨h.changeCorner c _, fun d other q => by rw [changeCorner_corner_ne y _ other]⟩
  · rw [revolveCorner_rests (.inr source)]
    exact ⟨h, fun _ _ _ => rfl⟩

/-- What a revolution makes of a corner of its axle. -/
theorem revolveCorner_own {a : Axle} (h : s.Steady y) (axle : c.val / 2 = a.val) (fresh : (y.corner c).waitingAs (s.corner c) = s.corner c) :
    s.Revolves a c (((revolveCorner c y).corner c).waitingAs (s.corner c)) := by
  have source : (y.corner c).source = (s.corner c).source := (congrArg CornerRecord.source fresh :)
  have revs : (y.corner c).revs = (s.corner c).revs := (congrArg CornerRecord.revs fresh :)
  by_cases counts : (s.corner c).source = .axleRev16
  · rw [revolveCorner_revolves h.2.1 (source.trans counts), revs]
    by_cases full : 15 ≤ (s.corner c).revs
    · rw [if_pos full]
      have zero : ((changeCorner c (fun r => { r with revs := 0 }) y).corner c).waitingAs (s.corner c) = { s.corner c with revs := 0 } := by
        rw [changeCorner_corner_self]
        exact congrArg (fun r : CornerRecord => { r with revs := 0 }) fresh
      obtain ⟨table, live, context, same, alone⟩ := h.changeCorner c (fun r => { r with revs := 0 })
      generalize changeCorner c (fun r => { r with revs := 0 }) y = z at zero table live context same alone
      have check : (z.corner c).check = (s.corner c).check := (congrArg CornerRecord.check zero :)
      have count : (z.corner c).count = (s.corner c).count := (congrArg CornerRecord.count zero :)
      have sum : (z.corner c).sum = (s.corner c).sum := (congrArg CornerRecord.sum zero :)
      by_cases works : (s.corner c).check = .normal ∧ 0 < (s.corner c).count
      · have own := controlEvent_own live same alone (check.trans works.1) (count ▸ works.2) (s.corner c)
        have target : z.targetFor c ((controlEvent c z).corner c).phase = s.targetFor c ((controlEvent c z).corner c).phase := by
          unfold State.targetFor
          rw [table.mc, table.hl, show (z.corner c).haltHeight = (s.corner c).haltHeight from (congrArg CornerRecord.haltHeight zero :),
            show (z.corner c).offset = (s.corner c).offset from (congrArg CornerRecord.offset zero :)]
        have band : z.bandIn z.lc.context = s.bandIn s.lc.context := by
          unfold State.bandIn
          rw [table.hl, context]
        rw [target, band, zero, count, sum] at own
        rw [own]
        refine ⟨rfl, rfl, fun rests => ?_, fun _ _ below => by omega, fun _ _ _ => ⟨fun rests => ?_, fun _ _ err is => by rw [is]⟩⟩
        · exact rests.elim (absurd axle) (absurd counts)
        · exact rests.elim (absurd works.1) (by omega)
      · have rests : (z.corner c).check ≠ .normal ∨ (z.corner c).count = 0 := by
          rw [check, count]
          rcases not_and_or.mp works with check | count
          · exact .inl check
          · exact .inr (by omega)
        rw [controlEvent_rests rests, formContext_still same, zero]
        refine ⟨rfl, rfl, fun other => ?_, fun _ _ below => by omega, fun _ _ _ => ⟨fun _ => rfl, fun normal samples => absurd ⟨normal, samples⟩ works⟩⟩
        exact other.elim (absurd axle) (absurd counts)
    · rw [if_neg full, changeCorner_corner_self]
      have one : ({ y.corner c with revs := (y.corner c).revs + 1 } : CornerRecord).waitingAs (s.corner c)
          = { s.corner c with revs := (s.corner c).revs + 1 } :=
        congrArg (fun r : CornerRecord => { r with revs := r.revs + 1 }) fresh
      rw [one]
      refine ⟨rfl, rfl, fun other => ?_, fun _ _ _ => rfl, fun _ _ reached => absurd reached full⟩
      exact other.elim (absurd axle) (absurd counts)
  · rw [revolveCorner_rests (.inr (source ▸ counts)), fresh]
    exact ⟨rfl, rfl, fun _ => rfl, fun _ here => absurd here counts, fun _ here => absurd here counts⟩

/-- A full revolution of an axle, in the context in hand and with no record in the rising list (R55, R101). -/
theorem revolutionEvent_revolves (live : s.inReset .level = false) (same : s.formedContext = s.lc.context) (alone : s.lc.rising = []) (a : Axle) (c : Corner) :
    s.Revolves a c (((revolutionEvent a s).corner c).waitingAs (s.corner c)) := by
  have keeps (d : Corner) (x : State) (steady : s.Steady x) : s.Steady (if axleOf d = a then revolveCorner d x else x) := by
    split
    · exact (revolveCorner_passes steady d).1
    · exact steady
  have passes (d e : Corner) (x : State) (steady : s.Steady x) (other : d ≠ e) :
      ((if axleOf d = a then revolveCorner d x else x).corner e).waitingAs (s.corner e) = (x.corner e).waitingAs (s.corner e) := by
    split
    · exact (revolveCorner_passes steady d).2 e other _
    · rfl
  unfold revolutionEvent
  refine (forAll_own (I := s.Steady) (Pre := fun d x => (x.corner d).waitingAs (s.corner d) = s.corner d)
    (Post := fun d x => s.Revolves a d ((x.corner d).waitingAs (s.corner d))) keeps
    (fun d e x steady other fresh => (passes d e x steady other).trans fresh)
    (fun d e x steady other done => (passes d e x steady other).symm ▸ done) (fun d x steady fresh => ?_)
    ⟨.refl s, live, rfl, same, alone⟩ fun d => rfl).2 c
  by_cases axle : axleOf d = a
  · rw [if_pos axle]
    exact revolveCorner_own steady (congrArg Fin.val axle) fresh
  · rw [if_neg axle, fresh]
    have off : d.val / 2 ≠ a.val := fun same => axle (Fin.ext same)
    exact ⟨rfl, rfl, fun _ => rfl, fun here => absurd here off, fun here => absurd here off⟩

/-- In a LEVEL reset no revolution is counted (R122). -/
theorem revolutionEvent_rests (held : s.inReset .level = true) (a : Axle) : revolutionEvent a s = s := by
  unfold revolutionEvent forAll
  induction List.finRange 6 with
  | nil => rfl
  | cons c cs ih =>
    rw [List.foldl_cons]
    dsimp only at ih ⊢
    rw [revolveCorner_rests (.inl held), ite_self]
    exact ih

end Sys2Proof.Machine
end

section
/-! PROOFS. A pulse of a wheel: its bucket, the distance and the revolutions (R52, R55); O31. -/

namespace Sys2Proof.Machine

variable {s t x : State} {w c : Corner} {a : Axle} {i k : Slot} {q : Record} {inc : Nat}

theorem bump_eq_min (top n : Nat) : bump top n = min top (n + 1) := by
  unfold bump
  split <;> omega

/-- The part as a pulse has been counted in its wheel's open bucket (R52). -/
def State.pulsed (s : State) (w : Corner) : State :=
  { s with mc := { s.mc with wheels := s.mc.wheels.set w.val { s.mc.wheels[w.val] with bucket := min 255 (s.mc.wheels[w.val].bucket + 1) } } }

/-- The part as a pulse of B-K has moved the remainder and the trip distance by an increment (R55). -/
def State.rolled (s : State) (inc : Nat) : State :=
  { s with mc := { s.mc with remainder := s.mc.remainder + s.mc.circ - inc * s.mc.teeth, trip := s.mc.trip + BitVec.ofNat 32 inc } }

/-- The whole mm that a pulse of B-K takes out of the remainder (R55). -/
def State.increment (s : State) : Nat := (s.mc.remainder + s.mc.circ) / s.mc.teeth

theorem travelled_zero (s : State) : s.travelled 0 = s := by
  have keep : Record.travelled 0 = id := funext fun r => by
    unfold Record.travelled
    split <;> rfl
  have slots : (mapAll s.rt.slots fun _ e => { e with record := e.record.map id }) = s.rt.slots := by
    apply Vector.ext
    intro n small
    rw [mapAll_get (i := (⟨n, small⟩ : Slot)), Option.map_id]
    rfl
  unfold State.travelled
  rw [keep, slots]

theorem rollOn_eq (s : State) : rollOn s = if s.increment = 0 then s.rolled 0 else distanceIncrement s.increment (s.rolled s.increment) := by
  unfold rollOn State.increment
  dsimp only
  split
  case isTrue none' =>
    unfold State.rolled
    rw [none', show BitVec.ofNat 32 0 = 0#32 from rfl, BitVec.add_zero]
  case isFalse => rfl

/-- Does no RELEASING record's distance end in an increment? -/
def State.AllPass (s : State) (inc : Nat) : Prop := ∀ i r, s.recordAt i = some r → r.state = .releasing → 0 < r.distLeft → inc < r.distLeft

theorem rollOn_passes (passes : s.AllPass s.increment) : rollOn s = (s.rolled s.increment).travelled s.increment := by
  rw [rollOn_eq]
  split
  case isTrue none' => rw [none', travelled_zero]
  case isFalse => exact distanceIncrement_passes passes

theorem rollOn_arrives (stands : s.recordAt k = some q) (releasing : q.state = .releasing) (runs : 0 < q.distLeft) (reached : q.distLeft ≤ s.increment)
    (others : ∀ i r, i ≠ k → s.recordAt i = some r → r.state = .releasing → 0 < r.distLeft → s.increment < r.distLeft) :
    rollOn s = checkRetire k (formEnvelope ((s.rolled s.increment).travelled s.increment)) := by
  rw [rollOn_eq, if_neg (by omega)]
  exact distanceIncrement_arrives stands releasing runs reached others

theorem rollOn_table (s : State) : TableOnly (s.rolled s.increment) (rollOn s) := by
  rw [rollOn_eq]
  split
  case isTrue none' =>
    rw [none']
    exact .refl _
  case isFalse => exact distanceIncrement_table ..

theorem wheelPulse_eq (w : Corner) (s : State) : wheelPulse w s =
    if w.val % 2 = 0 then countRevolution (axleOf w) (if w = 2 then rollOn (s.pulsed w) else s.pulsed w) else if w = 2 then rollOn (s.pulsed w) else s.pulsed w := by
  have bucket : { s with mc := { s.mc with wheels := upd s.mc.wheels w fun x => { x with bucket := bump 255 x.bucket } } } = s.pulsed w := by
    simp only [bump_eq_min]
    rfl
  unfold wheelPulse
  rw [bucket]

theorem countRevolution_below (below : s.mc.revs[a.val] + 1 < s.mc.teeth) :
    countRevolution a s = { s with mc := { s.mc with revs := s.mc.revs.set a.val (s.mc.revs[a.val] + 1) } } :=
  if_neg (by omega)

theorem countRevolution_full (full : s.mc.teeth ≤ s.mc.revs[a.val] + 1) :
    countRevolution a s = revolutionEvent a { s with mc := { s.mc with revs := s.mc.revs.set a.val 0 } } :=
  if_pos full

/-- The part as the distance of a pulse of wheel `w` has been taken, its revolution still to be counted. -/
def State.paced (s : State) (w : Corner) : State := if w = 2 then rollOn (s.pulsed w) else s.pulsed w

/-- What the distance of a pulse leaves (R15, R55). -/
theorem paced_table (s : State) (w : Corner) : ∃ mc, TableOnly { s with mc := mc } (s.paced w) ∧ mc.revs = s.mc.revs ∧ mc.teeth = s.mc.teeth ∧
    mc.wheels = (s.pulsed w).mc.wheels ∧ mc.speed = s.mc.speed ∧ mc.moving = s.mc.moving ∧ mc.stationary = s.mc.stationary := by
  unfold State.paced
  split
  case isTrue => exact ⟨_, rollOn_table (s.pulsed w), rfl, rfl, rfl, rfl, rfl, rfl⟩
  case isFalse => exact ⟨_, .refl _, rfl, rfl, rfl, rfl, rfl, rfl⟩

theorem paced_lc (passes : w = 2 → s.AllPass s.increment) : (s.paced w).lc = s.lc := by
  unfold State.paced
  split
  case isTrue bk =>
    rw [rollOn_passes (s := s.pulsed w) (passes bk)]
    unfold State.travelled
    rfl
  case isFalse => rfl

/-- The part as an axle's revolution count has gone back to 0 (R55). -/
def State.turned (s : State) (a : Axle) : State := { s with mc := { s.mc with revs := s.mc.revs.set a.val 0 } }

/-- A full revolution of an axle: the counts and blocks, and the corners (R55, R101). -/
theorem fullRevolution_left (is : t = revolutionEvent a ((s.paced w).turned a)) :
    (t.mc.revs = s.mc.revs.set a.val 0 ∧ t.mc.wheels = (s.pulsed w).mc.wheels ∧ t.mc.speed = s.mc.speed ∧ t.sp = s.sp ∧ t.bc = s.bc ∧ t.js = s.js ∧
      t.dl = s.dl ∧ t.dt = s.dt) ∧
    ((w = 2 → s.AllPass s.increment) → (s.inReset .level = true → t.lc = s.lc) ∧
      (s.inReset .level = false → s.formedContext = s.lc.context → s.lc.rising = [] → ∀ c,
        s.Revolves a c ((t.corner c).waitingAs (s.corner c)) ∧ t.targetFor c = s.targetFor c)) := by
  obtain ⟨mc, paced, revs, -, wheels, speed, moving, stationary⟩ := paced_table s w
  have table : TableOnly ((s.paced w).turned a) t := is ▸ revolutionEvent_table ..
  have paced_mc : (s.paced w).mc = mc := paced.mc
  have turned : ((s.paced w).turned a).mc = { mc with revs := s.mc.revs.set a.val 0 } := by
    rw [← revs, ← paced_mc]
    rfl
  have reset : ((s.paced w).turned a).inReset .level = s.inReset .level := paced.inReset .level
  have params : ((s.paced w).turned a).hl.params = s.hl.params := paced.params
  have speed' : ((s.paced w).turned a).mc.speed = s.mc.speed := (congrArg MotionCounters.speed turned).trans speed
  have revs' : ((s.paced w).turned a).mc.revs = s.mc.revs.set a.val 0 := congrArg MotionCounters.revs turned
  have wheels' : ((s.paced w).turned a).mc.wheels = (s.pulsed w).mc.wheels := (congrArg MotionCounters.wheels turned).trans wheels
  have context : ((s.paced w).turned a).formedContext = s.formedContext := by
    unfold State.formedContext
    rw [turned]
    dsimp only
    rw [moving, stationary, speed]
  refine ⟨⟨?_, ?_, ?_, table.sp.trans paced.sp, table.bc.trans paced.bc, table.js.trans paced.js, table.dl.trans paced.dl, table.dt.trans paced.dt⟩,
    fun passes => ?_⟩
  · rw [table.mc, revs']
  · rw [table.mc, wheels']
  · rw [table.mc, speed']
  have lc : ((s.paced w).turned a).lc = s.lc := paced_lc passes
  refine ⟨fun held => ?_, fun live same alone c => ?_⟩
  · rw [is, revolutionEvent_rests (reset.trans held), lc]
  have corner : ((s.paced w).turned a).corner c = s.corner c := congrArg (fun lc : LevellingController => lc.corners[c.val]) lc
  have revolves := revolutionEvent_revolves (reset.trans live) (context.trans (same.trans (congrArg LevellingController.context lc).symm))
    ((congrArg LevellingController.rising lc).trans alone) a c
  rw [← is] at revolves
  generalize (s.paced w).turned a = x at *
  have target : x.targetFor c = s.targetFor c := by
    unfold State.targetFor
    rw [speed', params, corner]
  have band : x.bandIn x.lc.context = s.bandIn s.lc.context := by
    unfold State.bandIn
    rw [params, lc]
  unfold State.Revolves at revolves ⊢
  rw [corner, target, band] at revolves
  refine ⟨revolves, ?_⟩
  obtain ⟨offset, halt, -⟩ := revolves
  have offset' : (t.corner c).offset = (s.corner c).offset := offset
  have halt' : (t.corner c).haltHeight = (s.corner c).haltHeight := halt
  unfold State.targetFor
  rw [table.mc, table.params, speed', params, offset', halt']

theorem axleOf_double (even : w.val = 2 * a.val) : axleOf w = a := Fin.ext (by
  show w.val / 2 = a.val
  omega)

theorem wheelPulse_kerb (even : w.val = 2 * a.val) (s : State) : wheelPulse w s = countRevolution a (s.paced w) := by
  rw [wheelPulse_eq, if_pos (by omega), axleOf_double even]
  rfl

theorem wheelPulse_full (even : w.val = 2 * a.val) (full : s.mc.teeth ≤ s.mc.revs[a.val] + 1) :
    wheelPulse w s = revolutionEvent a ((s.paced w).turned a) := by
  obtain ⟨mc, table, revs, teeth, -⟩ := paced_table s w
  have same : (s.paced w).mc = mc := table.mc
  rw [wheelPulse_kerb even]
  exact countRevolution_full (by rw [same, revs, teeth]; exact full)

theorem wheelPulse_below (even : w.val = 2 * a.val) (below : s.mc.revs[a.val] + 1 < s.mc.teeth) :
    wheelPulse w s = { s.paced w with mc := { (s.paced w).mc with revs := s.mc.revs.set a.val (s.mc.revs[a.val] + 1) } } := by
  obtain ⟨mc, table, revs, teeth, -⟩ := paced_table s w
  have same : (s.paced w).mc = mc := table.mc
  rw [wheelPulse_kerb even, countRevolution_below (by rw [same, revs, teeth]; exact below), same, revs]

/-- The part as a pulse of B-K has moved the distance and its revolution count, short of a full revolution. -/
theorem wheelPulse_bk (below : s.mc.revs[1] + 1 < s.mc.teeth) : wheelPulse 2 s =
    { rollOn (s.pulsed 2) with mc := { ((s.pulsed 2).rolled s.increment).mc with revs := s.mc.revs.set 1 (s.mc.revs[1] + 1) } } := by
  have mc : (rollOn (s.pulsed 2)).mc = ((s.pulsed 2).rolled s.increment).mc := (rollOn_table (s.pulsed 2)).mc
  rw [wheelPulse_below (a := 1) rfl below, ← mc]
  rfl

/-- Settles O31: a pulse moves its wheel's bucket, the distance and the revolutions (R15, R52, R55, R101). -/
theorem wheelPulses : Obligations.WheelPulses := by
  intro s w live wheels hwheels
  have runs : exec (.wheelPulse w) s = .next (wheelPulse w s) := running_next (f := wheelPulse w) live
  have wheels' : wheels = (s.pulsed w).mc.wheels := hwheels
  subst hwheels
  refine ⟨fun odd => ?_, fun a even other below => ?_, fun inc mc bk below hinc hmc => ?_, fun a even full => ?_⟩
  · have far : w ≠ 2 := fun same => absurd (same ▸ odd) (by decide)
    rw [runs, wheelPulse_eq, if_neg (by omega), if_neg far]
    rfl
  · have far : w ≠ 2 := fun same => other (Fin.ext (by subst same; show a.val = 1; omega))
    rw [runs, wheelPulse_below even below, State.paced, if_neg far]
    rfl
  · subst bk hinc hmc
    rw [runs, wheelPulse_bk below]
    refine ⟨fun passes => ?_, fun k q stands releasing runs reached kind parent others => ?_⟩
    · rw [rollOn_passes (s := s.pulsed 2) passes]
      refine ⟨_, rfl, ?_, fun i => ?_⟩
      · unfold State.travelled
        rfl
      · have slot := travelled_slot ((s.pulsed 2).rolled s.increment) s.increment i
        exact ⟨(congrArg SlotEntry.gen slot :), (congrArg SlotEntry.record slot :)⟩
    · have arrives := rollOn_arrives (s := s.pulsed 2) stands releasing runs reached others
      obtain ⟨law, left, spent, waits⟩ := arrival_left (s := (s.pulsed 2).rolled s.increment) stands releasing reached kind parent arrives
      have table := rollOn_table (s.pulsed 2)
      generalize rollOn (s.pulsed 2) = t at *
      refine ⟨_, rfl, rfl, table.sp, table.bc, table.js, table.dl, table.dt, law, fun i other => ?_, spent, waits⟩
      have slot := (left i other).trans (travelled_slot ((s.pulsed 2).rolled s.increment) s.increment i)
      exact ⟨(congrArg SlotEntry.gen slot :), (congrArg SlotEntry.record slot :)⟩
  · rw [runs, wheelPulse_full even full]
    obtain ⟨blocks, corners⟩ := fullRevolution_left (s := s) (w := w) (a := a) rfl
    generalize revolutionEvent a ((s.paced w).turned a) = t at *
    obtain ⟨revs, wheels, speed, sp, bc, js, dl, dt⟩ := blocks
    refine ⟨t, rfl, revs, wheels, speed, sp, bc, js, dl, dt, fun passes => ?_⟩
    have second (bk : w = 2) : a = 1 := Fin.ext (by subst bk; show a.val = 1; have : (2 : Corner).val = 2 := rfl; omega)
    obtain ⟨held, turns⟩ := corners fun bk => passes (second bk)
    refine ⟨held, fun live same alone c was is hwas his => ?_⟩
    obtain ⟨⟨-, -, rests, counts, full⟩, target⟩ := turns live same alone c
    subst hwas his
    refine ⟨rests, counts, fun axle source reached => ?_⟩
    rw [target]
    exact full axle source reached

end Sys2Proof.Machine
end

section
/-! PROOFS. The translator: the word it takes, and the actions of a cell (R156 to R162); O49 and O50. -/

namespace Sys2Proof.Machine

variable {s t : State} {d : Door} {i j : Slot} {r p : Record} {k : Kind} {v : Variant} {row : Fin 256}

/-! ### The word taken (R156, R157) -/

theorem contextAt_eq (s : State) (d : Door) : contextAt s d = wordContext s d := by
  unfold contextAt wordContext State.isReleased
  cases s.hl.service <;> cases s.mc.moving <;> cases s.dt.releaseSet.getLsbD d.val <;> rfl

/-- The lines in the order in which the translator looks at them. -/
theorem served_order (l : Door) : [l + 1, l + 2, l + 3, l] = (List.finRange 4).map (l + 1 + ·) := by
  revert l
  decide

theorem nextLine_none (empty : ∀ d : Door, (s.line d).holding = none) : nextLine s = none :=
  List.find?_eq_none.mpr fun d _ => by simp [empty d]

/-- The first line after the one served last that holds a word (R156). -/
theorem nextLine_first {n : Door} {code : BitVec 7} (is : d = s.dt.lastServed + 1 + n)
    (before : ∀ j : Door, j < n → (s.line (s.dt.lastServed + 1 + j)).holding = none) (holds : (s.line d).holding = some code) : nextLine s = some d := by
  unfold nextLine
  rw [served_order, List.find?_eq_some_iff_getElem]
  refine ⟨by rw [holds]; rfl, n.val, by simp, by simp [is], fun j low => ?_⟩
  have small : j < 4 := by omega
  have empty := before ⟨j, small⟩ low
  simpa using empty

theorem tryFree_left (now : Nat) (reset : Bool) (l : Line) :
    (l.tryFree now reset).holding = l.holding ∧ (l.tryFree now reset).activity = l.activity ∧ (l.tryFree now reset).queue = l.queue ∧
    (l.tryFree now reset).prefixPending = l.prefixPending := by
  unfold Line.tryFree
  split
  · exact ⟨rfl, rfl, rfl, rfl⟩
  · split
    · split
      · exact ⟨rfl, rfl, rfl, rfl⟩
      · exact ⟨rfl, rfl, rfl, rfl⟩
    · exact ⟨rfl, rfl, rfl, rfl⟩

/-- What the taking of its word leaves of a line (R145). -/
theorem taken_left (now : Nat) (reset : Bool) (l : Line) :
    (l.taken now reset).holding = none ∧ (l.taken now reset).activity ≠ .held ∧ (l.taken now reset).queue = l.queue ∧
    (l.taken now reset).prefixPending = l.prefixPending := by
  obtain ⟨holding, activity, queue, pending⟩ :=
    tryFree_left now reset { l with holding := none, activity := if l.activity = .held then .listening else l.activity }
  refine ⟨holding, activity.trans_ne ?_, queue, pending⟩
  dsimp only
  split
  · nofun
  · assumption

/-- A door's line once its word has been taken and no main-page 0x7F stands before the next. -/
def State.takenLine (s : State) (d : Door) : Line := { Line.taken s.now (s.inReset .doors) (s.line d) with prefixPending := false }

/-- The part as a cell of door `d`'s begins. -/
def State.served (s : State) (d : Door) : State :=
  { s with dl := { s.dl with lines := s.dl.lines.set d.val (s.takenLine d) }, dt := { s.dt with lastServed := d } }

theorem served_line (s : State) (d : Door) : (s.served d).line d = s.takenLine d := by simp [State.served, State.line]

/-- The cell of a word is run, action after action. -/
theorem runCell_served (s : State) (d : Door) (row : Fin 256) :
    runCell d row (s.served d) = (cellAt s row (wordContext s d)).foldl (fun t a => act d (s.served d).eu.env.kneel a t) (s.served d) := by
  unfold runCell
  rw [contextAt_eq]
  rfl

theorem translateNext_first {n : Door} {code : BitVec 7} (is : d = s.dt.lastServed + 1 + n)
    (before : ∀ j : Door, j < n → (s.line (s.dt.lastServed + 1 + j)).holding = none) (holds : (s.line d).holding = some code) :
    translateNext s = translate d code (s.line d).prefixPending s := by
  unfold translateNext
  rw [nextLine_first is before holds]
  dsimp only
  rw [holds]

/-- A word that is no main-page 0x7F, or stands behind one, has its cell run (R157 to R159). -/
theorem translate_cell {code : BitVec 7} (word : (s.line d).prefixPending = true ∨ code ≠ 0x7F)
    (at_row : row.val = (if (s.line d).prefixPending then 128 else 0) + code.toNat) :
    translate d code (s.line d).prefixPending s = runCell d row (s.served d) := by
  unfold translate
  dsimp only
  cases pre : (s.line d).prefixPending with
  | true =>
    rw [pre] at at_row
    rw [if_pos rfl, show extendedRow code = row from Fin.ext at_row.symm]
    congr 1
    unfold State.served State.takenLine changeLine
    simp only [upd, Vector.getElem_set_self, Vector.set_set]
    rfl
  | false =>
    rw [pre] at at_row
    have plain : code ≠ 0x7F := word.resolve_left (by rw [pre]; nofun)
    rw [if_neg nofun, if_neg plain, show mainRow code = row from Fin.ext (by rw [at_row]; simp [mainRow])]
    congr 1
    have same : s.takenLine d = Line.taken s.now (s.inReset .doors) (s.line d) := by
      have pending := (taken_left s.now (s.inReset .doors) (s.line d)).2.2.2.trans pre
      unfold State.takenLine
      rw [← pending]
    unfold State.served
    rw [same]
    rfl

/-- A main-page 0x7F is kept for the word after it (R157). -/
theorem translate_prefix (plain : (s.line d).prefixPending = false) : translate d 0x7F (s.line d).prefixPending s = { s with
    dl := { s.dl with lines := s.dl.lines.set d.val { Line.taken s.now (s.inReset .doors) (s.line d) with prefixPending := true } }
    dt := { s.dt with lastServed := d, prefixAt := s.dt.prefixAt.set d.val (some (s.now + 100 * ms)) } } := by
  unfold translate
  dsimp only
  rw [plain, if_neg nofun, if_pos rfl]
  unfold takePrefix changeLine
  simp only [upd, Vector.getElem_set_self, Vector.set_set]
  rfl

theorem exec_translate (live : s.resetHeld = false) : exec .translateWord s = .next (translateNext s) := running_next (f := translateNext) live

/-! ### The actions (R159 to R162) -/

theorem checkParent_stopHold (found : s.find .stopHold .driver = some j) (stands : s.recordAt j = some p) :
    checkParent s ((stopHoldParent s).map some) =
      .ok (if p.state ≠ .armed ∧ p.depth ≤ 3 then (some (s.handleAt j), p.depth + 1) else (none, 1)) := by
  obtain ⟨q, stands', -, owner⟩ := find_eq_some found
  obtain rfl : q = p := Option.some.inj (stands'.symm.trans stands)
  have names : s.names (s.handleAt j) = true := names_iff.mpr ⟨rfl, by rw [show (s.handleAt j).slot = j from rfl, stands]; nofun⟩
  unfold stopHoldParent
  simp only [found, stands]
  split
  case isTrue takes =>
    rw [Option.map_some, checkParent_live names stands, if_neg takes.1, if_neg (by rw [owner]; exact nofun), if_pos takes.2]
  case isFalse => rfl

/-- A PLACE that creates a record (R160). -/
theorem actPlace_new {above : Option Handle × Nat} (permitted : k.permits (.door d) = true) (absent : s.find k (.door d) = none)
    (checked : checkParent s ((stopHoldParent s).map some) = .ok above) (free : freeSlotFor s (.door d) = some i) :
    actPlace d k v s = createRecord i (newRecord s (doorPlacement s d k v) above.1 above.2) s := by
  have new : placeRecord (doorPlacement s d k v) s =
      ⟨.ok, some (s.handleAt i), createRecord i (newRecord s (doorPlacement s d k v) above.1 above.2) s⟩ := by
    have ok : suppliedOk (s.profile k) {} = true := rfl
    have whole : anyClamped {} = false := rfl
    unfold placeRecord placeNew
    simp only [doorPlacement, permitted, ok, absent, checked, free, whole]
    rfl
  unfold actPlace
  rw [new]
  rfl

theorem doorPlacement_fresh (lists : Cond.ownerRelease ∈ placedConds (s.profile k) { kind := k, owner := .door d, variant := some v })
    (parent : Option Handle) (depth : Nat) : (newRecord s (doorPlacement s d k v) parent depth).Fresh :=
  newRecord_fresh (s := s) (doorPlacement s d k v) parent depth lists

theorem actPlace_barred (barred : k.permits (.door d) = false) : actPlace d k v s = countIgnored d s := by
  have out : placeRecord (doorPlacement s d k v) s = ⟨.notOwner, none, s⟩ := by
    unfold placeRecord
    simp [doorPlacement, barred]
  unfold actPlace
  rw [out]
  rfl

/-- A PLACE that meets a record that is not RELEASING answers ALREADY (R6). -/
theorem actPlace_already (permitted : k.permits (.door d) = true) (found : s.find k (.door d) = some i) (stands : s.recordAt i = some r)
    (state : r.state ≠ .releasing) : actPlace d k v s = s := by
  have out : placeRecord (doorPlacement s d k v) s = ⟨.already, some (s.handleAt i), s⟩ := by
    have ok : suppliedOk (s.profile k) {} = true := rfl
    unfold placeRecord placeAgain
    simp only [doorPlacement, permitted, ok, found, stands]
    cases is : r.state with
    | armed | active => rfl
    | releasing => exact absurd is state
  unfold actPlace
  rw [out]
  rfl

theorem actRelease_found (found : s.find k (.door d) = some i) : actRelease d k s = (ownerRetire i s).2 := by
  unfold actRelease
  rw [found]

/-- The placement of a door under the DRIVER's STOP_HOLD (R8, R160). -/
theorem actPlace_under (permitted : k.permits (.door d) = true) (absent : s.find k (.door d) = none) (found : s.find .stopHold .driver = some j)
    (stands : s.recordAt j = some p) (free : freeSlotFor s (.door d) = some i)
    (lists : Cond.ownerRelease ∈ placedConds (s.profile k) { kind := k, owner := .door d, variant := some v }) :
    ∃ t r, t = actPlace d k v s ∧ t.recordAt i = some r ∧ r.kind = k ∧ r.owner = .door d ∧
      r.state = (if k.trigger = .stationary ∧ s.mc.stationary = false then .armed else .active) ∧ BlocksKept s t ∧ t.EnvelopeLaw ∧
      (p.state = .armed ∨ 4 ≤ p.depth → r.parent = none ∧ r.depth = 1) ∧
      (p.state ≠ .armed → p.depth ≤ 3 → r.parent = some (s.handleAt j) ∧ r.depth = p.depth + 1 ∧
        t.recordAt j = some (if p.state = .releasing then p.returned else p)) := by
  have checked := checkParent_stopHold found stands
  have empty : s.recordAt i = none := (freeSlotFor_some free).2
  rw [actPlace_new (v := v) permitted absent checked free]
  by_cases under : p.state ≠ .armed ∧ p.depth ≤ 3
  · rw [if_pos under]
    have names : s.names (s.handleAt j) = true := names_iff.mpr ⟨rfl, by rw [show (s.handleAt j).slot = j from rfl, stands]; nofun⟩
    have other : j ≠ i := fun same => by
      rw [same, empty] at stands
      cases stands
    obtain ⟨made, above⟩ := createRecord_slot_under (i := i) (doorPlacement_fresh lists (some (s.handleAt j)) (p.depth + 1)) rfl names stands under.1 other
    exact ⟨_, _, rfl, congrArg SlotEntry.record made, rfl, rfl, newRecord_state (doorPlacement s d k v) _ _, (createRecord_table ..).blocks,
      createRecord_envelopeLaw .., fun off => off.elim (absurd · under.1) fun deep => by omega, fun _ _ => ⟨rfl, rfl, above⟩⟩
  · rw [if_neg under]
    have made := createRecord_slot_alone (i := i) (doorPlacement_fresh lists none 1) rfl s
    exact ⟨_, _, rfl, congrArg SlotEntry.record made, rfl, rfl, newRecord_state (doorPlacement s d k v) _ _, (createRecord_table ..).blocks,
      createRecord_envelopeLaw .., fun _ => ⟨rfl, rfl⟩, fun notArmed low => absurd ⟨notArmed, low⟩ under⟩

/-- Settles O50: the actions of a cell, one after another (R158 to R162). -/
theorem translatorActions : Obligations.TranslatorActions := by
  refine ⟨fun s u d actions live ⟨n, code, row, is, before, holds, word, at_row, cell, begins⟩ => ?_, fun s d kneel k v => ?_⟩
  · have served : u = s.served d := begins
    rw [exec_translate live, translateNext_first is before holds, translate_cell word at_row, runCell_served, cell, served]
  refine ⟨rfl, fun c => rfl, rfl, fun absent => ?_, fun barred => actPlace_barred barred, fun i r found stands => ?_,
    fun i j p permitted absent above stands free lists => actPlace_under permitted absent above stands free lists⟩
  · change actRelease d k s = s
    unfold actRelease
    rw [absent]
  have release : act d kneel (.release k) s = (ownerRetire i s).2 := actRelease_found found
  rw [release]
  refine ⟨fun already => ?_, fun active untold unlocked lists => ?_, fun active untold kind childless met => ?_, fun armed kind parent => ?_,
    fun state permitted => actPlace_already permitted found stands state⟩
  · rw [ownerRetire_already stands already]
  · obtain ⟨x, member, apart, fails⟩ := waits_for_door unlocked (.inl lists)
    have waits : releasable (changeRecord i Record.told s) i r.told = false :=
      releasable_false_of_cond (r := r.told) member ((changeRecord_condHolds (r := r) _ apart).trans (fails i r))
    rw [ownerRetire_waits stands active untold waits, changeRecord_eq stands]
    rfl
  · obtain ⟨-, law, stays, goes⟩ := ownerRetire_goes stands kind active untold met childless
    exact ⟨law, fun lingers => (stays lingers).1, goes⟩
  · rw [ownerRetire_armed stands armed, retire_alone stands parent fun k => absurd k kind]
    exact ⟨freeSlot_frees i r s, freeSlot_record ..⟩

/-! ### The timer of a main-page 0x7F (R157) and the cells of one action -/

theorem exec_prefixExpiry {e : Nat} (live : s.resetHeld = false) (runs : s.dt.prefixAt[d.val] = some e) :
    exec (.prefixTimerExpiry d) s = .next { s with
      now := max s.now e
      dl := { s.dl with lines := s.dl.lines.set d.val { s.line d with prefixPending := false } }
      dt := { s.dt with prefixAt := s.dt.prefixAt.set d.val none } } := by
  have runs' : prefixExpiry d s = changeLine d (fun l => { l with prefixPending := false }) (stopPrefixTimer d (atLeast e s)) := by
    unfold prefixExpiry
    rw [runs]
  exact (running_next (f := prefixExpiry d) live).trans (congrArg _ runs')

/-- Settles O49: the translator takes a word and runs its cell (R156 to R160). -/
theorem translatorTakesWord : Obligations.TranslatorTakesWord := by
  intro s live
  refine ⟨fun empty => ?_, fun n d code l row x is context before holds taken at_row => ?_, fun d e runs => exec_prefixExpiry live runs⟩
  · rw [exec_translate live, translateNext, nextLine_none empty]
  have same : x = wordContext s d := context.trans (contextAt_eq s d)
  obtain ⟨holding, activity, queue, -⟩ := taken_left s.now (s.inReset .doors) (s.line d)
  rw [← taken] at holding activity queue
  have line : { l with prefixPending := false } = s.takenLine d := by rw [taken]; rfl
  refine ⟨⟨holding, activity, queue⟩, fun plain seven => ?_, fun word => ?_⟩
  · subst seven
    rw [exec_translate live, translateNext_first is before holds, translate_prefix plain, taken]
  have run : exec .translateWord s = .next ((cellAt s row x).foldl (fun t a => act d (s.served d).eu.env.kneel a t) (s.served d)) := by
    rw [exec_translate live, translateNext_first is before holds, translate_cell word at_row, runCell_served, same]
  rw [line]
  refine ⟨fun cell => ?_, fun cell => ?_, fun c cell free => ?_, fun kind v i cell permitted absent alone free lists => ?_⟩
  · rw [run, cell]
    rfl
  · rw [run, cell, ← bump_eq_min]
    rfl
  · rw [run, cell]
    have queued : act d (s.served d).eu.env.kneel (.send c) (s.served d) = changeLine d (Line.queued c) (s.served d) := if_neg (by
      rw [show (s.served d).inReset .doors = s.inReset .doors from rfl, free]
      nofun)
    rw [List.foldl_cons, List.foldl_nil, queued, changeLine_eq, served_line]
    simp only [State.withLine, State.served, Vector.set_set]
  · have place : exec .translateWord s = .next (actPlace d kind v (s.served d)) := by
      rw [run, cell]
      rfl
    have above : stopHoldParent (s.served d) = none := by
      unfold stopHoldParent
      rw [show (s.served d).find .stopHold .driver = none from alone]
    have checked : checkParent (s.served d) ((stopHoldParent (s.served d)).map some) = .ok (none, 1) := by
      rw [above]
      rfl
    rw [place, actPlace_new (s := s.served d) (v := v) permitted absent checked free]
    have fresh := doorPlacement_fresh (s := s.served d) lists none 1
    have made := createRecord_slot_alone (i := i) fresh rfl (s.served d)
    have table := createRecord_table i (newRecord (s.served d) (doorPlacement (s.served d) d kind v) none 1) (s.served d)
    refine ⟨_, _, rfl, congrArg SlotEntry.record made, rfl, rfl, newRecord_state (doorPlacement (s.served d) d kind v) _ _, rfl, table.dt, ?_,
      createRecord_envelopeLaw .., table.sp, table.mc, table.bc, table.js⟩
    unfold State.line
    rw [table.dl]
    exact served_line s d

end Sys2Proof.Machine
end

section
/-! PROOFS. The end of a group reset (R180): BRAKE, JOINT and SENSE, and DOORS with its modules (R155, R166); O15. -/

namespace Sys2Proof.Machine

variable {s t u : State} {c d : Corner} {b : Door} {e : Nat} {g : Group} {l : Line}

/-- The part as a group's count has reached 0, before the group takes up its work again. -/
def State.groupOver (s : State) (g : Group) (e : Nat) : State :=
  { s with now := max s.now e, hl := { s.hl with resets := s.hl.resets.set (Group.index g).val none } }

theorem exec_groupResetEnd (live : s.resetHeld = false) (runs : s.hl.resets[(Group.index g).val] = some e) :
    exec (.groupResetEnd g) s = .next (endReset g (s.groupOver g e)) := by
  have ends : groupEnd g s = endReset g (s.groupOver g e) := by
    unfold groupEnd
    rw [runs]
    rfl
  exact (running_next (f := groupEnd g) live).trans (congrArg _ ends)

theorem groupOver_inReset (s : State) (g : Group) (e : Nat) : (s.groupOver g e).inReset g = false := by
  unfold State.inReset State.groupOver
  simp

/-! ### DOORS (R155, R166) -/

/-- A line whose clock only its reset holds low is freed. -/
theorem tryFree_listening {now : Nat} (listens : l.activity = .listening) (past : l.minimumAt = none) :
    (l.tryFree now false).clockLow = false ∧ (l.tryFree now false).queue = l.queue ∧ (l.tryFree now false).door = l.door ∧
    (l.tryFree now false).present = l.present := by
  cases low : l.clockLow with
  | true =>
    have loose : l.causeHolds false = false := by
      unfold Line.causeHolds
      rw [listens]
      rfl
    rw [tryFree_free low loose fun m is => by cases past.symm.trans is]
    exact ⟨rfl, rfl, rfl, rfl⟩
  | false =>
    have still : l.tryFree now false = l := if_pos (by rw [low]; rfl)
    rw [still]
    exact ⟨low, rfl, rfl, rfl⟩

/-- A permission and QUERY_STATE come into an empty queue in that order (R146). -/
theorem queued_twice {p : Command} (empty : l.queue = []) (permission : p.class = .permission) :
    ((l.queued p).queued .queryState).queue = [p, .queryState] ∧ ((l.queued p).queued .queryState).clockLow = l.clockLow ∧
    ((l.queued p).queued .queryState).door = l.door ∧ ((l.queued p).queued .queryState).present = l.present := by
  rw [queued_frame, queued_frame p l, empty]
  refine ⟨?_, rfl, rfl, rfl⟩
  have other : p.class ≠ Command.queryState.class := by
    rw [permission]
    nofun
  exact if_neg other

theorem permissionFor_class (b : Door) (s : State) : (permissionFor s b).class = .permission := by
  unfold permissionFor
  split
  · rfl
  · rfl

/-- The part as its door clocks have been freed. -/
def State.unclocked (s : State) : State := { s with dl := { s.dl with lines := mapAll s.dl.lines fun _ l => l.tryFree s.now false } }

theorem unclocked_line (s : State) (b : Door) : s.unclocked.line b = (s.line b).tryFree s.now false := mapAll_get ..

/-- Every line's permission and QUERY_STATE are queued, and nothing else changes. -/
theorem restorePermissions_lines (live : s.inReset .doors = false) :
    (OnlyDoors s (forAll 4 restorePermission s) ∧ (forAll 4 restorePermission s).hl = s.hl ∧ (forAll 4 restorePermission s).dt = s.dt) ∧
    ∀ b, (forAll 4 restorePermission s).line b = ((s.line b).queued (permissionFor s b)).queued .queryState := by
  have step (a : Door) (x : State) (kept : OnlyDoors s x ∧ x.hl = s.hl ∧ x.dt = s.dt) :
      restorePermission a x = changeLine a (fun l => (l.queued (permissionFor s a)).queued .queryState) x := by
    have reset : x.inReset .doors = false := by
      unfold State.inReset
      rw [kept.2.1]
      exact live
    have permission : permissionFor x a = permissionFor s a := by
      unfold permissionFor State.isReleased
      rw [kept.2.2]
    rw [restorePermission_eq, if_neg (by rw [reset]; nofun), permission]
  refine forAll_own (n := 4) (f := restorePermission) (I := fun x => OnlyDoors s x ∧ x.hl = s.hl ∧ x.dt = s.dt) (Pre := fun b x => x.line b = s.line b)
    (Post := fun b x => x.line b = ((s.line b).queued (permissionFor s b)).queued .queryState)
    (fun a x kept => by rw [step a x kept]; exact kept) (fun a b x kept other pre => ?_) (fun a b x kept other post => ?_) (fun a x kept pre => ?_)
    ⟨⟨rfl, rfl, rfl, rfl, rfl, rfl, rfl, rfl, rfl, rfl, rfl⟩, rfl, rfl⟩ fun _ => rfl
  · rw [step a x kept, changeLine_line_ne x _ other, pre]
  · rw [step a x kept, changeLine_line_ne x _ other, post]
  · rw [step a x kept, changeLine_line_self, pre]

/-- The end of a DOORS reset where every line listens, with an empty queue. -/
theorem endDoorsReset_left (live : s.inReset .doors = false)
    (rest : ∀ b : Door, (s.line b).activity = .listening ∧ (s.line b).queue = [] ∧ (s.line b).minimumAt = none) :
    (OnlyDoors s (endDoorsReset s) ∧ (endDoorsReset s).hl = s.hl ∧ (endDoorsReset s).dt = s.dt) ∧
    ∀ b, ((endDoorsReset s).line b).clockLow = false ∧ ((endDoorsReset s).line b).queue = [if s.isReleased b then .permit else .withhold, .queryState] ∧
      ((endDoorsReset s).line b).door = (s.line b).door ∧ ((endDoorsReset s).line b).present = (s.line b).present := by
  have whole : endDoorsReset s = forAll 4 restorePermission s.unclocked := rfl
  obtain ⟨kept, lines⟩ := restorePermissions_lines (s := s.unclocked) live
  rw [whole]
  refine ⟨kept, fun b => ?_⟩
  obtain ⟨listens, empty, past⟩ := rest b
  obtain ⟨clock, queue, door, present⟩ := tryFree_listening (now := s.now) listens past
  rw [lines, unclocked_line]
  obtain ⟨queued, clock', door', present'⟩ := queued_twice (queue.trans empty) (permissionFor_class b s.unclocked)
  exact ⟨clock'.trans clock, queued, door'.trans door, present'.trans present⟩

end Sys2Proof.Machine
end

section
/-! PROOFS. The end of a LEVEL reset (R123): phases, sources and height records; O15. -/

namespace Sys2Proof.Machine

variable {s t u y : State} {c d : Corner} {x : SampleState}

/-! ### What the meeting of height records leaves of the corners -/

/-- A corner's place in its kneel and its source. -/
structure CornerRecord.SamePlace (r q : CornerRecord) : Prop where
  phase    : q.phase = r.phase
  offset   : q.offset = r.offset
  source   : q.source = r.source
  sourceAt : q.sourceAt = r.sourceAt
  revs     : q.revs = r.revs

/-- The context, the rising list, and every corner's place and source stand. -/
structure PlacesStand (s t : State) : Prop where
  context : t.lc.context = s.lc.context
  rising  : t.lc.rising = s.lc.rising
  corner  : ∀ d : Corner, (s.corner d).SamePlace (t.corner d)

theorem PlacesStand.refl (s : State) : PlacesStand s s := ⟨rfl, rfl, fun _ => ⟨rfl, rfl, rfl, rfl, rfl⟩⟩

theorem PlacesStand.trans (h : PlacesStand s t) (k : PlacesStand t u) : PlacesStand s u :=
  ⟨k.context.trans h.context, k.rising.trans h.rising, fun d =>
    ⟨(k.corner d).phase.trans (h.corner d).phase, (k.corner d).offset.trans (h.corner d).offset, (k.corner d).source.trans (h.corner d).source,
      (k.corner d).sourceAt.trans (h.corner d).sourceAt, (k.corner d).revs.trans (h.corner d).revs⟩⟩

theorem Commands.places {P : Corner → Prop} (h : Commands P s t) : PlacesStand s t :=
  ⟨by rw [h.lc], by rw [h.lc], fun d => by
    rw [h.corner]
    exact ⟨rfl, rfl, rfl, rfl, rfl⟩⟩

theorem changeCorner_places (c : Corner) {f : CornerRecord → CornerRecord} (same : ∀ r : CornerRecord, r.SamePlace (f r)) (s : State) :
    PlacesStand s (changeCorner c f s) := by
  refine ⟨rfl, rfl, fun d => ?_⟩
  by_cases here : c = d
  · subst here
    rw [changeCorner_corner_self]
    exact same _
  · rw [changeCorner_corner_ne _ _ here]
    exact ⟨rfl, rfl, rfl, rfl, rfl⟩

theorem freeze_places (c : Corner) (s : State) : PlacesStand s (freeze c s) := by
  have left : PlacesStand s (leaveWaiting c s) := (leaveWaiting_commands (fun _ => True) c s).places
  have dropped : PlacesStand (leaveWaiting c s) (s.emptied c) :=
    changeCorner_places c (f := fun r => { r with sum := 0, count := 0, last := none }) (fun _ => ⟨rfl, rfl, rfl, rfl, rfl⟩) _
  exact (left.trans dropped).trans (((stopLevel_commands (fun _ => True) c .first (s.emptied c)).places).trans
    (stopLevel_commands (fun _ => True) c .second (s.stilled c)).places)

theorem meetHeight_places (c : Corner) (x : SampleState) (s : State) : PlacesStand s (meetHeight c x s) := by
  have degraded : PlacesStand s (declareDegraded c s) :=
    (freeze_places c s).trans (changeCorner_places c (f := fun r => { r with check := .degraded, checkAt := none }) (fun _ => ⟨rfl, rfl, rfl, rfl, rfl⟩) _)
  have strobes : PlacesStand s (beginStrobe c s) :=
    (freeze_places c s).trans (changeCorner_places c (f := fun r => { r with check := .strobe, strobe := true, checkAt := some (s.now + strobePeriod) })
      (fun _ => ⟨rfl, rfl, rfl, rfl, rfl⟩) _)
  have recovers : PlacesStand s (recoverCorner c s) := (changeCorner_places c
    (f := fun r => { r with check := .normal, checkAt := none, recoveryAt := some (s.now + recoveryPeriod) }) (fun _ => ⟨rfl, rfl, rfl, rfl, rfl⟩) s).trans
      ⟨rfl, rfl, fun _ => ⟨rfl, rfl, rfl, rfl, rfl⟩⟩
  unfold meetHeight
  split
  · split
    · exact degraded
    · exact strobes
  · exact degraded
  · exact recovers
  · exact .refl s

/-! ### The other corners at the meeting of a height record -/

theorem emptied_other (other : c ≠ d) (s : State) : (s.emptied c).corner d = s.corner d := by
  rw [State.emptied, changeCorner_corner_ne _ _ other, leaveWaiting, changeCorner_corner_ne _ _ other]

/-- The freezing of a corner leaves another one's record, but for a grant it may come to. -/
theorem freeze_other (live : s.inReset .level = false) (other : c ≠ d) : (s.corner d).Stands ((freeze c s).corner d) ∧ s.Awaits (freeze c s) d := by
  have stands := (freeze_stands c s).corner d
  rw [emptied_other other] at stands
  have left : s.Awaits (s.emptied c) d := .inl ⟨by rw [emptied_other other], rfl, rfl⟩
  have first : (s.emptied c).Awaits (s.stilled c) d := stopLevel_awaits (s := s.emptied c) live (Ne.symm other) .first
  have second : (s.stilled c).Awaits (freeze c s) d := stopLevel_awaits (stilled_live live c) (Ne.symm other) .second
  exact ⟨stands, (left.trans first rfl).trans second (stopLevel_only c .first (s.emptied c)).now⟩

theorem changeCorner_other (other : c ≠ d) (f : CornerRecord → CornerRecord) (s : State) :
    (s.corner d).Stands ((changeCorner c f s).corner d) ∧ s.Awaits (changeCorner c f s) d := by
  have same : (changeCorner c f s).corner d = s.corner d := changeCorner_corner_ne _ _ other
  exact ⟨by rw [same]; exact .refl _, .inl ⟨by rw [same], rfl, rfl⟩⟩

theorem meetHeight_other (live : s.inReset .level = false) (other : c ≠ d) (x : SampleState) :
    (s.corner d).Stands ((meetHeight c x s).corner d) ∧ s.Awaits (meetHeight c x s) d := by
  have frozen (f : CornerRecord → CornerRecord) :
      (s.corner d).Stands ((changeCorner c f (freeze c s)).corner d) ∧ s.Awaits (changeCorner c f (freeze c s)) d := by
    obtain ⟨stands, awaits⟩ := freeze_other live other
    obtain ⟨stands', awaits'⟩ := changeCorner_other other f (freeze c s)
    exact ⟨stands.trans stands', awaits.trans awaits' (freeze_now c s)⟩
  unfold meetHeight
  split
  · split
    · exact frozen _
    · exact frozen _
  · exact frozen _
  · exact changeCorner_other other (fun r => { r with check := .normal, checkAt := none, recoveryAt := some (s.now + recoveryPeriod) }) s
  · exact ⟨.refl _, .refl s d⟩

theorem meetHeight_flagsStay (c : Corner) (x : SampleState) (s : State) : FlagsStay s (meetHeight c x s) := by
  unfold meetHeight
  split
  · split
    · exact (declareDegraded_only c s).flagsStay
    · exact (beginStrobe_only c s).flagsStay
  · exact (declareDegraded_only c s).flagsStay
  · exact (changeCorner_only c (fun r => { r with check := .normal, checkAt := none, recoveryAt := some (s.now + recoveryPeriod) }) s).flagsStay.trans
      (setFlag_flagsStay .sensor _)
  · exact .refl s

/-! ### Every height record is met (R123) -/

/-- The meeting of the height records, one corner after another. -/
def State.heightsMet (s : State) : State := forAll 6 (fun c s => meetHeight c (s.heightRecord c) s) s

/-- What the meeting of height records leaves of the blocks. -/
structure MetKept (s t : State) : Prop where
  table   : TableOnly s t
  records : RecordsKept s t
  places  : PlacesStand s t
  flags   : FlagsStay s t

theorem meetHeight_kept (c : Corner) (x : SampleState) (s : State) : MetKept s (meetHeight c x s) :=
  ⟨meetHeight_table .., meetHeight_recordsKept .., meetHeight_places .., meetHeight_flagsStay ..⟩

/-- Each corner meets its height record, as in a state in which it is still to meet it. -/
theorem heightsMet_met (live : y.inReset .level = false) (same : ∀ c, SameCheck c s y) (out : s.FillLaw → ∀ c, (y.corner c).waiting = none) :
    MetKept y y.heightsMet ∧ ∀ c, s.HeightMet y.heightsMet c (y.heightRecord c) := by
  have record (z : State) (kept : MetKept y z) (c : Corner) : z.heightRecord c = y.heightRecord c := by
    unfold State.heightRecord
    rw [kept.table.sp]
  have reset (z : State) (kept : MetKept y z) : z.inReset .level = false := (kept.table.inReset .level).trans live
  unfold State.heightsMet
  refine forAll_own (I := MetKept y) (Pre := fun c z => SameCheck c s z ∧ (s.FillLaw → (z.corner c).waiting = none))
    (Post := fun c z => s.HeightMet z c (y.heightRecord c)) (fun c z kept => ?_) (fun c d z kept other ⟨pre, out⟩ => ?_) (fun c d z kept other met => ?_)
    (fun c z kept ⟨pre, _⟩ => ?_) ⟨.refl y, .refl y, .refl y, .refl y⟩ fun c => ⟨same c, fun law => out law c⟩
  · have more := meetHeight_kept c (z.heightRecord c) z
    exact ⟨kept.table.trans more.table, kept.records.trans more.records, kept.places.trans more.places, kept.flags.trans more.flags⟩
  · obtain ⟨stands, awaits⟩ := meetHeight_other (reset z kept) other (z.heightRecord c)
    have corner := stands.eq
    refine ⟨⟨?_, ?_, ?_, ?_, fun law granted => ?_⟩, fun law => ?_⟩
    · rw [corner]
      exact pre.check
    · rw [corner]
      exact pre.strobe
    · rw [corner]
      exact pre.checkAt
    · rw [corner]
      exact pre.recoveryAt
    · obtain ⟨-, granted', level⟩ := awaits.kept (out law)
      rw [level]
      exact pre.completes law (granted'.symm.trans granted)
    · exact (awaits.kept (out law)).1.trans (out law)
  · obtain ⟨stands, awaits⟩ := meetHeight_other (reset z kept) other (z.heightRecord c)
    refine met.carry (reset z kept) stands (fun v g ⟨live, check, out, level, granted⟩ => ?_) (meetHeight_table ..).now (meetHeight_flagsStay ..)
    obtain ⟨out', granted', level'⟩ := awaits.kept out
    refine ⟨((meetHeight_table ..).inReset .level).trans live, ?_, out'.trans out, level'.trans level, granted'.trans granted⟩
    rw [stands.eq]
    exact check
  · rw [record z kept c]
    exact meetHeight_met pre (reset z kept) _

end Sys2Proof.Machine
end

section
/-! PROOFS. The offsets held under the forming of the envelope (R39, R108), and the reports of the rising list (R116); O15. -/

namespace Sys2Proof.Machine

variable {s t u y : State} {c d : Corner} {i : Slot} {r : Record} {h : Handle} {e : RisingEntry} {es : List RisingEntry}

/-! ### The offsets held (R39, R108) -/

/-- Every corner holds its offset of the envelope, and no LEVEL reset lasts. -/
def State.OffsetsHeld (s : State) : Prop := s.inReset .level = false ∧ ∀ c : Corner, (s.corner c).offset = s.eu.env.offsets[c.val]

theorem dropHalt_corner (was : Bool) (s : State) (d : Corner) : (dropHalt was s).corner d = s.corner d := by
  unfold dropHalt
  split
  · rfl
  · rfl

theorem offsetEvent_offset (live : s.inReset .level = false) (c d : Corner) (x : Int) :
    ((offsetEvent c x s).corner d).offset = if c = d then x else (s.corner d).offset := by
  have works : offsetEvent c x s = commandFromLast c (dropHalt s.anyHalted
      (changeCorner c (fun r => { r with offset := x, phase := r.phase.afterOffset x }) s)) := if_neg (by rw [live]; nofun)
  rw [works, (commandFromLast_commands c _).corner d, dropHalt_corner]
  split
  · next here =>
    subst here
    rw [changeCorner_corner_self]
  · next other => rw [changeCorner_corner_ne _ _ other]

theorem formEnvelope_offsetsHeld (held : s.OffsetsHeld) : (formEnvelope s).OffsetsHeld := by
  obtain ⟨live, current⟩ := held
  have eu : s.enveloped.eu.env.offsets = (envelopeOf s.rt.slots).offsets := by
    unfold State.enveloped
    split
    · rfl
    · rfl
  have only : LevelOnly s.enveloped (formEnvelope s) := forAll_rel LevelOnly .refl .trans _ (fun c x => by
    unfold sendOffset
    split
    · exact .refl x
    · exact offsetEvent_only ..) _
  have live' : s.enveloped.inReset .level = false := by
    rw [enveloped_eq]
    exact live
  have start (c : Corner) : (s.enveloped.corner c).offset = s.eu.env.offsets[c.val] := by
    rw [enveloped_eq]
    exact current c
  refine ⟨(only.inReset .level).trans live', fun c => ?_⟩
  rw [only.eu, eu, formEnvelope_eq]
  refine (forAll_own (I := fun y : State => y.inReset .level = false) (Pre := fun c y => (y.corner c).offset = s.eu.env.offsets[c.val])
    (Post := fun c y => (y.corner c).offset = (envelopeOf s.rt.slots).offsets[c.val]) (fun c y live => ?_) (fun c d y live other pre => ?_)
    (fun c d y live other post => ?_) (fun c y live pre => ?_) live' start).2 c
  all_goals unfold sendOffset
  · split
    · exact live
    · exact ((offsetEvent_only ..).inReset .level).trans live
  · split
    · exact pre
    · rw [offsetEvent_offset live, if_neg other, pre]
  · split
    · exact post
    · rw [offsetEvent_offset live, if_neg other, post]
  · split
    · next same => exact pre.trans same
    · rw [offsetEvent_offset live, if_pos rfl]

theorem offsetsHeld_frame : TableFrame fun s t => s.OffsetsHeld → t.OffsetsHeld where
  refl _ := id
  trans h k := k ∘ h
  records _ _ := id
  form _ := formEnvelope_offsetsHeld
  rising _ _ := id
  flag _ := id
  service _ := id
  degraded _ _ := id
  doors s := fun held => by
    rw [emptyReleaseSet, setReleaseSet_eq]
    exact held

/-! ### Reports (R116) -/

/-- From `s` to `t` the entries `es` have been reported risen, and their records go on. -/
structure ReportsOnly (es : List RisingEntry) (s t : State) : Prop where
  eu      : t.eu = s.eu
  count   : t.rt.changeCount = s.rt.changeCount
  corners : t.lc.corners = s.lc.corners
  rising  : t.lc.rising = s.lc.rising.filter fun x => x.handle ∉ es.map (·.handle)
  gen     : ∀ i : Slot, t.rt.slots[i.val].gen = s.rt.slots[i.val].gen
  record  : ∀ i : Slot, t.recordAt i = (s.recordAt i).map fun r => if s.handleAt i ∈ es.map (·.handle) then { r with risen := true } else r

theorem ReportsOnly.refl (s : State) : ReportsOnly [] s s := by
  refine ⟨rfl, rfl, rfl, ?_, fun _ => rfl, fun i => ?_⟩
  · simp
  · simp

theorem ReportsOnly.handleAt (k : ReportsOnly es s t) (i : Slot) : t.handleAt i = s.handleAt i := by
  unfold State.handleAt
  rw [k.gen]

theorem ReportsOnly.cons (k : ReportsOnly [e] s u) (l : ReportsOnly es u t) : ReportsOnly (e :: es) s t := by
  refine ⟨l.eu.trans k.eu, l.count.trans k.count, l.corners.trans k.corners, ?_, fun i => (l.gen i).trans (k.gen i), fun i => ?_⟩
  · rw [l.rising, k.rising, List.filter_filter]
    refine List.filter_congr fun x _ => ?_
    rw [Bool.eq_iff_iff, Bool.and_eq_true]
    simp only [decide_eq_true_eq, List.map_cons, List.map_nil, List.mem_cons, List.not_mem_nil, or_false, not_or]
    exact and_comm
  · rw [l.record, k.record, k.handleAt, Option.map_map]
    refine congrArg (Option.map · (s.recordAt i)) (funext fun r => ?_)
    by_cases first : s.handleAt i = e.handle
    · simp [first]
    · simp [first]

/-- An entry of the rising list whose record is to go on when it is reported. -/
def State.MayRise (s : State) (e : RisingEntry) : Prop :=
  ∃ r, s.names e.handle = true ∧ s.recordAt e.handle.slot = some r ∧ r.state = .releasing ∧ r.Runs

theorem State.MayRise.carry (may : s.MayRise e) (k : ReportsOnly es s t) : t.MayRise e := by
  obtain ⟨r, names, stands, releasing, runs⟩ := may
  have record := k.record e.handle.slot
  rw [stands] at record
  refine ⟨_, names_iff.mpr ⟨(k.handleAt _).trans (names_handle names), by rw [record]; nofun⟩, record, ?_⟩
  split
  · exact ⟨releasing, runs⟩
  · exact ⟨releasing, runs⟩

/-- A complete entry is reported, and its record, which has more to run, is marked risen. -/
theorem reportRisen_reports (listed : e ∈ s.lc.rising) (level : allLevel s e.scope = true) (may : s.MayRise e) : ReportsOnly [e] s (reportRisen e s) := by
  obtain ⟨r, names, stands, releasing, runs⟩ := may
  have marks : ChangesOnly e.handle.slot { r with risen := true } (leaveRising e.handle s) (markRisen e.handle.slot (leaveRising e.handle s)) :=
    changeRecord_changes (s := leaveRising e.handle s) stands fun q => { q with risen := true }
  have reported : reportRisen e s = markRisen e.handle.slot (leaveRising e.handle s) := by
    unfold reportRisen
    rw [if_pos (by simp [listed, level])]
    exact riseRecord_stays (s := leaveRising e.handle s) names stands releasing runs
  rw [reported]
  have slot (i : Slot) := marks.slot i
  refine ⟨rfl, marks.2, rfl, ?_, fun i => ?_, fun i => ?_⟩
  · change s.lc.rising.filter (fun x => x.handle != e.handle) = _
    refine List.filter_congr fun x _ => ?_
    rw [Bool.eq_iff_iff]
    simp
  · rw [slot]
    split
    · next here =>
      subst here
      rfl
    · rfl
  · refine (congrArg SlotEntry.record (slot i)).trans ?_
    by_cases here : e.handle.slot = i
    · subst here
      rw [if_pos rfl, stands, names_handle names]
      simp
    · rw [if_neg here]
      have other : s.handleAt i ≠ e.handle := fun same => here (congrArg Handle.slot same).symm
      simp [other, leaveRising, State.recordAt]

theorem reportRisen_passes (lies : allLevel s e.scope = false) : reportRisen e s = s := by
  unfold reportRisen
  exact if_neg (by simp [lies])

theorem allLevel_congr (corners : t.lc.corners = s.lc.corners) (x : Scope) : allLevel t x = allLevel s x := by
  unfold allLevel State.corner
  rw [corners]

/-- The complete entries of a list, each under a handle of its own, are reported. -/
theorem foldl_reportRisen (es : List RisingEntry) (s : State) (distinct : (es.map (·.handle)).Nodup) (listed : ∀ x ∈ es, x ∈ s.lc.rising)
    (may : ∀ x ∈ es, allLevel s x.scope = true → s.MayRise x) :
    ReportsOnly (es.filter fun x => allLevel s x.scope) s (es.foldl (fun s e => reportRisen e s) s) := by
  induction es generalizing s with
  | nil => exact .refl s
  | cons e es ih =>
    obtain ⟨fresh, distinct⟩ := List.nodup_cons.mp distinct
    have here := listed e List.mem_cons_self
    have later (x : RisingEntry) (member : x ∈ es) := listed x (List.mem_cons_of_mem e member)
    have may' (x : RisingEntry) (member : x ∈ es) := may x (List.mem_cons_of_mem e member)
    rw [List.foldl_cons]
    by_cases level : allLevel s e.scope = true
    · have one := reportRisen_reports here level (may e List.mem_cons_self level)
      have same (x : Scope) : allLevel (reportRisen e s) x = allLevel s x := allLevel_congr one.corners x
      have rest := ih (reportRisen e s) distinct (fun x member => ?_) fun x member up => (may' x member ((same _).symm.trans up)).carry one
      · simp only [same] at rest
        rw [List.filter_cons_of_pos (p := fun x : RisingEntry => allLevel s x.scope) level]
        exact one.cons rest
      · rw [one.rising, List.mem_filter]
        refine ⟨later x member, ?_⟩
        have other : x.handle ≠ e.handle := fun same => fresh (List.mem_map.mpr ⟨x, member, same⟩)
        simpa using other
    · have lies : allLevel s e.scope = false := Bool.eq_false_iff.mpr level
      rw [reportRisen_passes lies, List.filter_cons_of_neg (p := fun x : RisingEntry => allLevel s x.scope) level]
      exact ih s distinct later may'

/-- R116: the controller reports every complete entry of its list. -/
theorem lookRisen_reports (live : s.inReset .level = false) (distinct : (s.lc.rising.map (·.handle)).Nodup)
    (may : ∀ x ∈ s.lc.rising, allLevel s x.scope = true → s.MayRise x) :
    ReportsOnly (s.lc.rising.filter fun x => allLevel s x.scope) s (lookRisen s) := by
  have looks : lookRisen s = s.lc.rising.foldl (fun s e => reportRisen e s) s := if_neg (by rw [live]; nofun)
  rw [looks]
  exact foldl_reportRisen _ s distinct (fun _ => id) may

/-- R17, R116: the report of the one entry of the list retires a record that has nothing left to run. -/
theorem lookRisen_frees (live : s.inReset .level = false) (one : s.lc.rising = [e]) (level : allLevel s e.scope = true) (names : s.names e.handle = true)
    (stands : s.recordAt e.handle.slot = some r) (releasing : r.state = .releasing) (step : r.releaseLeft = 0)
    (dist : r.distLeft = 0 ∨ r.steer = none) (parent : r.parent = none) (none' : s.Unlisted) :
    (lookRisen s).lc.rising = [] ∧ FreesOnly e.handle.slot s (lookRisen s) ∧ (lookRisen s).flag .record = true ∧
    (s.EnvelopeLaw → (lookRisen s).lc.corners = s.lc.corners) := by
  have looks : lookRisen s = riseRecord e.handle (leaveRising e.handle s) := by
    unfold lookRisen
    rw [if_neg (by rw [live]; nofun), one, List.foldl_cons, List.foldl_nil]
    unfold reportRisen
    rw [if_pos (by simp [one, level])]
  have left : (leaveRising e.handle s).lc.rising = [] := by
    change s.lc.rising.filter (fun x => x.handle != e.handle) = []
    rw [one]
    simp
  obtain ⟨frees, flag, rising, lc⟩ := riseRecord_frees (s := leaveRising e.handle s) names stands releasing step dist parent none'
  rw [looks]
  refine ⟨?_, frees, flag, fun law => ?_⟩
  · rw [rising, left]
    rfl
  · rw [lc law]
    rfl

end Sys2Proof.Machine
end

section
/-! PROOFS. The end of a LEVEL reset with its reports (R116, R123), and the end of every group's reset; O15. -/

namespace Sys2Proof.Machine

variable {s t : State} {c : Corner} {e : Nat} {g : Group}

theorem period_map (now : Nat) (x : Source) : x.period.map (now + ·) =
    (match x with | .timer50 => some (now + 50 * ms) | .timer1000 => some (now + 1000 * ms) | .axleRev16 | .none => none) := by
  cases x <;> rfl

/-- The part as the corners have taken their phases, offsets and sources anew (R123). -/
def State.relevelled (s : State) : State :=
  { s with lc := { s.lc with
    context := s.formedContext
    corners := mapAll (mapAll s.lc.corners (recomputePhase s.eu.env.offsets)) fun c r => r.taking s.now (sourceFor s c s.formedContext) } }

theorem relevelled_corner (s : State) (c : Corner) :
    s.relevelled.corner c = (recomputePhase s.eu.env.offsets c (s.corner c)).taking s.now (sourceFor s c s.formedContext) := by
  unfold State.relevelled State.corner
  rw [mapAll_get, mapAll_get]

theorem endLevelReset_eq (s : State) : endLevelReset s = lookRisen (watchDegraded s.relevelled.heightsMet) := by
  have sources : forAll 6 (fun c s => takeSource c (sourceFor s c s.lc.context) s)
      { s with lc := { s.lc with corners := mapAll s.lc.corners (recomputePhase s.eu.env.offsets), context := contextNow s } } = s.relevelled := by
    rw [contextNow_eq]
    refine forAll_put (fun v => { s with lc := { s.lc with corners := v, context := s.formedContext } })
      (fun c r => r.taking s.now (sourceFor s c s.formedContext)) (fun c v => ?_) _
    unfold takeSource changeCorner CornerRecord.taking
    simp only [period_map]
    rfl
  unfold endLevelReset
  dsimp only
  rw [sources]
  rfl

/-! ### The end of a LEVEL reset -/

/-- In a LEVEL reset that meets the fill law no corner waits (R110, R122). -/
theorem fillLaw_reset (law : s.FillLaw) (live : s.resetHeld = false) (held : s.inReset .level = true) (c : Corner) : (s.corner c).waiting = none :=
  (((fillLaw_iff.mp law live).stands held).2 c).1

/-- The corners as the sources have been started and the height records are still to be met. -/
theorem relevelled_same (live : s.resetHeld = false) (c : Corner) : SameCheck c s (s.groupOver .level e).relevelled := by
  have corner := relevelled_corner (s.groupOver .level e) c
  refine ⟨?_, ?_, ?_, ?_, fun law granted => law.completes live granted⟩
  all_goals
    rw [corner]
    rfl

/-- What the meeting of the height records comes to at the end of a LEVEL reset (R123). -/
theorem relevelled_met (live : s.resetHeld = false) (held : s.inReset .level = true) :
    MetKept (s.groupOver .level e).relevelled (s.groupOver .level e).relevelled.heightsMet ∧
    ∀ c, s.HeightMet (s.groupOver .level e).relevelled.heightsMet c (s.heightRecord c) := by
  refine heightsMet_met (y := (s.groupOver .level e).relevelled) (groupOver_inReset s .level e) (relevelled_same live) fun law c => ?_
  rw [relevelled_corner]
  exact fillLaw_reset law live held c

/-- The part as a LEVEL reset has ended, before PLAUS and the reports. -/
def State.levelled (s : State) (e : Nat) : State := (s.groupOver .level e).relevelled.heightsMet

theorem levelled_met (live : s.resetHeld = false) (held : s.inReset .level = true) :
    MetKept (s.groupOver .level e).relevelled (s.levelled e) ∧ ∀ c, s.HeightMet (s.levelled e) c (s.heightRecord c) := relevelled_met live held

theorem levelled_reset (live : s.resetHeld = false) (held : s.inReset .level = true) : (s.levelled e).inReset .level = false :=
  ((levelled_met live held).1.table.inReset .level).trans (groupOver_inReset s .level e)

/-- The records, the envelope, the rising list and what PLAUS looks at as a LEVEL reset has ended. -/
theorem levelled_blocks (live : s.resetHeld = false) (held : s.inReset .level = true) :
    (s.levelled e).rt = s.rt ∧ (s.levelled e).eu = s.eu ∧ (s.levelled e).lc.rising = s.lc.rising ∧ (s.levelled e).sp = s.sp ∧ (s.levelled e).mc = s.mc ∧
    (s.levelled e).degraded = s.degraded ∧ (s.levelled e).hl.configured = s.hl.configured := by
  obtain ⟨table, records, places, -⟩ := (levelled_met (e := e) live held).1
  exact ⟨records.rt, records.eu, places.rising, table.sp, table.mc, table.degraded, records.configured⟩

/-- The place and the source of a corner as a LEVEL reset has ended. -/
theorem levelled_kept (live : s.resetHeld = false) (held : s.inReset .level = true) (c : Corner) :
    ((s.levelled e).corner c).source = sourceFor s c s.formedContext ∧ ((s.levelled e).corner c).revs = 0 ∧
    ((s.levelled e).corner c).sourceAt = (match sourceFor s c s.formedContext with
      | .timer50 => some (max s.now e + 50 * ms) | .timer1000 => some (max s.now e + 1000 * ms) | .axleRev16 | .none => none) ∧
    ((s.levelled e).corner c).offset = s.eu.env.offsets[c.val] ∧
    ((s.levelled e).corner c).phase = if s.eu.env.offsets[c.val] = 0 then .level else .lowering := by
  obtain ⟨-, -, places, -⟩ := (levelled_met (e := e) live held).1
  obtain ⟨phase, offset, source, sourceAt, revs⟩ := places.corner c
  rw [relevelled_corner] at phase offset source sourceAt revs
  exact ⟨source, revs, sourceAt, offset, phase⟩

/-- The blocks, the context and the corners at the end of a LEVEL reset (R123). -/
theorem endLevel_left (live : s.resetHeld = false) (held : s.inReset .level = true) {t : State} (is : t = lookRisen (watchDegraded (s.levelled e))) :
    t.now = max s.now e ∧ t.inReset .level = false ∧ (t.sp = s.sp ∧ t.mc = s.mc ∧ t.bc = s.bc ∧ t.js = s.js ∧ t.dl = s.dl ∧ t.dt = s.dt) ∧
    t.lc.context = s.formedContext ∧
    ∀ c, (t.corner c).source = sourceFor s c s.formedContext ∧ (t.corner c).revs = 0 ∧
      (t.corner c).sourceAt = (match sourceFor s c s.formedContext with
        | .timer50 => some (max s.now e + 50 * ms) | .timer1000 => some (max s.now e + 1000 * ms) | .axleRev16 | .none => none) ∧
      (t.corner c).offset = t.eu.env.offsets[c.val] ∧ s.HeightMet t c (s.heightRecord c) := by
  obtain ⟨kept, met⟩ := levelled_met (e := e) live held
  have places := levelled_kept (e := e) live held
  have table := kept.table
  have reset := levelled_reset (e := e) live held
  obtain ⟨-, eu, -⟩ := levelled_blocks (e := e) live held
  have current : (s.levelled e).OffsetsHeld := ⟨reset, fun c => by
    obtain ⟨-, -, -, offset, -⟩ := places c
    rw [offset, eu]⟩
  have context : (s.levelled e).lc.context = s.formedContext := kept.places.context
  have now : (s.levelled e).now = max s.now e := table.now
  have blocks : (s.levelled e).sp = s.sp ∧ (s.levelled e).mc = s.mc ∧ (s.levelled e).bc = s.bc ∧ (s.levelled e).js = s.js ∧ (s.levelled e).dl = s.dl ∧
      (s.levelled e).dt = s.dt := ⟨table.sp, table.mc, table.bc, table.js, table.dl, table.dt⟩
  generalize s.levelled e = z at *
  have sense := watchDegraded_sense z
  have looks := lookRisen_table (watchDegraded z)
  rw [← is] at looks
  have stands : CornersStand z t := is ▸ (cornersStand_frame.watchDegraded z).trans (cornersStand_frame.lookRisen _)
  have held' : t.OffsetsHeld := is ▸ offsetsHeld_frame.lookRisen _ (offsetsHeld_frame.watchDegraded z current)
  have flags : FlagsStay z t := is ▸ (watchDegraded_flagsStay z).trans (recordFlag_frame.lookRisen _).toFlagsStay
  have spared (c : Corner) (v : Pair) (g : Bool) (h : z.Spared c v g) : t.Spared c v g :=
    is ▸ (spared_frame c v g).lookRisen _ ((spared_frame c v g).watchDegraded z h)
  obtain ⟨sp, mc, bc, js, dl, dt⟩ := blocks
  refine ⟨(looks.now.trans sense.now).trans now, held'.1, ⟨(looks.sp.trans (watchDegraded_sp z)).trans sp, (looks.mc.trans sense.mc).trans mc,
    (looks.bc.trans sense.bc).trans bc, (looks.js.trans sense.js).trans js, (looks.dl.trans sense.dl).trans dl, (looks.dt.trans sense.dt).trans dt⟩,
    stands.context.trans context, fun c => ?_⟩
  obtain ⟨source, revs, sourceAt, -, -⟩ := places c
  have corner := (stands.corner c).eq
  refine ⟨?_, ?_, ?_, held'.2 c, (met c).carry reset (stands.corner c) (spared c) (looks.now.trans sense.now) flags⟩
  · rw [corner]
    exact source
  · rw [corner]
    exact revs
  · rw [corner]
    exact sourceAt

/-! ### The reports at the end of a LEVEL reset (R116, R123) -/

/-- PLAUS has nothing to act on at the end of a LEVEL reset: before CONFIG_DONE, or at a set that the height records leave as it is. -/
def State.Unwatched (s : State) : Prop :=
  s.hl.configured = false ∨ (s.PlausCurrent ∧ ∀ c : Corner,
    checkAfter (s.corner c).check (s.corner c).recoveryAt.isSome (s.heightRecord c) = (s.corner c).check)

theorem watchDegraded_levelled (live : s.resetHeld = false) (held : s.inReset .level = true) (quiet : s.Unwatched) :
    watchDegraded (s.levelled e) = s.levelled e := by
  obtain ⟨-, -, -, sp, mc, degraded, configured⟩ := levelled_blocks (e := e) live held
  obtain ⟨-, met⟩ := levelled_met (e := e) live held
  rcases quiet with off | ⟨current, still⟩
  · exact watchDegraded_off (configured.trans off)
  · have set : degradedNow (s.levelled e) = degradedNow s :=
      degradedNow_congr (fun ch => congrArg (fun x : SensePort => (x.samples[ch.val]).state) sp)
        (congrArg (fun x : MotionCounters => x.joint.usable) mc) (congrArg (fun x : MotionCounters => x.actuator.usable) mc)
        fun c => (met c).1.trans (still c)
    refine watchDegraded_still ?_
    rw [set, degraded]
    exact plausCurrent_iff.mp current

/-- The entries of the rising list whose corners the envelope leaves at the ride height (R116, R123). -/
def State.toReport (s : State) (low : Corner → Bool) : List RisingEntry :=
  s.lc.rising.filter fun entry => (List.finRange 6).all fun c => !entry.scope.has c || !low c

section Reports

variable {low : Corner → Bool}

theorem levelled_phase (live : s.resetHeld = false) (held : s.inReset .level = true) (reads : ∀ c, low c = true ↔ s.eu.env.offsets[c.val] ≠ 0) (c : Corner) :
    ((s.levelled e).corner c).phase = if low c then .lowering else .level := by
  rw [(levelled_kept live held c).2.2.2.2]
  by_cases level : s.eu.env.offsets[c.val] = 0
  · have up : ¬ low c = true := fun down => (reads c).mp down level
    rw [if_pos level, if_neg up]
  · rw [if_neg level, if_pos ((reads c).mpr level)]

theorem levelled_allLevel (live : s.resetHeld = false) (held : s.inReset .level = true) (reads : ∀ c, low c = true ↔ s.eu.env.offsets[c.val] ≠ 0) (x : Scope) :
    allLevel (s.levelled e) x = (List.finRange 6).all fun c => !x.has c || !low c := by
  unfold allLevel
  refine congrArg _ (funext fun c => ?_)
  rw [levelled_phase live held reads c]
  cases low c <;> rfl

theorem levelled_reports (live : s.resetHeld = false) (held : s.inReset .level = true) (reads : ∀ c, low c = true ↔ s.eu.env.offsets[c.val] ≠ 0) :
    ((s.levelled e).lc.rising.filter fun x => allLevel (s.levelled e) x.scope) = s.toReport low := by
  obtain ⟨-, -, rising, -⟩ := levelled_blocks (e := e) live held
  rw [rising]
  exact List.filter_congr fun x _ => levelled_allLevel live held reads x.scope

/-- The complete entries are reported, and their records, which have more to run, are marked risen. -/
theorem endLevel_reports (live : s.resetHeld = false) (held : s.inReset .level = true) (quiet : s.Unwatched)
    (reads : ∀ c, low c = true ↔ s.eu.env.offsets[c.val] ≠ 0) (distinct : (s.lc.rising.map (·.handle)).Nodup)
    (may : ∀ entry ∈ s.toReport low, ∃ r, s.names entry.handle = true ∧ s.recordAt entry.handle.slot = some r ∧ r.state = .releasing ∧ r.Runs)
    {t : State} (is : t = lookRisen (watchDegraded (s.levelled e))) :
    t.eu = s.eu ∧ t.rt.changeCount = s.rt.changeCount ∧ t.lc.rising = s.lc.rising.filter (fun entry => entry ∉ s.toReport low) ∧
    (∀ c, (t.corner c).phase = if low c then .lowering else .level) ∧
    (∀ i : Slot, t.rt.slots[i.val].gen = s.rt.slots[i.val].gen ∧ t.recordAt i = (s.recordAt i).map fun r =>
      if ∃ entry ∈ s.toReport low, entry.handle = s.handleAt i then { r with risen := true } else r) := by
  obtain ⟨rt, eu, rising, -⟩ := levelled_blocks (e := e) live held
  have reset := levelled_reset (e := e) live held
  have phase := levelled_phase (e := e) live held reads
  have all := levelled_reports (e := e) live held reads
  rw [watchDegraded_levelled live held quiet] at is
  generalize s.levelled e = z at *
  have reports : ReportsOnly (s.toReport low) z t := by
    rw [is, ← all]
    refine lookRisen_reports reset (rising ▸ distinct) fun x member level => ?_
    have listed : x ∈ s.toReport low := all ▸ List.mem_filter.mpr ⟨member, level⟩
    obtain ⟨r, names, stands, more⟩ := may x listed
    refine ⟨r, ?_, ?_, more⟩
    · rw [State.names, rt]
      exact names
    · rw [State.recordAt, rt]
      exact stands
  refine ⟨reports.eu.trans eu, reports.count.trans (congrArg _ rt), ?_, fun c => ?_, fun i => ⟨(reports.gen i).trans (by rw [rt]), ?_⟩⟩
  · rw [reports.rising, rising]
    refine List.filter_congr fun x member => decide_eq_decide.mpr (not_congr ⟨fun named => ?_, List.mem_map_of_mem⟩)
    obtain ⟨y, listed, same⟩ := List.mem_map.mp named
    have one : y = x := List.inj_on_of_nodup_map distinct (List.mem_of_mem_filter listed) member same
    exact one ▸ listed
  · rw [← phase c, State.corner, reports.corners]
    rfl
  · have handle : z.handleAt i = s.handleAt i := by rw [State.handleAt, rt]; rfl
    have record : z.recordAt i = s.recordAt i := by rw [State.recordAt, rt]; rfl
    rw [reports.record, handle, record]
    simp only [List.mem_map]

/-- The one entry of the list is reported, and its record, which has nothing left to run, retires. -/
theorem endLevel_frees (live : s.resetHeld = false) (held : s.inReset .level = true) (quiet : s.Unwatched)
    (reads : ∀ c, low c = true ↔ s.eu.env.offsets[c.val] ≠ 0) {entry : RisingEntry} {r : Record} (one : s.lc.rising = [entry])
    (risen : s.toReport low = [entry]) (names : s.names entry.handle = true) (stands : s.recordAt entry.handle.slot = some r)
    (releasing : r.state = .releasing) (step : r.releaseLeft = 0) (dist : r.distLeft = 0 ∨ r.steer = none) (parent : r.parent = none)
    (none' : s.Unlisted) {t : State} (is : t = lookRisen (watchDegraded (s.levelled e))) :
    t.lc.rising = [] ∧ FreesOnly entry.handle.slot s t ∧ t.flag .record = true ∧
      (s.EnvelopeLaw → ∀ c, (t.corner c).phase = if low c then .lowering else .level) := by
  obtain ⟨rt, eu, rising, -⟩ := levelled_blocks (e := e) live held
  have reset := levelled_reset (e := e) live held
  have phase := levelled_phase (e := e) live held reads
  have all := levelled_reports (e := e) live held reads
  rw [watchDegraded_levelled live held quiet] at is
  generalize s.levelled e = z at *
  have level : allLevel z entry.scope = true := by
    have member : entry ∈ z.lc.rising.filter fun x => allLevel z x.scope := by rw [all, risen]; exact List.mem_singleton_self entry
    exact (List.mem_filter.mp member).2
  have record (i : Slot) : z.recordAt i = s.recordAt i := by rw [State.recordAt, rt]; rfl
  have names' : z.names entry.handle = true := by rw [State.names, rt]; exact names
  obtain ⟨empty, frees, flag, corners⟩ := lookRisen_frees reset (rising.trans one) level names' ((record _).trans stands) releasing step dist parent
    fun j q at_j => none' j q ((record j).symm.trans at_j)
  rw [← is] at empty frees flag corners
  refine ⟨empty, ?_, flag, fun law c => ?_⟩
  · unfold FreesOnly at frees ⊢
    rw [rt] at frees
    exact frees
  · have law' : z.EnvelopeLaw := by
      unfold State.EnvelopeLaw
      rw [eu, rt]
      exact law
    rw [← phase c, State.corner, corners law']
    rfl

end Reports

/-- Settles O15: what the end of each group's reset does (R123, R155, R180). -/
theorem groupResetEnds : Obligations.GroupResetEnds := by
  intro s e live
  refine ⟨fun g quiet runs => ?_, fun runs rest => ?_, fun x context runs => ?_⟩
  · rw [exec_groupResetEnd live runs]
    rcases quiet with rfl | rfl | rfl
    · rfl
    · rfl
    · rfl
  · obtain ⟨⟨only, hl, dt⟩, lines⟩ := endDoorsReset_left (s := s.groupOver .doors e) (groupOver_inReset s .doors e) rest
    have reset : (endDoorsReset (s.groupOver .doors e)).inReset .doors = false := by
      unfold State.inReset
      rw [hl]
      exact groupOver_inReset s .doors e
    exact ⟨_, exec_groupResetEnd (g := .doors) live runs, reset, only, lines, dt⟩
  · subst context
    have held : s.inReset .level = true := by
      unfold State.inReset
      exact (congrArg Option.isSome runs :)
    have ends : exec (.groupResetEnd .level) s = .next (lookRisen (watchDegraded (s.levelled e))) :=
      (exec_groupResetEnd (g := .level) live runs).trans (congrArg _ (endLevelReset_eq _))
    obtain ⟨now, reset, ⟨sp, mc, bc, js, dl, dt⟩, context, corners⟩ := endLevel_left (e := e) live held rfl
    have reports (quiet : s.Unwatched) {low : Corner → Bool} (reads : ∀ c, low c = true ↔ s.eu.env.offsets[c.val] ≠ 0)
        (distinct : (s.lc.rising.map (·.handle)).Nodup)
        (may : ∀ entry ∈ s.toReport low, ∃ r, s.names entry.handle = true ∧ s.recordAt entry.handle.slot = some r ∧ r.state = .releasing ∧ r.Runs) :=
      endLevel_reports (e := e) live held quiet reads distinct may rfl
    have frees (quiet : s.Unwatched) {low : Corner → Bool} (reads : ∀ c, low c = true ↔ s.eu.env.offsets[c.val] ≠ 0) {entry : RisingEntry} {r : Record}
        (one : s.lc.rising = [entry]) (risen : s.toReport low = [entry]) (names : s.names entry.handle = true)
        (stands : s.recordAt entry.handle.slot = some r) (releasing : r.state = .releasing) (step : r.releaseLeft = 0)
        (dist : r.distLeft = 0 ∨ r.steer = none) (parent : r.parent = none) (none' : s.Unlisted) :=
      endLevel_frees (e := e) live held quiet reads one risen names stands releasing step dist parent none' rfl
    generalize lookRisen (watchDegraded (s.levelled e)) = t at *
    refine ⟨t, ends, now, reset, sp, mc, bc, js, dl, dt, context, ?_, fun quiet low risen reads is => ⟨fun distinct may => ?_, ?_⟩⟩
    · rw [now]
      exact corners
    · subst is
      exact reports quiet reads distinct may
    · subst is
      intro entry r one risen names stands releasing step dist parent none'
      exact frees quiet reads one risen names stands releasing step dist parent none'

end Sys2Proof.Machine
end
